-- ==== Sys2Proof/Word.lean ====
section
/-! DEFINITION. The plain types of the AT16 model: bytes, sample and slot numbers, bay and
position numbers, tags, and `Tab`, a table of a fixed number of like things.

Widths: sample numbers are 32 bits and slot numbers 29 bits (00_scope.md, Modular comparison; R44,
R45), bays are 0..15, record positions 0..3 (R17), tags 0..15 (R1). -/

namespace Sys2Proof

/-- One character's eight data bits on a lane or on the management port (R147, R163). -/
abbrev Byte := BitVec 8

/-- A sample number, modulo 2^32 (R44). -/
abbrev Sample := BitVec 32

/-- A slot number, modulo 2^29 (R45). -/
abbrev Slot := BitVec 29

/-- A bay number, 0..15. -/
abbrev Bay := Fin 16

/-- A seek record position of a bay, 0..3 (R17). -/
abbrev Pos := Fin 4

/-- A drive's name for one of its seeks, 0..15 (R1). -/
abbrev Tag := BitVec 4

/-- A table of exactly `n` entries, held as a list with its length. -/
structure Tab (n : Nat) (α : Type) where
  cells : List α
  size : cells.length = n
deriving DecidableEq, Repr

namespace Tab

/-- The entry at index `i`. -/
def get {n : Nat} {α : Type} (t : Tab n α) (i : Fin n) : α :=
  t.cells[i.val]'(t.size.symm ▸ i.isLt)

/-- The table whose entry at `i` is `f i`. -/
def gen {α : Type} (n : Nat) (f : Fin n → α) : Tab n α :=
  ⟨List.ofFn f, List.length_ofFn⟩

/-- The table with every entry `v`. -/
def fill {α : Type} (n : Nat) (v : α) : Tab n α :=
  ⟨List.replicate n v, List.length_replicate⟩

/-- The table with entry `i` replaced by `v`. -/
def upd {n : Nat} {α : Type} (t : Tab n α) (i : Fin n) (v : α) : Tab n α :=
  ⟨t.cells.set i.val v, List.length_set.trans t.size⟩

/-- Two tables with the same entries are the same table. -/
theorem ext_get {n : Nat} {α : Type} {t u : Tab n α} (h : ∀ i, t.get i = u.get i) : t = u := by
  obtain ⟨c, hc⟩ := t
  obtain ⟨d, hd⟩ := u
  have : c = d := List.ext_getElem (hc.trans hd.symm) fun i h1 _ => h ⟨i, hc ▸ h1⟩
  subst this
  rfl

@[simp] theorem get_gen {n : Nat} {α : Type} (f : Fin n → α) (i : Fin n) :
    (gen n f).get i = f i := by
  simp [get, gen]

@[simp] theorem get_fill {n : Nat} {α : Type} (v : α) (i : Fin n) : (fill n v).get i = v := by
  simp [get, fill]

@[simp] theorem get_upd_self {n : Nat} {α : Type} (t : Tab n α) (i : Fin n) (v : α) :
    (t.upd i v).get i = v := by
  simp [get, upd]

theorem get_upd {n : Nat} {α : Type} (t : Tab n α) (i j : Fin n) (v : α) :
    (t.upd i v).get j = if i = j then v else t.get j := by
  simp only [get, upd, List.getElem_set, Fin.ext_iff]

theorem get_upd_ne {n : Nat} {α : Type} (t : Tab n α) {i j : Fin n} (v : α) (h : i ≠ j) :
    (t.upd i v).get j = t.get j := by
  rw [get_upd, if_neg h]

@[simp] theorem upd_get {n : Nat} {α : Type} (t : Tab n α) (i : Fin n) :
    t.upd i (t.get i) = t :=
  ext_get fun j => by
    rw [get_upd]
    split
    · next h => rw [h]
    · rfl

end Tab

end Sys2Proof
end

