-- ==== Sys2Proof/Syntax.lean ====
section
/-! DEFINITION. The commands of the AT16: one constructor of `Instr` per row of
spec/opcode_table.json, with the operands the row's event carries.

The table gives the rows no bits and no fields. The operands are what the rules let the outside
decide: the bay an event concerns, the payload of a frame, the fields of a request, and, where
the rules say that an outcome depends on which of several things is taken first, that order. -/

namespace Sys2Proof

/-- One duty of a sample boundary whose place among the others is the world's choice: the rules
give the outcome of either order (R66, R79, R93, R102) or say that frames leave in either order
(R57, R115, R158). -/
inductive Duty where
  /-- Launch or expiry of the seek of bay `b` whose launch slot begins (R22, R23, R55). -/
  | seek (b : Bay)
  /-- The burst boundary duty of bay `b`'s stream (R101, R102). -/
  | stream (b : Bay)
  /-- The advance of the epoch counter and the epoch end it may bring (R49, R126, R127). -/
  | epoch
  /-- The clearing of the hold flags and the search start it allows (R66, R71). -/
  | search
  /-- WELCOME on bay `b`'s lane for a changed divisor (R48). -/
  | welcome (b : Bay)
  /-- MARK on bay `b`'s lane (R57). -/
  | mark (b : Bay)
deriving DecidableEq, Repr

/-- How a received frame is bad (R148). -/
inductive FrameFault where
  | checkMismatch
  | stopBitSpace
  | lengthOver40
  | cutShort
deriving DecidableEq, Repr

/-- The sixteen request kinds of the management port (R166). -/
inductive RequestKind where
  | settingRead | settingWrite | hubRead | hubWrite | freeze | thaw | peekRow | pokeRow
  | activeRowRead | bayInspect | exposureRead | attentionRead | attentionClear
  | attentionConfigure | bayReset | hubReset
deriving DecidableEq, Repr

/-- Why a request is answered BAD_REQUEST (R164). -/
inductive BadRequest where
  | checkMismatch
  | unknownKind
  | wrongLength (k : RequestKind)
  | badBay (k : RequestKind)
deriving DecidableEq, Repr

/-- The fields of a SETTING WRITE after the stream enable bit, as carried (R166). -/
structure SettingFields where
  burst : Byte
  lead : Byte
  gain : Byte
  limit : BitVec 16
  shift : Byte
  rate : Byte
  deadband : Byte
  dither : Byte
deriving DecidableEq, Repr

/-- The commands, in the table's order. A frame's payload is carried as received, so that its
length and content checks are part of the command's meaning. -/
inductive Instr where
  | powerOn
  | pinReset
  | resetRelease (order : List Duty)
  | sampleBoundary (order : List Duty)
  | slotStart (order : List Duty)
  | epochEnd (order : List Duty)
  /-- `searchFirst`: the Arbiter takes its search start before a due commit's rebuild start (R79). -/
  | rebuildComplete (searchFirst : Bool)
  | searchStart
  | searchComplete
  | burstComplete (b : Bay)
  /-- `record`: the first sample of the delivery record whose revision completes (R109). -/
  | revisionComplete (b : Bay) (record : Sample)
  | drainComplete (b : Bay)
  | laneTransmit (b : Bay)
  | presenceRise (b : Bay)
  | presenceFall (b : Bay)
  | badFrame (b : Bay) (why : FrameFault)
  | unknownFrame (b : Bay) (kind : Byte) (payload : List Byte)
  | hello (b : Bay) (payload : List Byte)
  | notice (b : Bay) (payload : List Byte)
  | commit (b : Bay) (payload : List Byte)
  | abort (b : Bay) (payload : List Byte)
  | residual (b : Bay) (payload : List Byte)
  | badRequest (why : BadRequest)
  | settingRead (b : Bay)
  | streamEnable (b : Bay) (w : SettingFields)
  | streamDisable (b : Bay) (w : SettingFields)
  | hubRead
  | hubWrite (divisor : BitVec 16) (code : Byte)
  | freeze
  | thaw
  | peekRow (b : Bay)
  | pokeRow (b : Bay) (row : Tab 16 (Byte × Byte))
  | activeRowRead (b : Bay)
  | bayInspect (b : Bay) (page : Byte)
  | exposureRead (b : Bay) (offset count : Byte)
  | attentionRead
  | attentionClear (causes : Byte)
  | attentionConfigure (mask route : Byte)
  | bayReset (b : Bay)
  | hubReset
  | hubResetAtCsnRise
deriving DecidableEq, Repr

end Sys2Proof
end

