-- ==== Sys2Proof/WellFormed.lean ====
section
/-! DEFINITION. Which commands the part's ports can deliver: payloads of at most 40 bytes (R148), an
unknown kind that is none of the drive-to-part kinds (R150), and a bad bay number only in a
request that names a bay (R164, R166). -/

namespace Sys2Proof

/-- The code of a drive-to-part kind: HELLO 01h to RESIDUAL 05h (R150). -/
def isDriveKind (kind : Byte) : Bool :=
  decide (1 ≤ kind.toNat) && decide (kind.toNat ≤ 5)

/-- A payload is 0..40 bytes (R148). -/
def payloadFits (payload : List Byte) : Bool :=
  decide (payload.length ≤ 40)

/-- The request names a bay (R166). -/
def RequestKind.namesBay : RequestKind → Bool
  | .settingRead | .settingWrite | .peekRow | .pokeRow | .activeRowRead | .bayInspect
  | .exposureRead | .bayReset => true
  | .hubRead | .hubWrite | .freeze | .thaw | .attentionRead | .attentionClear
  | .attentionConfigure | .hubReset => false

/-- The checks on a command's operands. -/
def Instr.wellFormed : Instr → Bool
  | .unknownFrame _ kind payload => !isDriveKind kind && payloadFits payload
  | .hello _ payload => payloadFits payload
  | .notice _ payload => payloadFits payload
  | .commit _ payload => payloadFits payload
  | .abort _ payload => payloadFits payload
  | .residual _ payload => payloadFits payload
  | .badRequest (.badBay k) => k.namesBay
  | .badRequest .checkMismatch => true
  | .badRequest .unknownKind => true
  | .badRequest (.wrongLength _) => true
  | .powerOn => true
  | .pinReset => true
  | .resetRelease _ => true
  | .sampleBoundary _ => true
  | .slotStart _ => true
  | .epochEnd _ => true
  | .rebuildComplete _ => true
  | .searchStart => true
  | .searchComplete => true
  | .burstComplete _ => true
  | .revisionComplete _ _ => true
  | .drainComplete _ => true
  | .laneTransmit _ => true
  | .presenceRise _ => true
  | .presenceFall _ => true
  | .badFrame _ _ => true
  | .settingRead _ => true
  | .streamEnable _ _ => true
  | .streamDisable _ _ => true
  | .hubRead => true
  | .hubWrite _ _ => true
  | .freeze => true
  | .thaw => true
  | .peekRow _ => true
  | .pokeRow _ _ => true
  | .activeRowRead _ => true
  | .bayInspect _ _ => true
  | .exposureRead _ _ _ => true
  | .attentionRead => true
  | .attentionClear _ => true
  | .attentionConfigure _ _ => true
  | .bayReset _ => true
  | .hubReset => true
  | .hubResetAtCsnRise => true

end Sys2Proof
end

