-- ==== Sys2Proof/Decode.lean ====
section
/-! DEFINITION. What bytes spell: the check polynomial (R148), the byte order (R149), the kind codes
(R150, R166), and the command that a received lane frame or a management request stands for
(R148, R152, R164). The opcode table gives no row any bits, so `decodeTableWord` spells none. -/

namespace Sys2Proof

/-- The table numbers no bits for any row, so no word spells a command. -/
def decodeTableWord (_nbits _w : Nat) : Option Instr :=
  none

/-! ## The check and the byte order -/

/-- One of the eight steps of the CRC-8 register: generator x⁸ + x² + x + 1, most significant bit
first (R148). -/
def crcStep (r : Byte) : Byte :=
  if r.msb then (r <<< 1) ^^^ 0x07#8 else r <<< 1

/-- The register after `n` more steps. -/
def crcSteps : Nat → Byte → Byte
  | 0, r => r
  | n + 1, r => crcSteps n (crcStep r)

/-- The check of a frame: initial value FFh, no reflection and no final inversion (R148). -/
def crc8 (bytes : List Byte) : Byte :=
  bytes.foldl (fun r b => crcSteps 8 (r ^^^ b)) 0xFF#8

/-- A multi-byte field, least significant byte first (R149). -/
def leNat : List Byte → Nat
  | [] => 0
  | b :: rest => b.toNat + 256 * leNat rest

/-- `n` bytes of a number, least significant byte first (R149). -/
def leBytes : Nat → Nat → List Byte
  | 0, _ => []
  | n + 1, v => BitVec.ofNat 8 v :: leBytes n (v / 256)

/-- The byte at a payload offset, 0 beyond the payload. -/
def byteAt (payload : List Byte) (i : Nat) : Byte :=
  payload.getD i 0#8

/-- The `n`-byte field at a payload offset. -/
def fieldAt (payload : List Byte) (i n : Nat) : Nat :=
  leNat ((payload.drop i).take n)

/-! ## Lane frames -/

/-- The kind codes of the drive-to-part frames and of the part-to-drive frames (R150). -/
def kindHello : Byte := 0x01#8
def kindNotice : Byte := 0x02#8
def kindCommit : Byte := 0x03#8
def kindAbort : Byte := 0x04#8
def kindResidual : Byte := 0x05#8
def kindWelcome : Byte := 0x81#8
def kindGrant : Byte := 0x82#8
def kindRefuse : Byte := 0x83#8
def kindConfirm : Byte := 0x84#8
def kindExpire : Byte := 0x85#8
def kindTardy : Byte := 0x86#8
def kindCorrect : Byte := 0x87#8
def kindRevise : Byte := 0x88#8
def kindHalt : Byte := 0x89#8
def kindMark : Byte := 0x8A#8

/-- The command of a good frame, by its kind (R150, R152). -/
def goodFrameCommand (b : Bay) (kind : Byte) (payload : List Byte) : Instr :=
  if kind = kindHello then .hello b payload
  else if kind = kindNotice then .notice b payload
  else if kind = kindCommit then .commit b payload
  else if kind = kindAbort then .abort b payload
  else if kind = kindResidual then .residual b payload
  else .unknownFrame b kind payload

/-- The command of a run of received bytes, all with their stop bits at the mark level, that ended
with its check or with two idle character times (R148). -/
def laneFrameCommand (b : Bay) : List Byte → Instr
  | kind :: len :: rest =>
    if 40 < len.toNat then .badFrame b .lengthOver40
    else if rest.length ≤ len.toNat then .badFrame b .cutShort
    else
      let payload := rest.take len.toNat
      if crc8 (kind :: len :: payload) = byteAt rest len.toNat then goodFrameCommand b kind payload
      else .badFrame b .checkMismatch
  | _ => .badFrame b .cutShort

/-! ## Management requests -/

/-- The kind code of a request (R166). -/
def RequestKind.code : RequestKind → Byte
  | .settingRead => 0x20#8
  | .settingWrite => 0x21#8
  | .hubRead => 0x22#8
  | .hubWrite => 0x23#8
  | .freeze => 0x24#8
  | .thaw => 0x25#8
  | .peekRow => 0x26#8
  | .pokeRow => 0x27#8
  | .activeRowRead => 0x28#8
  | .bayInspect => 0x29#8
  | .exposureRead => 0x2A#8
  | .attentionRead => 0x2B#8
  | .attentionClear => 0x2C#8
  | .attentionConfigure => 0x2D#8
  | .bayReset => 0x2E#8
  | .hubReset => 0x2F#8

/-- The payload length of a request (R166). -/
def RequestKind.payloadLength : RequestKind → Nat
  | .settingRead => 1
  | .settingWrite => 11
  | .hubRead => 0
  | .hubWrite => 3
  | .freeze => 0
  | .thaw => 0
  | .peekRow => 1
  | .pokeRow => 33
  | .activeRowRead => 1
  | .bayInspect => 2
  | .exposureRead => 3
  | .attentionRead => 0
  | .attentionClear => 1
  | .attentionConfigure => 2
  | .bayReset => 1
  | .hubReset => 0

/-- The sixteen kinds in code order. -/
def requestKinds : List RequestKind :=
  [.settingRead, .settingWrite, .hubRead, .hubWrite, .freeze, .thaw, .peekRow, .pokeRow,
    .activeRowRead, .bayInspect, .exposureRead, .attentionRead, .attentionClear,
    .attentionConfigure, .bayReset, .hubReset]

/-- The request kind of a kind byte, none for a byte R166 does not list. -/
def requestKindOf (kind : Byte) : Option RequestKind :=
  requestKinds.find? fun k => k.code == kind

/-- The fields of a SETTING WRITE payload after the bay and the stream enable byte (R166). -/
def settingFieldsOf (payload : List Byte) : SettingFields where
  burst := byteAt payload 2
  lead := byteAt payload 3
  gain := byteAt payload 4
  limit := BitVec.ofNat 16 (fieldAt payload 5 2)
  shift := byteAt payload 7
  rate := byteAt payload 8
  deadband := byteAt payload 9
  dither := byteAt payload 10

/-- The sixteen carried entries of a POKE ROW payload (R166). -/
def pokedRowOf (payload : List Byte) : Tab 16 (Byte × Byte) :=
  Tab.gen 16 fun s => (byteAt payload (1 + 2 * s.val), byteAt payload (2 + 2 * s.val))

/-- The bay a request names, none for 16 or more (R164). -/
def bayOf (x : Byte) : Option Bay :=
  if h : x.toNat < 16 then some ⟨x.toNat, h⟩ else none

/-- The command of a request of kind `k` that names bay `b` or, in kinds that name none, any. -/
def requestFor (k : RequestKind) (b : Bay) (p : List Byte) : Instr :=
  match k with
  | .settingRead => .settingRead b
  | .settingWrite =>
    if (byteAt p 1).getLsbD 0 then .streamEnable b (settingFieldsOf p)
    else .streamDisable b (settingFieldsOf p)
  | .hubRead => .hubRead
  | .hubWrite => .hubWrite (BitVec.ofNat 16 (fieldAt p 0 2)) (byteAt p 2)
  | .freeze => .freeze
  | .thaw => .thaw
  | .peekRow => .peekRow b
  | .pokeRow => .pokeRow b (pokedRowOf p)
  | .activeRowRead => .activeRowRead b
  | .bayInspect => .bayInspect b (byteAt p 1)
  | .exposureRead => .exposureRead b (byteAt p 1) (byteAt p 2)
  | .attentionRead => .attentionRead
  | .attentionClear => .attentionClear (byteAt p 0)
  | .attentionConfigure => .attentionConfigure (byteAt p 0) (byteAt p 1)
  | .bayReset => .bayReset b
  | .hubReset => .hubReset

/-- The command of a well-checked request, in R164's order of failures: unknown kind, wrong length,
bad bay. -/
def checkedRequest (kind : Byte) (payload : List Byte) : Instr :=
  match requestKindOf kind with
  | none => .badRequest .unknownKind
  | some k =>
    if payload.length = k.payloadLength then
      if k.namesBay then
        match bayOf (byteAt payload 0) with
        | none => .badRequest (.badBay k)
        | some b => requestFor k b payload
      else requestFor k 0 payload
    else .badRequest (.wrongLength k)

/-- The command of the bytes clocked in during one select period, none where nothing is taken and no
response is given: CSn rose before the check byte, or the length byte is above 40 (R164). -/
def requestCommand : List Byte → Option Instr
  | kind :: len :: rest =>
    if 40 < len.toNat then none
    else if rest.length ≤ len.toNat then none
    else
      let payload := rest.take len.toNat
      if crc8 (kind :: len :: payload) = byteAt rest len.toNat then
        some (checkedRequest kind payload)
      else some (.badRequest .checkMismatch)
  | _ => none

end Sys2Proof
end

