-- ==== Sys2Proof/Machine/State.lean ====
section
/-! DEFINITION. The state of the AT16 as plain data, block by block (00_scope.md, Functional
Overview), the reasons a command can stop, and the state after power-on. -/

namespace Sys2Proof.Machine

/-! ## Seek Table -/

/-- The states of a live seek (R13). -/
inductive SeekState where
  | posted | granted | committed | running | tail
deriving DecidableEq, Repr

/-- A profile segment as stored: level −127..+127, duration 1..256 (R2, R13). -/
structure Segment where
  level : Int
  duration : Nat
deriving DecidableEq, Repr

/-- The grant markers OVER and DELAYED (R14). -/
structure Markers where
  overLimit : Bool
  delayed : Bool
deriving DecidableEq, Repr

/-- A seek record (R13, R14). `length` is P, `shift` k, `tailLen` z and `mags` M. -/
structure Seek where
  tag : Tag
  state : SeekState
  auto : Bool
  earliest : Slot
  latest : Slot
  segments : List Segment
  length : Nat
  shift : Nat
  tailLen : Nat
  span : Nat
  mags : List Nat
  launch : Option Slot
  markers : Option Markers
  abortIndex : Option Nat
deriving DecidableEq, Repr

/-! ## Bay lanes -/

/-- The states of a lane (R151). -/
inductive LaneState where
  | absent | detected | ready | fault
deriving DecidableEq, Repr

/-- REFUSE reasons (R149). -/
inductive Reason where
  | full | dupTag | tooLong | malformed | notReady | noSeek | notGranted
deriving DecidableEq, Repr

/-- The frames the part sends (R150). -/
inductive Frame where
  | welcome (bay : Bay) (divisor : Nat) (sample : Sample) (burst lead : Nat)
  | grant (tag : Tag) (launch : Sample) (span : Nat) (overLimit delayed auto : Bool)
  | refuse (tag : Option Tag) (reason : Reason) (kind : Byte)
  | confirm (tag : Tag) (launch : Sample)
  | expire (tag : Tag) (launch : Sample)
  | tardy (tag : Tag)
  | correct (first : Sample) (values : List Int)
  | revise (first : Sample) (values : List Int)
  | halt (last : Option Sample)
  | mark (first : Sample)
deriving DecidableEq, Repr

/-- The drive's declared capabilities as taken (R154). -/
structure Caps where
  protocol : Byte
  maxBurst : Nat
  maxLead : Nat
  identity : BitVec 32
deriving DecidableEq, Repr

/-- One lane: its state, the count of consecutive bad frames, the declared capabilities, the transmit
queue with its head first, and the bay's last-expired tag (09_bay_lanes.md, opening; R32). `line` is
the model's own: the bytes of the frame the transmitter last put on the line (assumption 8). -/
structure Lane where
  state : LaneState
  bad : Nat
  caps : Option Caps
  queue : List Frame
  lastExpired : Option Tag
  line : List Byte
deriving DecidableEq, Repr

/-- A lane's receiver: waiting for two idle character times, of which `n` have passed; ready for a frame
start; or within a frame, its bytes so far and the idle times since the last of them (R147, R148). -/
inductive Receiver where
  | settling (n : Nat)
  | waiting
  | inFrame (bytes : List Byte) (idles : Nat)
deriving DecidableEq, Repr

/-! ## Correction streams -/

/-- The states of a stream (R96). -/
inductive StreamState where
  | off | starting | running | draining
deriving DecidableEq, Repr

/-- A delivery record (R104). -/
structure Delivery where
  first : Sample
  burst : Nat
  revised : Bool
deriving DecidableEq, Repr

/-- A coverage record: first and last covered sample (R105). -/
structure Coverage where
  first : Sample
  last : Sample
deriving DecidableEq, Repr

/-- A burst in computation: its first sample, its pending-change flag, the sample of its start, and
the values the Predictor forms from what it read there (R83, R102, R108). -/
structure Burst where
  first : Sample
  pendingChange : Bool
  start : Sample
  values : List Int
deriving DecidableEq, Repr

/-- A revision in computation: the first sample of its delivery record, the sample of its start, and
the values the Predictor forms from what it read there; `[]` until the event that starts it has taken
every step (R83, R109). -/
structure Revision where
  record : Sample
  start : Sample
  values : List Int
deriving DecidableEq, Repr

/-- One stream (R96). `burstLen` and `lead` are the effective values. -/
structure Stream where
  state : StreamState
  burstLen : Nat
  lead : Nat
  delivery : List Delivery
  coverage : Option Coverage
  burst : Option Burst
  revisions : List Revision
deriving DecidableEq, Repr

/-! ## Setting records -/

/-- Adapt rates (R141). -/
inductive AdaptRate where
  | off | slow | medium | fast
deriving DecidableEq, Repr

/-- Dither orders (R90). -/
inductive Dither where
  | sequential | interleaved
deriving DecidableEq, Repr

/-- A bay setting record (R167). -/
structure Setting where
  enable : Bool
  burst : Nat
  lead : Nat
  gain : Nat
  limit : Nat
  shift : Nat
  rate : AdaptRate
  deadband : Nat
  dither : Dither
deriving DecidableEq, Repr

/-! ## Coefficient store -/

/-- The coefficient C and delay d of an ordered pair (R117). -/
structure Coeff where
  c : Int
  d : Nat
deriving DecidableEq, Repr

/-- One table: row b, source bay s (R117). -/
abbrev CoeffTable := Tab 16 (Tab 16 Coeff)

/-- The epoch lengths (R49). -/
inductive EpochLength where
  | slots64 | slots128 | slots256 | slots512
deriving DecidableEq, Repr

/-- The Coefficient Store (R117, R119). -/
structure Store where
  active : CoeffTable
  working : CoeffTable
  snapshot : CoeffTable
  frozen : Bool
  written : Bool
  epochCount : Nat
  epochLength : EpochLength
  sequence : BitVec 16
  commitDue : Bool
deriving DecidableEq, Repr

/-! ## Admission -/

/-- An entry of the admission queue: one seek record and its hold flag (R64). -/
structure QueueEntry where
  bay : Bay
  pos : Pos
  held : Bool
deriving DecidableEq, Repr

/-- What a search read of a bay it tests (R68). -/
structure Tested where
  bay : Bay
  c : Int
  limit : Nat
  row : Tab 64 Nat
deriving DecidableEq, Repr

/-- The engine while SEARCHING: the seek it works on, the values it read at its start (R68), and the
working slots and candidates they give (R69, R70, R71). `others` holds the launch slot and run length
of every other granted seek of the bay. -/
structure Search where
  bay : Bay
  pos : Pos
  startSample : Sample
  startSlot : Slot
  span : Nat
  mags : List Nat
  earliest : Slot
  latest : Slot
  others : List (Slot × Nat)
  tested : List Tested
  workEarliest : Slot
  workLatest : Slot
  candidates : List Slot
deriving DecidableEq, Repr

/-! ## Time base, attention, port and pins -/

/-- The Time Base (R44, R47). `divider` counts REFCLK periods of the current sample. -/
structure TimeBase where
  divider : Nat
  divisor : Nat
  pendingDivisor : Option Nat
  sample : Sample
deriving DecidableEq, Repr

/-- The Attention Unit: pending, mask and route bytes, and eight bay sets in cause order (R166, R176,
R177). -/
structure Attention where
  pending : Byte
  mask : Byte
  route : Byte
  sets : Tab 8 (BitVec 16)
deriving DecidableEq, Repr

/-- What the reset-cause record holds (R170). -/
inductive ResetCause where
  | power | pin | command
deriving DecidableEq, Repr

/-- A response: its kind byte and its payload, without length and check (R163, R166). -/
structure Response where
  kind : Byte
  payload : List Byte
deriving DecidableEq, Repr

/-- Where the port stands in a select period (R163, R164). -/
inductive SelectPhase where
  /-- CSn is high. -/
  | idle
  /-- CSn is low and no request has been taken: the MOSI bytes since its fall. -/
  | request (mosi : List Byte)
  /-- CSn is low and the check byte has been received: the bytes clocked since. -/
  | answered (n : Nat)
  /-- CSn is low and the period takes and gives nothing more: its length byte was above 40, or a reset
  ended it. -/
  | over
deriving DecidableEq, Repr

/-- The Management Port besides the setting records: the select period with the bits sampled of the byte
in progress and the level driven on MISO, true for high (R163), the response of the request last taken
(R164), the hub reset a HUB RESET request has armed (R174), and the reset-cause record (R170). -/
structure Port where
  select : SelectPhase
  shift : List Bool
  miso : Bool
  response : Option Response
  resetArmed : Bool
  cause : ResetCause
deriving DecidableEq, Repr

/-- Input levels: which bays have PRESENTn low (R151), and whether a power-on or pin reset has been
taken and not yet released (R46, R163). -/
structure Pins where
  present : Tab 16 Bool
  resetHeld : Bool
deriving DecidableEq, Repr

/-! ## The whole machine -/

/-- The state of the part and the commands waiting, first in first out. -/
structure State where
  time : TimeBase
  lanes : Tab 16 Lane
  receivers : Tab 16 Receiver
  seeks : Tab 16 (Tab 4 (Option Seek))
  /-- By bay and age: the entry at age 0 is the current sample's (R35). -/
  history : Tab 16 (Tab 72 Int)
  /-- By bay and position (R50). -/
  exposure : Tab 16 (Tab 64 Nat)
  /-- The rebuild in progress, by the sample of its start (R58). -/
  rebuild : Option Sample
  /-- Oldest first (R64). -/
  queue : List QueueEntry
  /-- `none` is IDLE (R66). -/
  engine : Option Search
  streams : Tab 16 Stream
  settings : Tab 16 Setting
  store : Store
  /-- `A[b][s]`, row b, source bay s; the diagonal is unused and 0 (R137). -/
  acc : Tab 16 (Tab 16 Int)
  attention : Attention
  port : Port
  pins : Pins
  pending : List Instr
deriving DecidableEq, Repr

/-- The reasons a command can fault: none. Every command of the table has the effect the rules give it
in every state, so no meaning raises a fault, and there is nothing safe or unsafe to say of one. -/
inductive Fault where
deriving DecidableEq, Repr

/-- The reasons a command can be refused. -/
inductive Refusal where
  /-- Raised by `exec` alone, for a row without a meaning: none is left. Safe: the run stops. -/
  | notModelled (mnemonic : String)
deriving DecidableEq, Repr

/-! ## Field updates -/

namespace State

def setTime (s : State) (x : TimeBase) : State := { s with time := x }
def setLanes (s : State) (x : Tab 16 Lane) : State := { s with lanes := x }
def setReceivers (s : State) (x : Tab 16 Receiver) : State := { s with receivers := x }
def setSeeks (s : State) (x : Tab 16 (Tab 4 (Option Seek))) : State := { s with seeks := x }
def setHistory (s : State) (x : Tab 16 (Tab 72 Int)) : State := { s with history := x }
def setExposure (s : State) (x : Tab 16 (Tab 64 Nat)) : State := { s with exposure := x }
def setRebuild (s : State) (x : Option Sample) : State := { s with rebuild := x }
def setQueue (s : State) (x : List QueueEntry) : State := { s with queue := x }
def setEngine (s : State) (x : Option Search) : State := { s with engine := x }
def setStreams (s : State) (x : Tab 16 Stream) : State := { s with streams := x }
def setSettings (s : State) (x : Tab 16 Setting) : State := { s with settings := x }
def setStore (s : State) (x : Store) : State := { s with store := x }
def setAcc (s : State) (x : Tab 16 (Tab 16 Int)) : State := { s with acc := x }
def setAttention (s : State) (x : Attention) : State := { s with attention := x }
def setPort (s : State) (x : Port) : State := { s with port := x }
def setPins (s : State) (x : Pins) : State := { s with pins := x }
def setPending (s : State) (x : List Instr) : State := { s with pending := x }

end State

/-! ## Reset values -/

/-- A lane after a hub reset (R159). -/
def Lane.reset : Lane where
  state := .absent
  bad := 0
  caps := none
  queue := []
  lastExpired := none
  line := []

/-- The port after power-on: CSn high, MISO high, no response, the cause POWER (R170; assumptions 9 and 23). -/
def Port.reset : Port where
  select := .idle
  shift := []
  miso := true
  response := none
  resetArmed := false
  cause := .power

/-- A stream after a hub reset (R96, R114). -/
def Stream.reset : Stream where
  state := .off
  burstLen := 4
  lead := 8
  delivery := []
  coverage := none
  burst := none
  revisions := []

/-- The defaults of a setting record (R167). -/
def Setting.reset : Setting where
  enable := false
  burst := 8
  lead := 32
  gain := 128
  limit := 4095
  shift := 4
  rate := .off
  deadband := 2
  dither := .sequential

/-- The table with every entry (0, 0) (R131). -/
def CoeffTable.zero : CoeffTable :=
  Tab.fill 16 (Tab.fill 16 ⟨0, 0⟩)

/-- The Coefficient Store after power-on, before the release of the reset (R131). -/
def Store.reset : Store where
  active := CoeffTable.zero
  working := CoeffTable.zero
  snapshot := CoeffTable.zero
  frozen := false
  written := false
  epochCount := 0
  epochLength := .slots256
  sequence := 0
  commitDue := false

/-- The Attention Unit after a hub reset: nothing pending, all masked, all routed to ATTN_A (R179). -/
def Attention.reset : Attention where
  pending := 0x00#8
  mask := 0xFF#8
  route := 0x00#8
  sets := Tab.fill 8 0

/-- The part after power-on, with the reset not yet released (R43, R46, R61, R63, R81, R96, R131, R144,
R159, R167, R170, R179). No bay is occupied (assumption 2). -/
def State.reset : State where
  time := { divider := 0, divisor := 1000, pendingDivisor := none, sample := 0 }
  lanes := Tab.fill 16 Lane.reset
  receivers := Tab.fill 16 (.settling 0)
  seeks := Tab.fill 16 (Tab.fill 4 none)
  history := Tab.fill 16 (Tab.fill 72 0)
  exposure := Tab.fill 16 (Tab.fill 64 0)
  rebuild := none
  queue := []
  engine := none
  streams := Tab.fill 16 Stream.reset
  settings := Tab.fill 16 Setting.reset
  store := Store.reset
  acc := Tab.fill 16 (Tab.fill 16 0)
  attention := Attention.reset
  port := Port.reset
  pins := { present := Tab.fill 16 false, resetHeld := true }
  pending := []

end Sys2Proof.Machine
end

