-- ==== Sys2Proof/Machine/Ops.lean ====
section
/-! DEFINITION. The named operations that every block shares: the modular comparison and the slot
arithmetic (00_scope.md, Modular comparison; R44, R45), saturation, and the reads and writes of one
bay's entry of a table. -/

namespace Sys2Proof.Machine

/-! ## Numbers -/

/-- Saturation to a range (00_scope.md, Arithmetic). -/
def saturate (lo hi x : Int) : Int :=
  max lo (min hi x)

/-- Clamping of a written setting to a range (00_scope.md, Arithmetic). -/
def clamp (lo hi x : Nat) : Nat :=
  max lo (min hi x)

/-- A signed byte as sent (R149). -/
def signedByte (v : Int) : Byte :=
  BitVec.ofInt 8 v

/-- A Boolean as one bit at a place of a byte. -/
def bitAt (i : Nat) (x : Bool) : Byte :=
  if x then BitVec.twoPow 8 i else 0#8

/-- `a` is earlier than `b`: the difference `b − a`, read as signed, is positive. -/
def earlier {w : Nat} (a b : BitVec w) : Bool :=
  decide (0 < (b - a).toInt)

/-- `a` is at or before `b`: the difference `b − a`, read as signed, is 0 or positive. -/
def atOrBefore {w : Nat} (a b : BitVec w) : Bool :=
  decide (0 ≤ (b - a).toInt)

/-- The later of two. -/
def later {w : Nat} (a b : BitVec w) : BitVec w :=
  if earlier a b then b else a

/-! ## Samples and slots -/

/-- The slot of a sample: its number div 8 (R45). -/
def slotOf (m : Sample) : Slot :=
  BitVec.ofNat 29 (m.toNat / 8)

/-- The first sample of a slot: its number times 8 (R16, R45). -/
def launchSample (t : Slot) : Sample :=
  BitVec.ofNat 32 (8 * t.toNat)

/-- The exposure position that stands for a slot: its number modulo 64 (R50). -/
def positionOf (t : Slot) : Fin 64 :=
  ⟨t.toNat % 64, Nat.mod_lt _ (by decide)⟩

/-- The slot of the horizon that a position stands for while `cur` is the current slot (R45, R50). -/
def slotAt (cur : Slot) (p : Fin 64) : Slot :=
  cur + BitVec.ofNat 29 ((p.val + 64 - cur.toNat % 64) % 64)

/-- The sample number begins a slot (R45). -/
def isSlotStart (m : Sample) : Bool :=
  m.toNat % 8 == 0

/-- The current sample (R44). -/
def State.now (s : State) : Sample :=
  s.time.sample

/-- The current slot (R45). -/
def State.slot (s : State) : Slot :=
  slotOf s.time.sample

/-- The sample boundary about to come begins a slot (R45). -/
def State.slotStartNext (s : State) : Bool :=
  isSlotStart (s.now + 1)

/-! ## Bays and positions -/

/-- The sixteen bays in order. -/
def bays : List Bay :=
  List.finRange 16

/-- The four record positions in order. -/
def positions : List Pos :=
  List.finRange 4

/-- The lane of bay `b`. -/
def State.lane (s : State) (b : Bay) : Lane :=
  s.lanes.get b

/-- The stream of bay `b`. -/
def State.stream (s : State) (b : Bay) : Stream :=
  s.streams.get b

/-- The setting record of bay `b`. -/
def State.setting (s : State) (b : Bay) : Setting :=
  s.settings.get b

/-- What stands at position `p` of bay `b` (R17). -/
def State.seekAt (s : State) (b : Bay) (p : Pos) : Option Seek :=
  (s.seeks.get b).get p

/-- The active coefficient and delay of the pair `(b, src)` (R117). -/
def State.coeff (s : State) (b src : Bay) : Coeff :=
  (s.store.active.get b).get src

/-- Bay `b`'s lane is READY. -/
def State.isReady (s : State) (b : Bay) : Bool :=
  (s.lane b).state == .ready

/-- The state with bay `b`'s lane replaced. -/
def State.putLane (s : State) (b : Bay) (l : Lane) : State :=
  s.setLanes (s.lanes.upd b l)

/-- The state with bay `b`'s stream replaced. -/
def State.putStream (s : State) (b : Bay) (t : Stream) : State :=
  s.setStreams (s.streams.upd b t)

/-- The state with position `p` of bay `b` replaced. -/
def State.putSeek (s : State) (b : Bay) (p : Pos) (r : Option Seek) : State :=
  s.setSeeks (s.seeks.upd b ((s.seeks.get b).upd p r))

/-- The live seeks of bay `b` with their positions (R17). -/
def State.liveSeeks (s : State) (b : Bay) : List (Pos × Seek) :=
  positions.filterMap fun p => (s.seekAt b p).map fun r => (p, r)

/-- The live seek of bay `b` that carries `tag`, with its position (R17). -/
def State.findTag (s : State) (b : Bay) (tag : Tag) : Option (Pos × Seek) :=
  (s.liveSeeks b).find? fun x => x.2.tag == tag

/-- Some bay holds a live seek, in any state (R47). -/
def State.anyLiveSeek (s : State) : Bool :=
  bays.any fun b => !(s.liveSeeks b).isEmpty

/-- Some stream is in a state other than OFF (R47). -/
def State.anyStreamOn (s : State) : Bool :=
  bays.any fun b => (s.stream b).state != .off

end Sys2Proof.Machine
end

