-- ==== Sys2Proof/Machine/Profile.lean ====
section
/-! DEFINITION. Seek profiles: compilation at intake, the tail, the span and the slot magnitudes
(R5 to R13), the cut of a running seek (R12), and the torque of seeks and bays (R33 to R36). -/

namespace Sys2Proof.Machine

/-! ## The compiled profile -/

/-- The profile length P: the sum of the segment durations (R5). -/
def profileLength (segs : List Segment) : Nat :=
  (segs.map (·.duration)).sum

/-- The level at every profile index, index 0 first (R2). -/
def profileLevels (segs : List Segment) : List Int :=
  segs.flatMap fun g => List.replicate g.duration g.level

/-- The tail value after `v`: toward zero by max(1, |v| >> k) (R7). -/
def tailStep (k : Nat) (v : Int) : Int :=
  v - v.sign * ((max 1 (v.natAbs >>> k) : Nat) : Int)

/-- The tail values after `v` before the first that is zero, at most `n` of them. -/
def tailFrom (k : Nat) : Nat → Int → List Int
  | 0, _ => []
  | n + 1, v => if tailStep k v = 0 then [] else tailStep k v :: tailFrom k n (tailStep k v)

/-- The tail v₁ … v_z from a starting level v₀; z is below |v₀|, so |v₀| steps reach its end (R7). -/
def tailOf (k : Nat) (v0 : Int) : List Int :=
  tailFrom k v0.natAbs v0

/-- The run of a profile up to, not including, index `n`. -/
def runLevels (segs : List Segment) (n : Nat) : List Int :=
  (profileLevels segs).take n

/-- The tail of a run: from the profile value at its last index (R7, R12). -/
def runTail (segs : List Segment) (n k : Nat) : List Int :=
  tailOf k ((runLevels segs n).getLastD 0)

/-- The profile and tail values of a run of length `n`, index 0 first (R11). -/
def profileValues (segs : List Segment) (n k : Nat) : List Int :=
  runLevels segs n ++ runTail segs n k

/-- The slots that `n` samples from a slot start occupy: ceil(n / 8) (R8). -/
def slotsFor (n : Nat) : Nat :=
  (n + 7) / 8

/-- The largest magnitude of a list of values, 0 of none. -/
def peak (vals : List Int) : Nat :=
  vals.foldl (fun a v => max a v.natAbs) 0

/-- The slot magnitude list: the largest magnitude of each span slot's values (R9). -/
def slotMagnitudes (vals : List Int) : List Nat :=
  (List.range (slotsFor vals.length)).map fun j => peak ((vals.drop (8 * j)).take 8)

/-- The effective lead: the notice's, clamped to 2..(64 − span) (R10). -/
def effectiveLead (span lead : Nat) : Nat :=
  clamp 2 (64 - span) lead

/-- The effective window: the smaller of the notice's and 64 − span − effective lead (R10). -/
def effectiveWindow (span lead window : Nat) : Nat :=
  min window (64 - span - effectiveLead span lead)

/-- The record of an accepted notice (R5 to R10, R13). -/
def compileSeek (tag : Tag) (auto : Bool) (lead window : Nat) (segs : List Segment) (k : Nat)
    (intake : Slot) : Seek :=
  let n := profileLength segs
  let vals := profileValues segs n k
  let span := slotsFor vals.length
  let earliest := intake + BitVec.ofNat 29 (effectiveLead span lead)
  { tag := tag
    state := .posted
    auto := auto
    earliest := earliest
    latest := earliest + BitVec.ofNat 29 (effectiveWindow span lead window)
    segments := segs
    length := n
    shift := k
    tailLen := (runTail segs n k).length
    span := span
    mags := slotMagnitudes vals
    launch := none
    markers := none
    abortIndex := none }

/-- P′: the abort index where there is one, else P (R16). -/
def Seek.runEnd (r : Seek) : Nat :=
  r.abortIndex.getD r.length

/-- P′ + z: the first index past the run and the tail (R16). -/
def Seek.tailEnd (r : Seek) : Nat :=
  r.runEnd + r.tailLen

/-- The record recompiled with abort index `n` (R12). -/
def recompileCut (r : Seek) (n : Nat) : Seek :=
  let vals := profileValues r.segments n r.shift
  { r with
    abortIndex := some n
    tailLen := (runTail r.segments n r.shift).length
    span := slotsFor vals.length
    mags := slotMagnitudes vals }

/-- The profile value at an index, 0 outside the run and the tail (R11). -/
def Seek.valueAt (r : Seek) (i : Int) : Int :=
  if i < 0 then 0 else (profileValues r.segments r.runEnd r.shift).getD i.toNat 0

/-! ## Torque -/

/-- The launch sample of a granted seek (R16). -/
def Seek.launchAt (r : Seek) : Sample :=
  match r.launch with
  | some t => launchSample t
  | none => 0

/-- The seek is in GRANTED, COMMITTED, RUNNING or TAIL. -/
def Seek.isGranted (r : Seek) : Bool :=
  r.state != .posted && r.launch.isSome

/-- The torque of a seek at sample `m` (R33). -/
def Seek.torqueAt (r : Seek) (m : Sample) : Int :=
  if r.isGranted then r.valueAt (m - r.launchAt).toInt else 0

/-- The torque of bay `b` at sample `m` from its records (R34). -/
def State.recordTorque (s : State) (b : Bay) (m : Sample) : Int :=
  saturate (-127) 127 (((s.liveSeeks b).map fun x => x.2.torqueAt m).sum)

/-- The torque of bay `b` at sample `m` as given to the Predictor and the Adaptation Unit (R36). -/
def State.torque (s : State) (b : Bay) (m : Sample) : Int :=
  if earlier m s.now then
    if h : (s.now - m).toNat < 72 then (s.history.get b).get ⟨(s.now - m).toNat, h⟩ else 0
  else s.recordTorque b m

/-- The seek expires at the boundary that begins sample `m` (R23). -/
def Seek.expiresAt (r : Seek) (m : Sample) : Bool :=
  r.state == .granted && isSlotStart m && r.launch == some (slotOf m)

/-- The value appended to bay `b`'s history at the boundary that begins sample `m`: a seek that
expires there contributes 0 (R35). -/
def State.appendedTorque (s : State) (b : Bay) (m : Sample) : Int :=
  saturate (-127) 127
    (((s.liveSeeks b).map fun x => if x.2.expiresAt m then 0 else x.2.torqueAt m).sum)

/-- A history with a new value at age 0 and the oldest dropped (R35). -/
def pushHistory (v : Int) (h : Tab 72 Int) : Tab 72 Int :=
  Tab.gen 72 fun i => if h0 : i.val = 0 then v else h.get ⟨i.val - 1, by omega⟩

/-- Every bay's history appended for the current sample (R35). -/
def appendHistories (s : State) : State :=
  s.setHistory (Tab.gen 16 fun b => pushHistory (s.appendedTorque b s.now) (s.history.get b))

end Sys2Proof.Machine
end

