-- ==== Sys2Proof/Machine/Exposure.lean ====
section
/-! DEFINITION. The exposure table: contributions (R50), the addition at a grant (R52), removal (R53),
replacement (R54), the recycling of a row (R56), and the rebuild's recomputation (R59). -/

namespace Sys2Proof.Machine

/-- The contribution of a slot magnitude under a coefficient: ceil(|C| × M / 64) (R50). -/
def contribution (c : Int) (m : Nat) : Nat :=
  (c.natAbs * m + 63) / 64

/-- The slot magnitude of a record at slot `t`, 0 outside its span (R50, R51). -/
def Seek.magAt (r : Seek) (t : Slot) : Nat :=
  match r.launch with
  | none => 0
  | some l => if (t - l).toInt < 0 then 0 else r.mags.getD (t - l).toNat 0

/-- The contribution of a record of bay `src` to bay `b` at slot `t` under the active coefficients;
none to its own bay (R50). -/
def State.loadOn (s : State) (src : Bay) (r : Seek) (b : Bay) (t : Slot) : Nat :=
  if b = src then 0 else contribution (s.coeff b src).c (r.magAt t)

/-- The exposure table with every entry recomputed from its bay, its position and its old value. -/
def State.mapExposure (s : State) (f : Bay → Fin 64 → Nat → Nat) : State :=
  s.setExposure (Tab.gen 16 fun b => Tab.gen 64 fun p => f b p ((s.exposure.get b).get p))

/-- A change of the table that is not made while a rebuild is in progress (R58). -/
def State.changeExposure (s : State) (f : Bay → Fin 64 → Nat → Nat) : State :=
  if s.rebuild.isSome then s else s.mapExposure f

/-- The addition of a granted record's contribution (R52). -/
def addExposure (src : Bay) (r : Seek) (s : State) : State :=
  s.changeExposure fun b p e => e + s.loadOn src r b (slotAt s.slot p)

/-- The removal of a record's contribution from slot current + 1 on (R53). -/
def removeExposure (src : Bay) (r : Seek) (s : State) : State :=
  s.changeExposure fun b p e =>
    if p = positionOf s.slot then e else e - s.loadOn src r b (slotAt s.slot p)

/-- The replacement of a record's contribution by its recompiled one from slot current + 1 on (R54). -/
def replaceExposure (src : Bay) (old new : Seek) (s : State) : State :=
  s.changeExposure fun b p e =>
    if p = positionOf s.slot then e
    else e - s.loadOn src old b (slotAt s.slot p) + s.loadOn src new b (slotAt s.slot p)

/-- The entries at the position that now stands for slot current + 63 set to 0 (R56). -/
def recycleExposure (s : State) : State :=
  s.changeExposure fun _ p e => if p = positionOf (s.slot + 63) then 0 else e

/-- The load that the granted seeks of the other bays place on bay `b` in slot `t` (R51). -/
def State.calendarLoad (s : State) (b : Bay) (t : Slot) : Nat :=
  (bays.map fun src =>
    ((s.liveSeeks src).map fun x => if x.2.isGranted then s.loadOn src x.2 b t else 0).sum).sum

/-- The whole table recomputed from the calendar (R59). -/
def recomputeExposure (s : State) : State :=
  s.mapExposure fun b p _ => s.calendarLoad b (slotAt s.slot p)

/-- The entry at position `p` of bay `b`. -/
def State.exposureAt (s : State) (b : Bay) (p : Fin 64) : Nat :=
  (s.exposure.get b).get p

end Sys2Proof.Machine
end

