-- ==== Sys2Proof/Machine/Admission.lean ====
section
/-! DEFINITION. The Admission Arbiter: the queue (R64, R65), the preparation of a search (R67 to R71),
the test and choice of candidates (R72, R73), and the search start (R66). -/

namespace Sys2Proof.Machine

/-! ## Preparation -/

/-- A seek's profile end: launch slot + ceil(P′ / 8) (R69). -/
def profileEnd (launch : Slot) (run : Nat) : Slot :=
  launch + BitVec.ofNat 29 (slotsFor run)

/-- The launch slot and run length of every granted seek of bay `b` other than at position `p` (R68). -/
def State.otherRuns (s : State) (b : Bay) (p : Pos) : List (Slot × Nat) :=
  (s.liveSeeks b).filterMap fun x =>
    if x.1 ≠ p ∧ x.2.state ≠ .posted then x.2.launch.map fun l => (l, x.2.runEnd) else none

/-- What a search on a seek of bay `src` reads of the bays it tests: those whose active coefficient
toward it is not 0 (R68, R72). -/
def State.testedBays (s : State) (src : Bay) : List Tested :=
  bays.filterMap fun b =>
    if b ≠ src ∧ (s.coeff b src).c ≠ 0 then
      some { bay := b, c := (s.coeff b src).c, limit := (s.setting b).limit, row := s.exposure.get b }
    else none

/-- The working earliest after own-bay spacing (R69). -/
def spacedEarliest (earliest : Slot) (others : List (Slot × Nat)) : Slot :=
  others.foldl (fun e x => later e (profileEnd x.1 x.2)) earliest

/-- The working earliest raised to start slot + 2 when at or before start slot + 1 (R70). -/
def raisedEarliest (start e : Slot) : Slot :=
  if atOrBefore e (start + 1) then start + 2 else e

/-- The candidates before the horizon bound: the window, or its one slot when exhausted (R70). -/
def windowSlots (e l : Slot) : List Slot :=
  if earlier l e then [e]
  else (List.range ((l - e).toNat + 1)).map fun i => e + BitVec.ofNat 29 i

/-- The candidates that keep the grant inside the horizon (R71). -/
def boundedSlots (start : Slot) (span : Nat) (cs : List Slot) : List Slot :=
  cs.filter fun t => atOrBefore t (start + 64 - BitVec.ofNat 29 span)

/-- A search prepared on the seek `r` at position `p` of bay `b` (R67 to R71). -/
def prepareSearch (s : State) (b : Bay) (p : Pos) (r : Seek) : Search :=
  let others := s.otherRuns b p
  let e := raisedEarliest s.slot (spacedEarliest r.earliest others)
  { bay := b
    pos := p
    startSample := s.now
    startSlot := s.slot
    span := r.span
    mags := r.mags
    earliest := r.earliest
    latest := r.latest
    others := others
    tested := s.testedBays b
    workEarliest := e
    workLatest := r.latest
    candidates := boundedSlots s.slot r.span (windowSlots e r.latest) }

/-- The search that a try on a queue entry gives; none where no candidate remains, a hold (R71). -/
def trySeek (s : State) (b : Bay) (p : Pos) : Option Search :=
  match s.seekAt b p with
  | none => none
  | some r =>
    let sr := prepareSearch s b p r
    if sr.candidates = [] then none else some sr

/-! ## Search start -/

/-- The queue and engine after the search start: the oldest unheld entry that leaves a candidate is
taken, and every unheld entry before it ends in a hold (R66, R67, R71). -/
def scanQueue (s : State) : List QueueEntry → List QueueEntry × Option Search
  | [] => ([], none)
  | e :: rest =>
    if e.held then
      let x := scanQueue s rest
      (e :: x.1, x.2)
    else
      match trySeek s e.bay e.pos with
      | some sr => (e :: rest, some sr)
      | none =>
        let x := scanQueue s rest
        ({ e with held := true } :: x.1, x.2)

/-- An IDLE engine with no rebuild in progress starts a search where an unheld entry allows one (R66). -/
def searchStart (s : State) : State :=
  if s.engine.isNone ∧ s.rebuild.isNone then
    let x := scanQueue s s.queue
    (s.setQueue x.1).setEngine x.2
  else s

/-- The entry of position `p` of bay `b` removed, the others in their order (R65). -/
def dequeue (b : Bay) (p : Pos) (s : State) : State :=
  s.setQueue (s.queue.filter fun e => !(e.bay == b && e.pos == p))

/-- The entry of a seek held (R71). -/
def holdEntry (b : Bay) (p : Pos) (s : State) : State :=
  s.setQueue (s.queue.map fun e => if e.bay = b ∧ e.pos = p then { e with held := true } else e)

/-- Every hold flag cleared (R71). -/
def clearHolds (s : State) : State :=
  s.setQueue (s.queue.map fun e => { e with held := false })

/-- A search on position `p` of bay `b` abandoned (R78). -/
def abandonSearch (b : Bay) (p : Pos) (s : State) : State :=
  match s.engine with
  | some sr => if sr.bay = b ∧ sr.pos = p then s.setEngine none else s
  | none => s

/-- A new search prepared on the seek whose completion was overtaken; not while a rebuild runs (R76). -/
def rerunSearch (b : Bay) (p : Pos) (s : State) : State :=
  if s.rebuild.isSome then s.setEngine none
  else
    match trySeek s b p with
    | some sr => s.setEngine (some sr)
    | none => searchStart ((holdEntry b p s).setEngine none)

/-! ## The test and the choice -/

/-- The excesses of a candidate over the limits of the tested bays (R72). -/
def excesses (sr : Search) (t : Slot) : List Int :=
  sr.tested.flatMap fun x =>
    (List.range sr.span).map fun j =>
      ((x.row.get (positionOf (t + BitVec.ofNat 29 j)) + contribution x.c (sr.mags.getD j 0) : Nat)
        : Int) - x.limit

/-- The largest of a list of excesses, 0 of none (R72). -/
def largest : List Int → Int
  | [] => 0
  | x :: xs => xs.foldl max x

/-- The worst excess of a candidate (R72). -/
def worstExcess (sr : Search) (t : Slot) : Int :=
  largest (excesses sr t)

/-- A candidate fits when every sum is at or below its bay's limit (R72). -/
def fits (sr : Search) (t : Slot) : Bool :=
  (excesses sr t).all fun x => decide (x ≤ 0)

/-- The candidate with the smallest worst excess, the earliest among equals, from `best` on (R73). -/
def leastHarm (sr : Search) (best : Slot) (cs : List Slot) : Slot :=
  cs.foldl (fun a t => if worstExcess sr t < worstExcess sr a then t else a) best

/-- The chosen slot and the OVER marker; none of no candidates (R73). -/
def chooseSlot (sr : Search) : Option (Slot × Bool) :=
  match sr.candidates.find? (fits sr) with
  | some t => some (t, false)
  | none =>
    match sr.candidates with
    | [] => none
    | t :: rest => some (leastHarm sr t rest, true)

end Sys2Proof.Machine
end

