-- ==== Sys2Proof/Machine/Flags.lean ====
section
/-! DEFINITION. The attention causes, their occurrence, clearing and the two lines (R176 to R179). -/

namespace Sys2Proof.Machine

/-- The eight attention causes, in bit order (11_attention.md). -/
inductive Cause where
  | arrive | depart | laneFault | forcedGrant | expiry | streamStopped | rebuilt | coeffLimit
deriving DecidableEq, Repr

/-- The bit of a cause in every cause byte (R166). -/
def Cause.bit : Cause → Fin 8
  | .arrive => 0
  | .depart => 1
  | .laneFault => 2
  | .forcedGrant => 3
  | .expiry => 4
  | .streamStopped => 5
  | .rebuilt => 6
  | .coeffLimit => 7

/-- The cause's pending flag set (R176). -/
def markPending (c : Cause) (a : Attention) : Attention :=
  { a with pending := a.pending ||| BitVec.twoPow 8 c.bit.val }

/-- The bay added to the cause's bay set (R176). -/
def addBay (c : Cause) (b : Bay) (a : Attention) : Attention :=
  { a with sets := a.sets.upd c.bit (a.sets.get c.bit ||| BitVec.twoPow 16 b.val) }

/-- An occurrence of a cause that names bay `b`; REBUILT adds no bay (R176). -/
def raiseCause (c : Cause) (b : Bay) (s : State) : State :=
  s.setAttention (if c = .rebuilt then markPending c s.attention
    else addBay c b (markPending c s.attention))

/-- The named causes' flags cleared and their sets emptied (R178). -/
def clearCauses (causes : Byte) (a : Attention) : Attention :=
  { a with
    pending := a.pending &&& ~~~causes
    sets := Tab.gen 8 fun i => if causes.getLsbD i.val then 0 else a.sets.get i }

/-- The pending, unmasked causes (R177). -/
def Attention.raised (a : Attention) : Byte :=
  a.pending &&& ~~~a.mask

/-- ATTN_A is asserted: some pending, unmasked cause is routed to it (R177). -/
def Attention.lineA (a : Attention) : Bool :=
  a.raised &&& ~~~a.route != 0#8

/-- ATTN_B is asserted (R177). -/
def Attention.lineB (a : Attention) : Bool :=
  a.raised &&& a.route != 0#8

/-- The level of the ATTN_A line; released while RESETn is held low (R177). -/
def State.attnA (s : State) : Bool :=
  !s.pins.resetHeld && s.attention.lineA

/-- The level of the ATTN_B line; released while RESETn is held low (R177). -/
def State.attnB (s : State) : Bool :=
  !s.pins.resetHeld && s.attention.lineB

end Sys2Proof.Machine
end

