-- ==== Sys2Proof/Machine/Frames.lean ====
section
/-! DEFINITION. The layouts of the frames the part sends (R148, R149, R150) and of the records its
responses carry (R166, R171). -/

namespace Sys2Proof.Machine

/-- REFUSE reason codes (R149). -/
def Reason.code : Reason → Byte
  | .full => 0x01#8
  | .dupTag => 0x02#8
  | .tooLong => 0x03#8
  | .malformed => 0x04#8
  | .notReady => 0x05#8
  | .noSeek => 0x06#8
  | .notGranted => 0x07#8

/-- The kind code of a frame (R150). -/
def Frame.kind : Frame → Byte
  | .welcome _ _ _ _ _ => kindWelcome
  | .grant _ _ _ _ _ _ => kindGrant
  | .refuse _ _ _ => kindRefuse
  | .confirm _ _ => kindConfirm
  | .expire _ _ => kindExpire
  | .tardy _ => kindTardy
  | .correct _ _ => kindCorrect
  | .revise _ _ => kindRevise
  | .halt _ => kindHalt
  | .mark _ => kindMark

/-- A tag byte: the tag in the four low bits, the others 0 (R149). -/
def tagByte (t : Tag) : Byte :=
  t.setWidth 8

/-- A sample number as four bytes (R149). -/
def sampleBytes (m : Sample) : List Byte :=
  leBytes 4 m.toNat

/-- The payload of a frame (R150). -/
def Frame.payload : Frame → List Byte
  | .welcome b div m bl lead =>
    BitVec.ofNat 8 b.val :: leBytes 2 div ++ sampleBytes m
      ++ [BitVec.ofNat 8 bl, BitVec.ofNat 8 lead]
  | .grant t l span o d a =>
    tagByte t :: sampleBytes l ++ [BitVec.ofNat 8 span, bitAt 0 o ||| bitAt 1 d ||| bitAt 2 a]
  | .refuse t r k => [(t.map tagByte).getD 0xFF#8, r.code, k]
  | .confirm t l => tagByte t :: sampleBytes l
  | .expire t l => tagByte t :: sampleBytes l
  | .tardy t => [tagByte t]
  | .correct m vs => sampleBytes m ++ vs.map signedByte
  | .revise m vs => sampleBytes m ++ vs.map signedByte
  | .halt (some m) => 0x00#8 :: sampleBytes m
  | .halt none => 0x01#8 :: sampleBytes 0
  | .mark m => sampleBytes m

/-- Kind, length, payload and check of a frame with framing R148. -/
def framed (kind : Byte) (payload : List Byte) : List Byte :=
  let body := kind :: BitVec.ofNat 8 payload.length :: payload
  body ++ [crc8 body]

/-- The bytes of a frame on the line, check included (R148). -/
def Frame.bytes (f : Frame) : List Byte :=
  framed f.kind f.payload

/-- The bytes of a response on MISO, check included (R163). -/
def Response.bytes (r : Response) : List Byte :=
  framed r.kind r.payload

/-! ## Codes of the records -/

/-- Adapt rate codes (R166). -/
def AdaptRate.code : AdaptRate → Byte
  | .off => 0#8
  | .slow => 1#8
  | .medium => 2#8
  | .fast => 3#8

/-- Epoch lengths in slots (R49). -/
def EpochLength.slots : EpochLength → Nat
  | .slots64 => 64
  | .slots128 => 128
  | .slots256 => 256
  | .slots512 => 512

/-- Epoch length codes (R166). -/
def EpochLength.code : EpochLength → Byte
  | .slots64 => 0#8
  | .slots128 => 1#8
  | .slots256 => 2#8
  | .slots512 => 3#8

/-- Reset cause codes (R166). -/
def ResetCause.code : ResetCause → Byte
  | .power => 0#8
  | .pin => 1#8
  | .command => 2#8

/-- Lane state codes (R171). -/
def LaneState.code : LaneState → Byte
  | .absent => 0#8
  | .detected => 1#8
  | .ready => 2#8
  | .fault => 3#8

/-- Stream state codes (R171). -/
def StreamState.code : StreamState → Byte
  | .off => 0#8
  | .starting => 1#8
  | .running => 2#8
  | .draining => 3#8

/-- Seek state codes; 0 is a free position (R171). -/
def SeekState.code : SeekState → Byte
  | .posted => 1#8
  | .granted => 2#8
  | .committed => 3#8
  | .running => 4#8
  | .tail => 5#8

/-! ## The records -/

/-- The ten bytes of a setting record (R166). -/
def Setting.bytes (x : Setting) : List Byte :=
  [bitAt 0 x.enable, BitVec.ofNat 8 x.burst, BitVec.ofNat 8 x.lead, BitVec.ofNat 8 x.gain]
    ++ leBytes 2 x.limit
    ++ [BitVec.ofNat 8 x.shift, x.rate.code, BitVec.ofNat 8 x.deadband,
      bitAt 0 (x.dither == .interleaved)]

/-- The eleven bytes of the hub record (R166, R169). -/
def State.hubRecord (s : State) : List Byte :=
  leBytes 2 (s.time.pendingDivisor.getD s.time.divisor)
    ++ [s.store.epochLength.code] ++ sampleBytes s.now
    ++ [bitAt 0 s.store.frozen ||| bitAt 1 s.rebuild.isSome]
    ++ leBytes 2 s.store.sequence.toNat ++ [s.port.cause.code]

/-- The sixteen entries of a row in source-bay order (R166). -/
def rowBytes (row : Tab 16 Coeff) : List Byte :=
  row.cells.flatMap fun e => [signedByte e.c, BitVec.ofNat 8 e.d]

/-- Page 0 of BAY INSPECT without the status byte: the lane and the stream (R171). -/
def State.inspectLane (s : State) (b : Bay) : List Byte :=
  let l := s.lane b
  let t := s.stream b
  [BitVec.ofNat 8 b.val, l.state.code, BitVec.ofNat 8 l.bad, bitAt 0 l.caps.isSome]
    ++ (match l.caps with
      | some c => [c.protocol, BitVec.ofNat 8 c.maxBurst, BitVec.ofNat 8 c.maxLead]
          ++ leBytes 4 c.identity.toNat
      | none => List.replicate 7 0#8)
    ++ [(l.lastExpired.map tagByte).getD 0xFF#8, BitVec.ofNat 8 l.queue.length, t.state.code,
      BitVec.ofNat 8 t.burstLen, BitVec.ofNat 8 t.lead, bitAt 0 t.coverage.isSome]
    ++ (match t.coverage with
      | some c => sampleBytes c.first ++ sampleBytes c.last
      | none => List.replicate 8 0#8)
    ++ [BitVec.ofNat 8 t.delivery.length]

/-- The nine-byte summary of a record position (R171). -/
def seekSummary : Option Seek → List Byte
  | none => List.replicate 9 0#8
  | some r =>
    let m := r.markers.getD ⟨false, false⟩
    [r.state.code ||| bitAt 3 r.auto ||| bitAt 4 m.overLimit ||| bitAt 5 m.delayed
        ||| bitAt 6 r.abortIndex.isSome ||| bitAt 7 r.launch.isSome,
      tagByte r.tag, BitVec.ofNat 8 r.span]
      ++ leBytes 4 ((r.launch.map BitVec.toNat).getD 0)
      ++ leBytes 2 (r.abortIndex.getD 0)

/-- Page 1 of BAY INSPECT without the status byte: the four record positions (R171). -/
def State.inspectSeeks (s : State) (b : Bay) : List Byte :=
  (BitVec.ofNat 8 b.val ||| bitAt 4 true) :: positions.flatMap fun p => seekSummary (s.seekAt b p)

/-- The answer of EXPOSURE READ without the status byte (R62, R166). -/
def State.exposureRecord (s : State) (b : Bay) (offset count : Nat) : List Byte :=
  [BitVec.ofNat 8 b.val ||| bitAt 7 s.rebuild.isSome, BitVec.ofNat 8 offset, BitVec.ofNat 8 count]
    ++ leBytes 4 s.slot.toNat
    ++ (List.range count).flatMap fun i =>
      leBytes 2 ((s.exposure.get b).get (positionOf (s.slot + BitVec.ofNat 29 ((offset + i) % 64))))

end Sys2Proof.Machine
end

