-- ==== Sys2Proof/Machine/Predictor.lean ====
section
/-! DEFINITION. The Disturbance Predictor: from the coupled sum to the values sent (R82 to R91). -/

namespace Sys2Proof.Machine

/-- The coupled sum D for receiver `b` and sample `m` (R84, R85). -/
def State.coupledSum (s : State) (b : Bay) (m : Sample) : Int :=
  (bays.map fun src =>
    if src = b then 0
    else (s.coeff b src).c * s.torque src (m - BitVec.ofNat 32 (s.coeff b src).d)).sum

/-- The gain product U_raw = −(D × G) (R86). -/
def gainProduct (d : Int) (g : Nat) : Int :=
  -(d * g)

/-- Rounding to quarter units, half away from zero: sgn × floor(|U| / 4096 + 1/2) (R87). -/
def quarterUnits (u : Int) : Int :=
  u.sign * (((u.natAbs + 2048) / 4096 : Nat) : Int)

/-- Saturation of the quarter units (R88). -/
def saturatedQuarters (u : Int) : Int :=
  saturate (-508) 508 (quarterUnits u)

/-- The phase rank of a dither order (R90). -/
def phaseRank : Dither → Nat → Nat
  | .sequential, p => p
  | .interleaved, p => if p = 1 then 2 else if p = 2 then 1 else p

/-- The value sent for quarter units `u` at phase `p`: H + 1 where rank(p) < f, else H (R89). -/
def spread (o : Dither) (u : Int) (p : Nat) : Int :=
  if ((phaseRank o p : Nat) : Int) < u % 4 then u / 4 + 1 else u / 4

/-- The correction value for bay `b` at sample `m` (R84 to R90). -/
def State.correction (s : State) (b : Bay) (m : Sample) : Int :=
  spread (s.setting b).dither
    (saturatedQuarters (gainProduct (s.coupledSum b m) (s.setting b).gain)) (m.toNat % 4)

/-- The answer to a request: one value for each of `n` samples from `m` (R82). -/
def State.predict (s : State) (b : Bay) (m : Sample) (n : Nat) : List Int :=
  (List.range n).map fun i => s.correction b (m + BitVec.ofNat 32 i)

end Sys2Proof.Machine
end

