-- ==== Sys2Proof/Machine/Streams.lean ====
section
/-! DEFINITION. The Correction Stream Unit: effective values (R97), bursts (R101 to R103), the delivery
list and coverage (R104, R105), forecast changes and revisions (R106 to R109). -/

namespace Sys2Proof.Machine

/-! ## Effective values -/

/-- The effective burst length from the setting and the drive's capabilities (R97). -/
def effectiveBurst (x : Setting) (caps : Option Caps) : Nat :=
  if x.burst = 8 ∧ (caps.map Caps.maxBurst).getD 4 = 8 then 8 else 4

/-- The effective lead: the setting's, capped at the drive's maximum (R97). -/
def effectiveStreamLead (x : Setting) (caps : Option Caps) : Nat :=
  min x.lead ((caps.map Caps.maxLead).getD 8)

/-- Bay `b`'s stream with its effective values recomputed (R97). -/
def refreshStream (b : Bay) (s : State) : State :=
  s.putStream b
    { s.stream b with
      burstLen := effectiveBurst (s.setting b) (s.lane b).caps
      lead := effectiveStreamLead (s.setting b) (s.lane b).caps }

/-- A stream set OFF: computations abandoned, list emptied, coverage absent (R112, R113). -/
def stoppedStream (t : Stream) : Stream :=
  { t with state := .off, delivery := [], coverage := none, burst := none, revisions := [] }

/-- Bay `b`'s stream set OFF (R112, R113). -/
def stopStream (b : Bay) (s : State) : State :=
  s.putStream b (stoppedStream (s.stream b))

/-! ## Bursts -/

/-- The last sample of `n` samples from `first`. -/
def lastOf (first : Sample) (n : Nat) : Sample :=
  first + BitVec.ofNat 32 n - 1

/-- Two ranges of samples, ends included, share a sample (R106, R108). -/
def rangesMeet (a z first last : Sample) : Bool :=
  atOrBefore a last && atOrBefore first z

/-- The current sample is a burst boundary of burst length `n` (R101). -/
def isBurstBoundary (n : Nat) (m : Sample) : Bool :=
  m.toNat % n == 0

/-- Bay `b`'s stream, RUNNING, with the burst of the current boundary started (R102). -/
def startBurst (b : Bay) (s : State) : State :=
  let t := s.stream b
  let first := s.now + BitVec.ofNat 32 t.lead
  s.putStream b
    { t with
      state := .running
      burst := some
        { first := first
          pendingChange := false
          start := s.now
          values := s.predict b first t.burstLen } }

/-- The burst boundary duty of bay `b`'s stream (R101, R102). -/
def burstDuty (b : Bay) (s : State) : State :=
  let t := s.stream b
  if isBurstBoundary t.burstLen s.now ∧ (t.state = .starting ∨ t.state = .running) then
    startBurst b s
  else s

/-- The coverage record after a burst of `n` samples from `first` is delivered (R105). -/
def coverBurst (cov : Option Coverage) (first : Sample) (n : Nat) : Coverage where
  first := (cov.map Coverage.first).getD first
  last := lastOf first n

/-! ## Revisions -/

/-- The three conditions of R107, judged at sample `now`. -/
def revisable (now : Sample) (x : Delivery) : Bool :=
  x.burst == 8 && !x.revised && atOrBefore (now + 2) (x.first + 4)

/-- The revision that setting a record's revised flag starts; its values are read when the event has
taken every step (R109). -/
def newRevision (now : Sample) (x : Delivery) : Revision where
  record := x.first
  start := now
  values := []

/-- The delivery record with its revised flag set. -/
def Delivery.marked (x : Delivery) : Delivery :=
  { x with revised := true }

/-- The delivery records and revisions of a stream after every record that `hit` picks and R107 allows
is revised. -/
def reviseRecords (now : Sample) (hit : Delivery → Bool) (t : Stream) : Stream :=
  { t with
    delivery := t.delivery.map fun x => if hit x && revisable now x then x.marked else x
    revisions := t.revisions ++
      (t.delivery.filter fun x => hit x && revisable now x).map (newRevision now) }

/-- A forecast change with range `a`..`z`, already shifted by the delay, taken by a stream (R106, R107,
R108). -/
def takeChange (now a z : Sample) (t : Stream) : Stream :=
  let t1 := reviseRecords now (fun x => rangesMeet a z x.first (lastOf x.first x.burst)) t
  { t1 with
    burst := t.burst.map fun x =>
      if t.burstLen = 8 ∧ rangesMeet a z x.first (lastOf x.first t.burstLen) then
        { x with pendingChange := true }
      else x }

/-- A forecast change of source bay `src` over `a`..`z`, handed to every stream it reaches (R106). -/
def forecastChange (src : Bay) (a z : Sample) (s : State) : State :=
  s.setStreams (Tab.gen 16 fun b =>
    let t := s.stream b
    let e := s.coeff b src
    if b ≠ src ∧ (t.state = .running ∨ t.state = .draining) ∧ e.c ≠ 0 then
      takeChange s.now (a + BitVec.ofNat 32 e.d) (z + BitVec.ofNat 32 e.d) t
    else t)

/-- The forecast change of a record over the samples of its launch to the end of its tail (R38). -/
def publishWhole (src : Bay) (r : Seek) (s : State) : State :=
  forecastChange src r.launchAt (lastOf r.launchAt r.tailEnd) s

/-- The forecast change of a record freed with its bay: from the later of its launch and now (R38). -/
def publishRest (src : Bay) (r : Seek) (s : State) : State :=
  forecastChange src (later r.launchAt s.now) (lastOf r.launchAt r.tailEnd) s

/-- A revision whose values have not been read yet reads them (R109). -/
def readRevision (s : State) (b : Bay) (v : Revision) : Revision :=
  if v.values = [] then { v with values := s.predict b (v.record + 4) 4 } else v

/-- Every revision the event started reads its values, as the state stands once every step of the event
has been taken (R83, R91, R109). -/
def readRevisions (s : State) : State :=
  s.setStreams (Tab.gen 16 fun b =>
    { s.stream b with revisions := (s.stream b).revisions.map (readRevision s b) })

/-! ## Delivery -/

/-- The steps of a burst's completion on the stream itself: record appended, coverage advanced, a
pending change applied, the computation cleared (R103, R105, R108). -/
def deliverBurst (now : Sample) (x : Burst) (t : Stream) : Stream :=
  let d : Delivery := { first := x.first, burst := t.burstLen, revised := false }
  let hit := x.pendingChange && revisable now d
  { t with
    delivery := t.delivery ++ [if hit then d.marked else d]
    revisions := if hit then t.revisions ++ [newRevision now d] else t.revisions
    coverage := some (coverBurst t.coverage x.first t.burstLen)
    burst := none }

/-- The delivery list without the record whose last sample has just ended (R104). -/
def retireRecords (now : Sample) (t : Stream) : Stream :=
  { t with delivery := t.delivery.filter fun x => x.first + BitVec.ofNat 32 x.burst != now }

end Sys2Proof.Machine
end

