-- ==== Sys2Proof/Machine/Lanes.lean ====
section
/-! DEFINITION. What lane events do across the blocks: freeing a bay's seeks (R39), leaving READY
(R157), the transmit queue and its overflow (R158), and the judging of a received frame (R152). -/

namespace Sys2Proof.Machine

/-! ## Freeing seeks -/

/-- One live seek freed with its bay: its position becomes free; a POSTED seek leaves the queue and a
search on it is abandoned; a granted seek's exposure is removed and its forecast change published
(R39). -/
def freeSeek (b : Bay) (s : State) (p : Pos) : State :=
  match s.seekAt b p with
  | none => s
  | some r =>
    let s1 := s.putSeek b p none
    if r.state = .posted then abandonSearch b p (dequeue b p s1)
    else publishRest b r (removeExposure b r s1)

/-- Every live seek of bay `b` freed (R39). R106 hands the forecast changes of several freed seeks on in
turn and gives no order: DESIGN CHOICE, the order of the record positions, so that the revisions they
bring start, and at a forced completion are sent, in that order (assumption 21). -/
def freeBay (b : Bay) (s : State) : State :=
  positions.foldl (freeSeek b) s

/-! ## Lane state -/

/-- A lane after a change of its state: last-expired tag clear, count 0, queue emptied (R32, R151,
R157). -/
def movedLane (l : Lane) (x : LaneState) : Lane :=
  { l with state := x, bad := 0, queue := [], lastExpired := none }

/-- The effects of leaving READY on the blocks besides the lane, and the search start that an abandoned
search allows (R78, R80, R112, R157). -/
def releaseBay (b : Bay) (s : State) : State :=
  searchStart (stopStream b (freeBay b s))

/-- A READY lane moved to FAULT with LANE_FAULT pending and the effects of R157 (R153, R158). -/
def faultLane (b : Bay) (s : State) : State :=
  releaseBay b (raiseCause .laneFault b (s.putLane b (movedLane (s.lane b) .fault)))

/-! ## Sending -/

/-- The transmit queue holds 32 frames (R158). -/
def queueFull (b : Bay) (s : State) : Bool :=
  decide (32 ≤ (s.lane b).queue.length)

/-- A frame handed to the queue of bay `b`'s lane, discarded where the queue is full (R158). -/
def handFrame (b : Bay) (f : Frame) (s : State) : State :=
  if queueFull b s then s
  else s.putLane b { s.lane b with queue := (s.lane b).queue ++ [f] }

/-- A frame handed by a rule that takes the further steps `rest`: on a READY lane with a full queue the
change to FAULT is applied after all of them (R158). -/
def handThen (b : Bay) (f : Frame) (rest : State → State) (s : State) : State :=
  if s.isReady b && queueFull b s then faultLane b (rest s)
  else rest (handFrame b f s)

/-- A frame handed by a rule with no further step. -/
def sendFrame (b : Bay) (f : Frame) (s : State) : State :=
  handThen b f id s

/-- A refusal (R4, R21, R30, R134, R152). -/
def refuse (b : Bay) (tag : Option Tag) (why : Reason) (kind : Byte) (s : State) : State :=
  sendFrame b (.refuse tag why kind) s

/-- WELCOME for bay `b` as the state stands (R156). -/
def State.welcomeFrame (s : State) (b : Bay) : Frame :=
  .welcome b s.time.divisor s.now (s.stream b).burstLen (s.stream b).lead

/-! ## Receiving -/

/-- A good frame sets the count of consecutive bad frames to 0 (R152). -/
def goodFrame (b : Bay) (s : State) : State :=
  s.putLane b { s.lane b with bad := 0 }

/-- A good frame of a kind with a fixed length (`len`) or a length its block checks (`none`), other than
HELLO, judged by R152 and handed on as `take` when it passes; a lane in ABSENT takes no frame (R151). -/
def receiveFrame (b : Bay) (kind : Byte) (len : Option Nat) (payload : List Byte)
    (take : State → State) (s : State) : State :=
  if (s.lane b).state = .absent then s
  else if len.any fun n => payload.length != n then
    refuse b none .malformed kind (goodFrame b s)
  else if s.isReady b then take (goodFrame b s)
  else refuse b none .notReady kind (goodFrame b s)

end Sys2Proof.Machine
end

