-- ==== Sys2Proof/Machine/Operands.lean ====
section
/-! DEFINITION. Every operand form: how a NOTICE (R1, R2, R3), a HELLO (R154), a tag byte (R149), a
RESIDUAL (R134), a setting record (R167), a HUB WRITE (R169), a poked row (R122, R172) and an
EXPOSURE READ (R166) are taken. -/

namespace Sys2Proof.Machine

/-! ## NOTICE -/

/-- A segment entry of a NOTICE payload as carried (R150). -/
structure SegmentEntry where
  level : Byte
  duration : Byte
  marker : Byte
deriving DecidableEq, Repr

/-- The whole segment entries of a list of bytes; a remainder shorter than an entry is none. -/
def segmentEntries : List Byte → List SegmentEntry
  | x :: y :: z :: rest => ⟨x, y, z⟩ :: segmentEntries rest
  | _ => []

/-- The end marker: bit 0 of the third byte (R150). -/
def SegmentEntry.isEnd (e : SegmentEntry) : Bool :=
  e.marker.getLsbD 0

/-- A segment as stored: −128 taken as −127, duration 0 as 256 (R2). -/
def SegmentEntry.taken (e : SegmentEntry) : Segment where
  level := if e.level.toInt = -128 then -127 else e.level.toInt
  duration := if e.duration.toNat = 0 then 256 else e.duration.toNat

/-- The segment count: up to and including the first end marker (R2). -/
def segmentCount (es : List SegmentEntry) : Option Nat :=
  (es.findIdx? SegmentEntry.isEnd).map (· + 1)

/-- A NOTICE as taken (R1). -/
structure Notice where
  tag : Tag
  auto : Bool
  lead : Nat
  window : Nat
  segments : List Segment
deriving DecidableEq, Repr

/-- The tag of a tag byte: bits 3..0 (R149). -/
def tagOf (x : Byte) : Tag :=
  x.setWidth 4

/-- The notice a payload carries, none where it is malformed (R1, R2, R3, R150). -/
def readNotice (payload : List Byte) : Option Notice :=
  let es := segmentEntries (payload.drop 3)
  match segmentCount es with
  | none => none
  | some n =>
    if n ≤ 6 ∧ payload.length = 3 + 3 * n then
      some
        { tag := tagOf (byteAt payload 0)
          auto := (byteAt payload 0).getLsbD 7
          lead := (byteAt payload 1).toNat % 64
          window := (byteAt payload 2).toNat % 32
          segments := es.map SegmentEntry.taken }
    else none

/-! ## HELLO -/

/-- The capabilities of an acceptable HELLO (R150, R154). -/
def capsOf (payload : List Byte) : Caps where
  protocol := byteAt payload 0
  maxBurst := if byteAt payload 1 = 8#8 then 8 else 4
  maxLead := clamp 8 64 (byteAt payload 2).toNat
  identity := BitVec.ofNat 32 (fieldAt payload 3 4)

/-! ## RESIDUAL -/

/-- A RESIDUAL payload is refused: shorter than 5 bytes, a count outside 1..8, or a length that is not
5 + count (R134). -/
def residualMalformed (payload : List Byte) : Bool :=
  decide (payload.length < 5) || decide ((byteAt payload 4).toNat = 0)
    || decide (8 < (byteAt payload 4).toNat)
    || decide (payload.length ≠ 5 + (byteAt payload 4).toNat)

/-- The values of a report with their samples, in ascending sample order (R134). -/
def residualValues (payload : List Byte) : List (Sample × Int) :=
  (List.range (byteAt payload 4).toNat).map fun i =>
    (BitVec.ofNat 32 (fieldAt payload 0 4) + BitVec.ofNat 32 i, (byteAt payload (5 + i)).toInt)

/-! ## Requests -/

/-- The adapt rate of a code; a code outside 0..3 is taken as OFF (R141, R166). -/
def rateOf (code : Byte) : AdaptRate :=
  if code = 1#8 then .slow else if code = 2#8 then .medium else if code = 3#8 then .fast else .off

/-- A setting record as taken from a SETTING WRITE (R167). -/
def takeSetting (enable : Bool) (w : SettingFields) : Setting where
  enable := enable
  burst := if w.burst = 8#8 then 8 else 4
  lead := clamp 8 64 w.lead.toNat
  gain := w.gain.toNat
  limit := clamp 0 4095 w.limit.toNat
  shift := clamp 1 7 w.shift.toNat
  rate := rateOf w.rate
  deadband := clamp 0 15 w.deadband.toNat
  dither := if w.dither.getLsbD 0 then .interleaved else .sequential

/-- A divisor as taken (R47, R169). -/
def takeDivisor (x : BitVec 16) : Nat :=
  clamp 500 2000 x.toNat

/-- An epoch length code as taken: above 3 taken as 3 (R166, R169). -/
def takeEpochLength (code : Byte) : EpochLength :=
  if code = 0#8 then .slots64 else if code = 1#8 then .slots128
  else if code = 2#8 then .slots256 else .slots512

/-- An entry of a POKE ROW as taken: C is its signed byte, d saturated to 0..7 (R122, R172). -/
def takeEntry (e : Byte × Byte) : Coeff where
  c := e.1.toInt
  d := clamp 0 7 e.2.toNat

/-- The starting offset of an EXPOSURE READ as taken (R166). -/
def takeOffset (x : Byte) : Nat :=
  clamp 0 63 x.toNat

/-- The count of an EXPOSURE READ as taken (R166). -/
def takeCount (x : Byte) : Nat :=
  clamp 1 16 x.toNat

end Sys2Proof.Machine
end

