-- ==== Sys2Proof/Machine/Adaptation.lean ====
section
/-! DEFINITION. The Adaptation Unit: which values of a report are used (R135), the accumulators (R137,
R138) and the steps of the working coefficients (R139, R140). -/

namespace Sys2Proof.Machine

/-- The threshold of an adapt rate; OFF has none (R137). -/
def AdaptRate.threshold : AdaptRate → Option Nat
  | .off => none
  | .slow => some 512
  | .medium => some 128
  | .fast => some 32

/-- A coverage record holds sample `m` (R135). -/
def Coverage.covers (c : Coverage) (m : Sample) : Bool :=
  !earlier m c.first && !earlier c.last m

/-- Age: not earlier than current − 64, and before the current sample (R135). -/
def recentSample (now m : Sample) : Bool :=
  !earlier m (now - 64) && earlier m now

/-- The four conditions under which a value of a report is used (R135). -/
def State.usesResidual (s : State) (b : Bay) (m : Sample) (r : Int) : Bool :=
  recentSample s.now m
    && (s.stream b).coverage.any (fun c => c.covers m)
    && (s.setting b).rate != .off
    && decide ((s.setting b).deadband < r.natAbs)

/-- The torque of source bay `src` that a residual of bay `b` at sample `m` is held against (R138). -/
def State.sourceTorque (s : State) (b src : Bay) (m : Sample) : Int :=
  s.torque src (m - BitVec.ofNat 32 (s.coeff b src).d)

/-- The accumulator of a pair (R137). -/
def State.accAt (s : State) (b src : Bay) : Int :=
  (s.acc.get b).get src

/-- The state with the accumulator of a pair replaced. -/
def State.putAcc (s : State) (b src : Bay) (v : Int) : State :=
  s.setAcc (s.acc.upd b ((s.acc.get b).upd src v))

/-- The working coefficient of a pair (R117). -/
def State.workingAt (s : State) (b src : Bay) : Coeff :=
  (s.store.working.get b).get src

/-- The state with the working C of a pair replaced (R139). -/
def State.putWorking (s : State) (b src : Bay) (c : Int) : State :=
  s.setStore
    { s.store with
      working := s.store.working.upd b
        ((s.store.working.get b).upd src { s.workingAt b src with c := c }) }

/-- A step of the working coefficient by `dir`, +1 or −1, refused at the range limit (R139, R140). -/
def stepWorking (b src : Bay) (dir : Int) (s : State) : State :=
  let c := (s.workingAt b src).c + dir
  if -128 ≤ c ∧ c ≤ 127 then (s.putAcc b src 0).putWorking b src c
  else raiseCause .coeffLimit b (s.putAcc b src 0)

/-- The accumulator of a pair moved by `v`, with the step that reaching a threshold brings (R138,
R139). -/
def moveAcc (b src : Bay) (v : Int) (s : State) : State :=
  let a := s.accAt b src + v
  match (s.setting b).rate.threshold with
  | none => s
  | some n =>
    if (n : Int) ≤ a then stepWorking b src 1 s
    else if a ≤ -(n : Int) then stepWorking b src (-1) s
    else s.putAcc b src a

/-- A used value counted against one source bay (R138). -/
def countSource (b : Bay) (m : Sample) (r : Int) (s : State) (src : Bay) : State :=
  if src = b ∨ s.sourceTorque b src m = 0 then s
  else moveAcc b src (r.sign * (s.sourceTorque b src m).sign) s

/-- One value of a report, used or ignored (R135, R136, R138). -/
def takeResidual (b : Bay) (s : State) (x : Sample × Int) : State :=
  if s.usesResidual b x.1 x.2 then bays.foldl (countSource b x.1 x.2) s else s

/-- A RESIDUAL handed to the Adaptation Unit (R134, R136). -/
def takeReport (b : Bay) (payload : List Byte) (s : State) : State :=
  if residualMalformed payload then refuse b none .malformed kindResidual s
  else (residualValues payload).foldl (takeResidual b) s

/-- Row `b` of the accumulators set to 0 (R141, R143). -/
def clearRow (b : Bay) (s : State) : State :=
  s.setAcc (s.acc.upd b (Tab.fill 16 0))

end Sys2Proof.Machine
end

