-- ==== Sys2Proof/Machine/Requests.lean ====
section
/-! DEFINITION. The management requests (R164 to R175). A request is taken unless a reset is held, or
its select period has had a request or was ended by a reset (R163, R174). -/

namespace Sys2Proof.Machine

/-! ## Responses -/

/-- Status codes (R165). -/
def statusOk : Byte := 0x00#8
def statusBusy : Byte := 0x01#8
def statusFrozen : Byte := 0x02#8
def statusNotFrozen : Byte := 0x03#8
def statusBadRequest : Byte := 0x04#8

/-- A request can be taken in this phase: in the period whose bytes are being clocked in, or, with CSn
high, in a period of its own that the command stands for (R163; assumption 23). -/
def SelectPhase.takes : SelectPhase → Bool
  | .idle => true
  | .request _ => true
  | .answered _ => false
  | .over => false

/-- The phase after a request is taken: the period of the bytes clocked in has had its request, and one that
the command stands for whole is over again (R163; assumption 23). -/
def SelectPhase.taken : SelectPhase → SelectPhase
  | .idle => .idle
  | .request _ => .answered 0
  | .answered n => .answered n
  | .over => .over

/-- The port after a request: its response, and the select period's one request taken (R163, R164). -/
def Port.answer (p : Port) (kind : Byte) (payload : List Byte) : Port :=
  { p with select := p.select.taken, shift := [], response := some ⟨kind, payload⟩ }

/-- The port takes a request: no reset is held, and neither has the select period had its request nor did
a reset end it (R163, R174). -/
def State.portTakes (s : State) : Bool :=
  !s.pins.resetHeld && !s.port.resetArmed && s.port.select.takes

/-- The response kind: the request kind plus 80h (R166). -/
def responseKind (k : RequestKind) : Byte :=
  k.code + 0x80#8

/-- The response of a request, formed from the state after its event (R164). -/
def respond (kind : Byte) (payload : List Byte) (s : State) : State :=
  s.setPort (s.port.answer kind payload)

/-- The response of a request of kind `k`: status, then the payload. -/
def answer (k : RequestKind) (status : Byte) (payload : State → List Byte) (s : State) : State :=
  respond (responseKind k) (status :: payload s) s

/-- A bay number as one byte (R149). -/
def bayByte (b : Bay) : Byte :=
  BitVec.ofNat 8 b.val

/-- A request's effect where the port takes it. -/
def request (s : State) (effect : State → State) : Host.Outcome State Fault Refusal :=
  .next (if s.portTakes then effect s else s)

/-! ## Setting writes -/

/-- The setting record of bay `b` as a response carries it (R166). -/
def settingPayload (b : Bay) (s : State) : List Byte :=
  bayByte b :: (s.setting b).bytes

/-- A change of stream shape while the stream is not OFF (R98, R168). -/
def State.shapeBusy (s : State) (b : Bay) (x : Setting) : Bool :=
  (x.burst != (s.setting b).burst || x.lead != (s.setting b).lead) && (s.stream b).state != .off

/-- An enable that is answered BUSY: DRAINING, or OFF with the lane not READY (R99, R168). -/
def State.enableBusy (s : State) (b : Bay) : Bool :=
  (s.stream b).state == .draining || ((s.stream b).state == .off && !s.isReady b)

/-- Every field of a setting record replaced, the effective values recomputed, row b cleared where the
adapt rate changes (R98, R141, R168). -/
def writeSetting (b : Bay) (x : Setting) (s : State) : State :=
  let s1 := refreshStream b (s.setSettings (s.settings.upd b x))
  if x.rate = (s.setting b).rate then s1 else clearRow b s1

/-- A stream enabled: OFF enters STARTING, with coverage absent and the list empty; others stay (R99). -/
def startStream (b : Bay) (s : State) : State :=
  if (s.stream b).state = .off then
    s.putStream b { s.stream b with state := .starting, coverage := none, delivery := [] }
  else s

/-- A stream that enters DRAINING, its burst in computation discarded (R110). -/
def drainingStream (t : Stream) : Stream :=
  { t with state := .draining, burst := none }

/-- A stream disabled (R100, R110, R111). -/
def haltStream (b : Bay) (s : State) : State :=
  let t := s.stream b
  match t.state with
  | .off => s
  | .starting => handThen b (.halt none) (fun u => u.putStream b { u.stream b with state := .off }) s
  | .running =>
    handThen b (.halt (t.coverage.map Coverage.last))
      (fun u =>
        let u1 := u.putStream b (drainingStream (u.stream b))
        if (u1.stream b).delivery = [] then
          raiseCause .streamStopped b
            (u1.putStream b { u1.stream b with state := .off, revisions := [] })
        else u1) s
  | .draining => s

/-- A SETTING WRITE with stream enable on (R99, R168). -/
def enableRequest (b : Bay) (w : SettingFields) (s : State) : State :=
  let x := takeSetting true w
  if s.shapeBusy b x || s.enableBusy b then
    answer .settingWrite statusBusy (settingPayload b) s
  else answer .settingWrite statusOk (settingPayload b) (startStream b (writeSetting b x s))

/-- A SETTING WRITE with stream enable off (R100, R168). -/
def disableRequest (b : Bay) (w : SettingFields) (s : State) : State :=
  let x := takeSetting false w
  if s.shapeBusy b x then answer .settingWrite statusBusy (settingPayload b) s
  else
    answer .settingWrite statusOk (settingPayload b)
      (readRevisions (haltStream b (writeSetting b x s)))

/-! ## The hub record -/

/-- A divisor change that finds a live seek or a stream not OFF (R47). -/
def State.divisorBusy (s : State) (d : Nat) : Bool :=
  d != s.time.divisor && (s.anyLiveSeek || s.anyStreamOn)

/-- The divisor pending after a HUB WRITE: none where it is the one in force (R47, R169). -/
def writeDivisor (d : Nat) (s : State) : State :=
  s.setTime { s.time with pendingDivisor := if d = s.time.divisor then none else some d }

/-- The epoch length selected; a different one sets the counter to 0 (R49). -/
def writeEpochLength (e : EpochLength) (s : State) : State :=
  if e = s.store.epochLength then s
  else s.setStore { s.store with epochLength := e, epochCount := 0 }

/-- A HUB WRITE (R47, R169). -/
def hubWriteRequest (divisor : BitVec 16) (code : Byte) (s : State) : State :=
  let d := takeDivisor divisor
  if s.divisorBusy d then answer .hubWrite statusBusy State.hubRecord s
  else
    answer .hubWrite statusOk State.hubRecord
      (writeEpochLength (takeEpochLength code) (writeDivisor d s))

/-! ## The Coefficient Store -/

/-- The commit sequence as a response carries it. -/
def sequencePayload (s : State) : List Byte :=
  leBytes 2 s.store.sequence.toNat

/-- A table with its diagonal (0, 0) (R117). -/
def zeroDiagonal (t : CoeffTable) : CoeffTable :=
  Tab.gen 16 fun b => (t.get b).upd b ⟨0, 0⟩

/-- FREEZE (R120). -/
def freezeRequest (s : State) : State :=
  if s.store.frozen then answer .freeze statusFrozen (fun _ => []) s
  else
    answer .freeze statusOk sequencePayload
      (s.setStore { s.store with
        snapshot := zeroDiagonal s.store.active, frozen := true, written := false })

/-- A THAW that loads the snapshot (R123, R142, R60). -/
def loadSnapshot (s : State) : State :=
  ((s.setStore { s.store with
      active := zeroDiagonal s.store.snapshot
      working := zeroDiagonal s.store.snapshot
      frozen := false
      written := false
      sequence := s.store.sequence + 1 }).setAcc
    (Tab.fill 16 (Tab.fill 16 0))).setRebuild (some s.now)

/-- The payload of a THAW response: the loaded indication and the commit sequence (R166). -/
def thawPayload (loaded : Bool) (s : State) : List Byte :=
  bitAt 0 loaded :: sequencePayload s

/-- THAW (R123, R124). -/
def thawRequest (s : State) : State :=
  if !s.store.frozen then answer .thaw statusNotFrozen (fun _ => []) s
  else if s.store.written then answer .thaw statusOk (thawPayload true) (loadSnapshot s)
  else answer .thaw statusOk (thawPayload false) (s.setStore { s.store with frozen := false })

/-- A row as it is read: its diagonal entry as (0, 0) (R117). -/
def readRow (t : CoeffTable) (b : Bay) : Tab 16 Coeff :=
  (t.get b).upd b ⟨0, 0⟩

/-- A row of the snapshot as a response carries it (R166). -/
def snapshotPayload (b : Bay) (s : State) : List Byte :=
  bayByte b :: rowBytes (readRow s.store.snapshot b)

/-- PEEK ROW (R121). -/
def peekRequest (b : Bay) (s : State) : State :=
  if s.store.frozen then answer .peekRow statusOk (snapshotPayload b) s
  else answer .peekRow statusNotFrozen (fun _ => []) s

/-- A row of the snapshot written: each carried entry as taken, the diagonal's discarded (R122). -/
def pokeSnapshot (b : Bay) (row : Tab 16 (Byte × Byte)) (s : State) : State :=
  s.setStore { s.store with
    snapshot := s.store.snapshot.upd b
      (Tab.gen 16 fun src => if src = b then ⟨0, 0⟩ else takeEntry (row.get src))
    written := true }

/-- POKE ROW (R122). -/
def pokeRequest (b : Bay) (row : Tab 16 (Byte × Byte)) (s : State) : State :=
  if s.store.frozen then answer .pokeRow statusOk (snapshotPayload b) (pokeSnapshot b row s)
  else answer .pokeRow statusNotFrozen (fun _ => []) s

/-- The answer of ACTIVE ROW READ (R129, R166). -/
def activePayload (b : Bay) (s : State) : List Byte :=
  bayByte b :: sequencePayload s ++ rowBytes (readRow s.store.active b)

/-! ## Attention -/

/-- The line byte of ATTENTION READ (R166). -/
def lineByte (s : State) : Byte :=
  bitAt 0 s.attnA ||| bitAt 1 s.attnB

/-- The answer of ATTENTION READ (R178). -/
def attentionPayload (s : State) : List Byte :=
  [lineByte s, s.attention.pending, s.attention.mask, s.attention.route]
    ++ s.attention.sets.cells.flatMap fun x => leBytes 2 x.toNat

/-! ## Bay reset -/

/-- The lane after BAY RESET (R42, R160). -/
def resetLane (l : Lane) : Lane :=
  { movedLane l (if l.state = .absent then .absent else .detected) with caps := none }

/-- Bay `b`'s torque history set to 0 (R42). -/
def clearHistory (b : Bay) (s : State) : State :=
  s.setHistory (s.history.upd b (Tab.fill 72 0))

/-- BAY RESET (R42, R63, R80, R113, R143, R160, R173). -/
def resetBay (b : Bay) (s : State) : State :=
  let s1 := stopStream b (freeBay b (s.putLane b (resetLane (s.lane b))))
  readRevisions (searchStart (refreshStream b (clearRow b (clearHistory b s1))))

/-! ## The commands -/

/-- The response to a request that is not well formed (R164, R165). -/
def badResponseKind : BadRequest → Byte
  | .checkMismatch => 0x7F#8
  | .unknownKind => 0x7F#8
  | .wrongLength k => responseKind k
  | .badBay k => responseKind k

/-- BAD_REQUEST (R164). -/
def execBadRequest (why : BadRequest) (s : State) : Host.Outcome State Fault Refusal :=
  request s fun u => respond (badResponseKind why) [statusBadRequest] u

/-- SETTING_READ (R168). -/
def execSettingRead (b : Bay) (s : State) : Host.Outcome State Fault Refusal :=
  request s fun u => answer .settingRead statusOk (settingPayload b) u

/-- STREAM_ENABLE: SETTING WRITE with stream enable on (R99, R168). -/
def execStreamEnable (b : Bay) (w : SettingFields) (s : State) : Host.Outcome State Fault Refusal :=
  request s fun u => enableRequest b w u

/-- STREAM_DISABLE: SETTING WRITE with stream enable off (R100, R168). -/
def execStreamDisable (b : Bay) (w : SettingFields) (s : State) : Host.Outcome State Fault Refusal :=
  request s fun u => disableRequest b w u

/-- HUB_READ (R169). -/
def execHubRead (s : State) : Host.Outcome State Fault Refusal :=
  request s fun u => answer .hubRead statusOk State.hubRecord u

/-- HUB_WRITE (R47, R169). -/
def execHubWrite (divisor : BitVec 16) (code : Byte) (s : State) : Host.Outcome State Fault Refusal :=
  request s fun u => hubWriteRequest divisor code u

/-- FREEZE (R120). -/
def execFreeze (s : State) : Host.Outcome State Fault Refusal :=
  request s freezeRequest

/-- THAW (R123, R124). -/
def execThaw (s : State) : Host.Outcome State Fault Refusal :=
  request s thawRequest

/-- PEEK_ROW (R121). -/
def execPeekRow (b : Bay) (s : State) : Host.Outcome State Fault Refusal :=
  request s fun u => peekRequest b u

/-- POKE_ROW (R122). -/
def execPokeRow (b : Bay) (row : Tab 16 (Byte × Byte)) (s : State) : Host.Outcome State Fault Refusal :=
  request s fun u => pokeRequest b row u

/-- ACTIVE_ROW_READ (R129). -/
def execActiveRowRead (b : Bay) (s : State) : Host.Outcome State Fault Refusal :=
  request s fun u => answer .activeRowRead statusOk (activePayload b) u

/-- BAY_INSPECT (R171): the page is bit 0 of the page byte. -/
def execBayInspect (b : Bay) (page : Byte) (s : State) : Host.Outcome State Fault Refusal :=
  request s fun u =>
    answer .bayInspect statusOk
      (fun v => if page.getLsbD 0 then v.inspectSeeks b else v.inspectLane b) u

/-- EXPOSURE_READ (R62). -/
def execExposureRead (b : Bay) (offset count : Byte) (s : State) : Host.Outcome State Fault Refusal :=
  request s fun u =>
    answer .exposureRead statusOk (fun v => v.exposureRecord b (takeOffset offset) (takeCount count)) u

/-- ATTENTION_READ (R178). -/
def execAttentionRead (s : State) : Host.Outcome State Fault Refusal :=
  request s fun u => answer .attentionRead statusOk attentionPayload u

/-- ATTENTION_CLEAR (R178). -/
def execAttentionClear (causes : Byte) (s : State) : Host.Outcome State Fault Refusal :=
  request s fun u =>
    answer .attentionClear statusOk (fun v => [v.attention.pending])
      (u.setAttention (clearCauses causes u.attention))

/-- ATTENTION_CONFIGURE (R177). -/
def execAttentionConfigure (mask route : Byte) (s : State) : Host.Outcome State Fault Refusal :=
  request s fun u =>
    answer .attentionConfigure statusOk (fun v => [v.attention.mask, v.attention.route])
      (u.setAttention { u.attention with mask := mask, route := route })

/-- BAY_RESET (R173). -/
def execBayReset (b : Bay) (s : State) : Host.Outcome State Fault Refusal :=
  request s fun u => answer .bayReset statusOk (fun _ => [bayByte b]) (resetBay b u)

/-- HUB_RESET (R174): answered OK, and the reset armed for the end of the select period. -/
def execHubReset (s : State) : Host.Outcome State Fault Refusal :=
  request s fun u =>
    answer .hubReset statusOk (fun _ => []) (u.setPort { u.port with resetArmed := true })

end Sys2Proof.Machine
end

