-- ==== Sys2Proof/Machine/LaneEvents.lean ====
section
/-! DEFINITION. The events of the bay lanes: transmission (R158), presence (R151), bad and unknown frames
(R152, R153), HELLO (R154, R155), NOTICE (R4, R18), COMMIT (R20, R21), ABORT (R27 to R30) and RESIDUAL
(R134). -/

namespace Sys2Proof.Machine

/-! ## Transmission and presence -/

/-- The head of the transmit queue put on the line (R158). -/
def transmitHead (b : Bay) (s : State) : State :=
  match (s.lane b).queue with
  | [] => s
  | f :: rest => s.putLane b { s.lane b with queue := rest, line := f.bytes }

/-- The level of a bay's presence line: `x` is PRESENTn low (R151). -/
def setPresence (b : Bay) (x : Bool) (s : State) : State :=
  s.setPins { s.pins with present := s.pins.present.upd b x }

/-- A lane in ABSENT enters DETECTED with ARRIVE pending (R151). -/
def detectDrive (b : Bay) (s : State) : State :=
  if (s.lane b).state = .absent then
    raiseCause .arrive b (s.putLane b (movedLane (s.lane b) .detected))
  else s

/-- A lane enters ABSENT with DEPART pending, its capabilities absent, and, from READY, with the effects
of R157 (R97, R151). -/
def loseDrive (b : Bay) (s : State) : State :=
  let s1 := raiseCause .depart b
    (s.putLane b { movedLane (s.lane b) .absent with caps := none })
  refreshStream b (if s.isReady b then releaseBay b s1 else s1)

/-! ## HELLO -/

/-- The lane READY with the declared capabilities recorded (R154). -/
def readyLane (l : Lane) (caps : Caps) : Lane :=
  { l with state := .ready, bad := 0, caps := some caps, lastExpired := none }

/-- The capabilities recorded, the lane READY, the effective values recomputed, WELCOME handed (R154). -/
def admitDrive (b : Bay) (caps : Caps) (s : State) : State :=
  let s1 := refreshStream b (s.putLane b (readyLane (s.lane b) caps))
  sendFrame b (s1.welcomeFrame b) s1

/-- A drive restart: the queue emptied, the bay's seeks freed, the stream OFF, then as an admission
(R41, R112, R155). -/
def restartDrive (b : Bay) (caps : Caps) (s : State) : State :=
  let s1 := stopStream b (freeBay b (s.putLane b { s.lane b with queue := [] }))
  searchStart (admitDrive b caps s1)

/-- A HELLO on a lane that is not ABSENT (R152, R154, R155). -/
def takeHello (b : Bay) (payload : List Byte) (s : State) : State :=
  if payload.length ≠ 7 ∨ byteAt payload 0 ≠ 1#8 then refuse b none .malformed kindHello s
  else if s.isReady b then restartDrive b (capsOf payload) s
  else admitDrive b (capsOf payload) s

/-! ## NOTICE -/

/-- The lowest-numbered free record position of bay `b` (R13). -/
def State.freePosition (s : State) (b : Bay) : Option Pos :=
  positions.find? fun p => (s.seekAt b p).isNone

/-- The last-expired tag cleared where it is `tag` (R18). -/
def forgetExpired (b : Bay) (tag : Tag) (s : State) : State :=
  if (s.lane b).lastExpired = some tag then s.putLane b { s.lane b with lastExpired := none } else s

/-- An accepted notice placed in position `p`, its entry at the queue's tail (R13, R18, R64). -/
def postSeek (b : Bay) (p : Pos) (n : Notice) (s : State) : State :=
  let r := compileSeek n.tag n.auto n.lead n.window n.segments (s.setting b).shift s.slot
  let s1 := forgetExpired b n.tag (s.putSeek b p (some r))
  searchStart (s1.setQueue (s1.queue ++ [{ bay := b, pos := p, held := false }]))

/-- The intake checks on a well-formed notice, in order (R4). -/
def takeNotice (b : Bay) (n : Notice) (s : State) : State :=
  match s.freePosition b with
  | none => refuse b (some n.tag) .full kindNotice s
  | some p =>
    if (s.findTag b n.tag).isSome then refuse b (some n.tag) .dupTag kindNotice s
    else if 320 < profileLength n.segments then refuse b (some n.tag) .tooLong kindNotice s
    else postSeek b p n s

/-- A NOTICE handed to the Seek Table (R3, R4). -/
def takeNoticeFrame (b : Bay) (payload : List Byte) (s : State) : State :=
  match readNotice payload with
  | none => refuse b none .malformed kindNotice s
  | some n => takeNotice b n s

/-! ## COMMIT -/

/-- A COMMIT that names `tag` (R20, R21). -/
def takeCommitTag (b : Bay) (tag : Tag) (s : State) : State :=
  match s.findTag b tag with
  | some (p, r) =>
    match r.state with
    | .granted =>
      handThen b (.confirm tag r.launchAt)
        (fun u => u.putSeek b p (some { r with state := .committed })) s
    | .posted => refuse b (some tag) .notGranted kindCommit s
    | .committed => sendFrame b (.confirm tag r.launchAt) s
    | .running => sendFrame b (.confirm tag r.launchAt) s
    | .tail => sendFrame b (.confirm tag r.launchAt) s
  | none =>
    if (s.lane b).lastExpired = some tag then sendFrame b (.tardy tag) s
    else refuse b (some tag) .noSeek kindCommit s

/-! ## ABORT -/

/-- The abort index of a run cut at the end of the current sample (R29). -/
def cutIndex (now : Sample) (r : Seek) : Nat :=
  (now + 1 - r.launchAt).toNat

/-- The last sample a cut may change: launch sample + Q − 1 (R29). -/
def cutEnd (r cut : Seek) : Sample :=
  lastOf r.launchAt (max r.tailEnd cut.tailEnd)

/-- A RUNNING seek cut at the end of the current sample (R12, R29, R54). -/
def cutSeek (b : Bay) (p : Pos) (r : Seek) (s : State) : State :=
  let cut := recompileCut r (cutIndex s.now r)
  let s1 := replaceExposure b r cut (s.putSeek b p (some cut))
  if atOrBefore (s.now + 1) (cutEnd r cut) then forecastChange b (s.now + 1) (cutEnd r cut) s1
  else s1

/-- An ABORT that names `tag` (R27 to R30). -/
def takeAbortTag (b : Bay) (tag : Tag) (s : State) : State :=
  match s.findTag b tag with
  | some (p, r) =>
    match r.state with
    | .posted => searchStart (abandonSearch b p (dequeue b p (s.putSeek b p none)))
    | .granted => publishWhole b r (removeExposure b r (s.putSeek b p none))
    | .committed => publishWhole b r (removeExposure b r (s.putSeek b p none))
    | .running => if r.abortIndex.isSome then s else cutSeek b p r s
    | .tail => s
  | none => refuse b (some tag) .noSeek kindAbort s

/-! ## The commands -/

/-- LANE_TRANSMIT (R158). -/
def execLaneTransmit (b : Bay) (s : State) : Host.Outcome State Fault Refusal :=
  .next (transmitHead b s)

/-- PRESENCE_RISE (R151): a change of the line's level; while a reset is held the level alone changes
(R159). -/
def execPresenceRise (b : Bay) (s : State) : Host.Outcome State Fault Refusal :=
  .next (if s.pins.present.get b then s
    else if s.pins.resetHeld then setPresence b true s
    else detectDrive b (setPresence b true s))

/-- PRESENCE_FALL (R151). -/
def execPresenceFall (b : Bay) (s : State) : Host.Outcome State Fault Refusal :=
  .next (if !s.pins.present.get b then s
    else if s.pins.resetHeld then setPresence b false s
    else readRevisions (loseDrive b (setPresence b false s)))

/-- BAD_FRAME (R153): dropped, counted on a READY lane, whatever made it bad (R148). -/
def execBadFrame (b : Bay) (_why : FrameFault) (s : State) : Host.Outcome State Fault Refusal :=
  .next (if s.isReady b then
      if (s.lane b).bad + 1 < 4 then s.putLane b { s.lane b with bad := (s.lane b).bad + 1 }
      else readRevisions (faultLane b s)
    else s)

/-- UNKNOWN_FRAME (R152). -/
def execUnknownFrame (b : Bay) (kind : Byte) (_payload : List Byte) (s : State) :
    Host.Outcome State Fault Refusal :=
  .next (if (s.lane b).state = .absent then s
    else readRevisions (refuse b none .malformed kind (goodFrame b s)))

/-- HELLO (R152, R154, R155). -/
def execHello (b : Bay) (payload : List Byte) (s : State) : Host.Outcome State Fault Refusal :=
  .next (if (s.lane b).state = .absent then s
    else readRevisions (takeHello b payload (goodFrame b s)))

/-- NOTICE (R4, R152). -/
def execNotice (b : Bay) (payload : List Byte) (s : State) : Host.Outcome State Fault Refusal :=
  .next (readRevisions
    (receiveFrame b kindNotice none payload (takeNoticeFrame b payload) s))

/-- COMMIT (R20, R21, R152). -/
def execCommit (b : Bay) (payload : List Byte) (s : State) : Host.Outcome State Fault Refusal :=
  .next (readRevisions
    (receiveFrame b kindCommit (some 1) payload (takeCommitTag b (tagOf (byteAt payload 0))) s))

/-- ABORT (R27 to R30, R152). -/
def execAbort (b : Bay) (payload : List Byte) (s : State) : Host.Outcome State Fault Refusal :=
  .next (readRevisions
    (receiveFrame b kindAbort (some 1) payload (takeAbortTag b (tagOf (byteAt payload 0))) s))

/-- RESIDUAL (R134 to R140, R152). -/
def execResidual (b : Bay) (payload : List Byte) (s : State) : Host.Outcome State Fault Refusal :=
  .next (readRevisions
    (receiveFrame b kindResidual none payload (takeReport b payload) s))

end Sys2Proof.Machine
end

