-- ==== Sys2Proof/Config.lean ====
section
/-! DEFINITION. What the spec leaves to the world and no command carries. -/

namespace Sys2Proof

/-- FREE VALUE (assumption 3). The order in which the duties of a sample boundary are taken when
the sample divider itself expires on an idle step, by the number of the sample that ends. The
rules give the outcome of every order and choose none (R57, R66, R79, R93, R102, R158). -/
opaque Config.boundaryOrder : Nat → List Duty

end Sys2Proof
end

