-- ==== Sys2Proof/Machine/TimeBase.lean ====
section
/-! DEFINITION. The events of the Time Base and what every block does at a sample boundary, a slot start
and an epoch end (R22, R23, R25, R26, R35, R44 to R49, R55 to R57, R101, R102, R104, R111, R126,
R127), and the completions that bounded work reaches (R59, R75, R102, R109).

R44, R45 and R49 make a slot start a sample boundary and an epoch end a slot start, each one event.
SAMPLE_BOUNDARY is that event whichever it is; SLOT_START and EPOCH_END are it when the boundary about
to come is a slot start or an epoch end, and otherwise are not taken (assumption 4). -/

namespace Sys2Proof.Machine

/-! ## Completions -/

/-- The steps of a grant after the GRANT is handed: the record written, the entry removed, exposure
added, the forecast change published, FORCED_GRANT raised where called for, the next search started
(R19, R52, R74, R77). -/
def grantSteps (b : Bay) (p : Pos) (r : Seek) (s : State) : State :=
  let s1 := (dequeue b p (s.putSeek b p (some r))).setEngine none
  let s2 := publishWhole b r (addExposure b r s1)
  let m := r.markers.getD ⟨false, false⟩
  searchStart (if m.overLimit || m.delayed then raiseCause .forcedGrant b s2 else s2)

/-- The record of a granted seek (R14, R19, R74). -/
def grantedSeek (r : Seek) (t : Slot) (overLimit : Bool) : Seek :=
  { r with
    state := if r.auto then .committed else .granted
    launch := some t
    markers := some ⟨overLimit, earlier r.latest t⟩ }

/-- GRANT for a granted record (R77). -/
def grantFrame (r : Seek) : Frame :=
  let m := r.markers.getD ⟨false, false⟩
  .grant r.tag r.launchAt r.span m.overLimit m.delayed r.auto

/-- The completion of a search: a grant, or a new search on the same seek where the choice is too near
(R76, R77). -/
def completeSearch (s : State) : State :=
  match s.engine with
  | none => s
  | some sr =>
    match s.seekAt sr.bay sr.pos, chooseSlot sr with
    | some r, some (t, o) =>
      if atOrBefore (s.slot + 2) t then
        let r1 := grantedSeek r t o
        readRevisions (handThen sr.bay (grantFrame r1) (grantSteps sr.bay sr.pos r1) s)
      else rerunSearch sr.bay sr.pos s
    | _, _ => searchStart (s.setEngine none)

/-- The working table loaded into the active table where it differs, with a rebuild started (R126). -/
def takeCommit (s : State) : State :=
  if s.store.working = s.store.active then s
  else (s.setStore { s.store with
      active := s.store.working
      sequence := s.store.sequence + 1 }).setRebuild (some s.now)

/-- A commit due taken at a rebuild's completion (R127). -/
def takeDueCommit (s : State) : State :=
  if s.store.commitDue then takeCommit (s.setStore { s.store with commitDue := false }) else s

/-- The completion of a rebuild (R59, R79, R127). -/
def completeRebuild (searchFirst : Bool) (s : State) : State :=
  if s.rebuild.isNone then s
  else
    let s1 := raiseCause .rebuilt 0 ((recomputeExposure s).setRebuild none)
    if searchFirst then takeDueCommit (searchStart s1) else searchStart (takeDueCommit s1)

/-- The completion of a burst computation (R103). -/
def completeBurst (b : Bay) (s : State) : State :=
  match (s.stream b).burst with
  | none => s
  | some x =>
    readRevisions
      (handThen b (.correct x.first x.values)
        (fun u => u.putStream b (deliverBurst u.now x (u.stream b))) s)

/-- The revision of a record removed from those in computation. -/
def dropRevision (record : Sample) (t : Stream) : Stream :=
  { t with revisions := t.revisions.filter fun v => v.record != record }

/-- The completion of a revision: REVISE is sent (R109). -/
def completeRevision (b : Bay) (record : Sample) (s : State) : State :=
  match (s.stream b).revisions.find? fun v => v.record == record with
  | none => s
  | some v =>
    readRevisions
      (handThen b (.revise (v.record + 4) v.values)
        (fun u => u.putStream b (dropRevision record (u.stream b))) s)

/-- A DRAINING stream whose delivery list is empty enters OFF with STREAM_STOPPED pending; coverage is
kept (R111). -/
def completeDrain (b : Bay) (s : State) : State :=
  let t := s.stream b
  if t.state = .draining ∧ t.delivery = [] then
    raiseCause .streamStopped b (s.putStream b { t with state := .off, burst := none, revisions := [] })
  else s

/-! ## The order of the duties -/

/-- Every duty, in the order taken where the command names none. -/
def allDuties : List Duty :=
  bays.map .seek ++ bays.map .stream ++ [.epoch, .search] ++ bays.map .welcome ++ bays.map .mark

/-- The first occurrence of each entry, except those in `seen`. -/
def firstOccurrences (seen : List Duty) : List Duty → List Duty
  | [] => []
  | d :: rest =>
    if seen.contains d then firstOccurrences seen rest
    else d :: firstOccurrences (d :: seen) rest

/-- Every duty once: those named first, in their order, then the others (assumption 4). -/
def dutyOrder (order : List Duty) : List Duty :=
  firstOccurrences [] (order ++ allDuties)

/-- The order names the Arbiter's search start before the epoch's commit (R66, R79). -/
def searchBeforeCommit (order : List Duty) : Bool :=
  (dutyOrder order).find? (fun d => d == .search || d == .epoch) == some .search

/-! ## Work that has reached its bound -/

/-- Bay `b`'s burst completed if the sample after its boundary is ending (R102). -/
def overdueBurst (s : State) (b : Bay) : State :=
  match (s.stream b).burst with
  | some x => if x.start = s.now then s else completeBurst b s
  | none => s

/-- The revisions of bay `b` whose sample after their start is ending, completed (R109). -/
def overdueRevisions (s : State) (b : Bay) : State :=
  (((s.stream b).revisions.filter fun v => v.start != s.now).map (·.record)).foldl
    (fun u m => completeRevision b m u) s

/-- Eight sample boundaries, the one about to come included, have followed sample `m`. -/
def eighthBoundary (now m : Sample) : Bool :=
  decide (7 ≤ (now - m).toNat)

/-- The search completed if the boundary about to come is the eighth after its start (R75). A worked
sequence of 04_admission.md lets a search pass that boundary; the model follows R75 (assumption 22). -/
def overdueSearch (s : State) : State :=
  match s.engine with
  | some sr => if eighthBoundary s.now sr.startSample then completeSearch s else s
  | none => s

/-- The rebuild completed if the boundary about to come is the eighth after its start (R59). R79 leaves it
to the Arbiter whether a due commit or the search start is taken first at a completion, and says nothing
of a completion that its bound forces: DESIGN CHOICE, it is the order that the boundary's operand gives the
search and the epoch (assumption 5). -/
def overdueRebuild (order : List Duty) (s : State) : State :=
  match s.rebuild with
  | some m => if eighthBoundary s.now m then completeRebuild (searchBeforeCommit order) s else s
  | none => s

/-- All work that its rule bounds by the boundary about to come, completed: DESIGN CHOICE, bursts by bay,
then revisions by bay, then the search, then the rebuild (assumption 5). -/
def completeOverdue (order : List Duty) (s : State) : State :=
  overdueRebuild order (overdueSearch (bays.foldl overdueRevisions (bays.foldl overdueBurst s)))

/-! ## Seeks at a boundary -/

/-- A record at the boundary that begins sample `m`: the end of its run or of its tail (R25, R26). -/
def endedSeek (m : Sample) (r : Seek) : Option Seek :=
  if r.state = .running ∧ m = r.launchAt + BitVec.ofNat 32 r.runEnd then
    if r.tailLen = 0 then none else some { r with state := .tail }
  else if r.state = .tail ∧ m = r.launchAt + BitVec.ofNat 32 r.tailEnd then none
  else some r

/-- Every record at the boundary that begins the current sample (R25, R26). -/
def endSeeks (s : State) : State :=
  s.setSeeks (Tab.gen 16 fun b => Tab.gen 4 fun p => (s.seekAt b p).bind (endedSeek s.now))

/-- The steps of an expiry after EXPIRE is handed (R23). -/
def expirySteps (b : Bay) (p : Pos) (r : Seek) (s : State) : State :=
  let s1 := (s.putSeek b p none).putLane b { s.lane b with lastExpired := some r.tag }
  raiseCause .expiry b (publishWhole b r (removeExposure b r s1))

/-- The launch or expiry of what stands at position `p` of bay `b` (R22, R23). -/
def launchOrExpire (b : Bay) (s : State) (p : Pos) : State :=
  match s.seekAt b p with
  | none => s
  | some r =>
    if r.launch = some s.slot ∧ r.state = .committed then
      s.putSeek b p (some { r with state := .running })
    else if r.launch = some s.slot ∧ r.state = .granted then
      handThen b (.expire r.tag r.launchAt) (expirySteps b p r) s
    else s

/-! ## The duties -/

/-- The epoch counter advanced, and the epoch end it may bring (R49, R126, R127). -/
def advanceEpoch (s : State) : State :=
  if s.store.epochCount + 1 < s.store.epochLength.slots then
    s.setStore { s.store with epochCount := s.store.epochCount + 1 }
  else if s.rebuild.isSome then
    s.setStore { s.store with epochCount := 0, commitDue := true }
  else takeCommit (s.setStore { s.store with epochCount := 0 })

/-- MARK on bay `b`'s lane, if READY (R57). -/
def markDuty (b : Bay) (s : State) : State :=
  if s.isReady b then sendFrame b (.mark s.now) s else s

/-- WELCOME on bay `b`'s lane, if READY (R48). -/
def welcomeDuty (b : Bay) (s : State) : State :=
  if s.isReady b then sendFrame b (s.welcomeFrame b) s else s

/-- One duty of the boundary that begins the current sample; `changed`: a divisor came into force. -/
def runDuty (changed : Bool) (s : State) (d : Duty) : State :=
  match d with
  | .seek b => if isSlotStart s.now then positions.foldl (launchOrExpire b) s else s
  | .stream b => burstDuty b s
  | .epoch => if isSlotStart s.now then advanceEpoch s else s
  | .search => if isSlotStart s.now then searchStart (clearHolds s) else s
  | .welcome b => if changed then welcomeDuty b s else s
  | .mark b => if isSlotStart s.now then markDuty b s else s

/-- What the boundary that begins the current sample brings whatever the order: histories appended, runs
and tails ended, delivery records retired, drains completed, the old row recycled at a slot start (R25,
R26, R35, R56, R104, R111). -/
def boundaryStart (s : State) : State :=
  let s1 := endSeeks (appendHistories s)
  let s2 := s1.setStreams (Tab.gen 16 fun b => retireRecords s1.now (s1.stream b))
  let s3 := bays.foldl (fun u b => completeDrain b u) s2
  if isSlotStart s3.now then recycleExposure s3 else s3

/-- Every duty of the boundary that begins the current sample. -/
def boundaryDuties (changed : Bool) (order : List Duty) (s : State) : State :=
  readRevisions ((dutyOrder order).foldl (runDuty changed) (boundaryStart s))

/-- The divider expired: the counter advanced, a pending divisor in force (R44, R48). -/
def advanceSample (s : State) : State :=
  s.setTime
    { divider := 0
      divisor := s.time.pendingDivisor.getD s.time.divisor
      pendingDivisor := none
      sample := s.now + 1 }

/-- The whole event of a sample boundary. -/
def takeBoundary (order : List Duty) (s : State) : State :=
  let s1 := completeOverdue order s
  boundaryDuties s1.time.pendingDivisor.isSome order (advanceSample s1)

/-- The boundary about to come is a slot start that brings the epoch counter to its length (R49). -/
def State.epochEndNext (s : State) : Bool :=
  s.slotStartNext && decide (s.store.epochLength.slots ≤ s.store.epochCount + 1)

/-- One REFCLK period: the divider counts, and expires after as many as the divisor in force (R44). No
period is counted while a reset is held. -/
def countPeriod (s : State) : State :=
  if s.pins.resetHeld then s
  else if s.time.divisor ≤ s.time.divider + 1 then
    takeBoundary (Config.boundaryOrder s.now.toNat) s
  else s.setTime { s.time with divider := s.time.divider + 1 }

/-! ## The commands -/

/-- SAMPLE_BOUNDARY (R44). -/
def execSampleBoundary (order : List Duty) (s : State) : Host.Outcome State Fault Refusal :=
  .next (if s.pins.resetHeld then s else takeBoundary order s)

/-- SLOT_START (R45, R55): the sample boundary that begins a slot. -/
def execSlotStart (order : List Duty) (s : State) : Host.Outcome State Fault Refusal :=
  .next (if !s.pins.resetHeld && s.slotStartNext then takeBoundary order s else s)

/-- EPOCH_END (R49): the slot start that brings the epoch counter to the epoch length. -/
def execEpochEnd (order : List Duty) (s : State) : Host.Outcome State Fault Refusal :=
  .next (if !s.pins.resetHeld && s.epochEndNext then takeBoundary order s else s)

/-- REBUILD_COMPLETE (R59). -/
def execRebuildComplete (searchFirst : Bool) (s : State) : Host.Outcome State Fault Refusal :=
  .next (completeRebuild searchFirst s)

/-- SEARCH_START (R66). -/
def execSearchStart (s : State) : Host.Outcome State Fault Refusal :=
  .next (searchStart s)

/-- SEARCH_COMPLETE (R76, R77). -/
def execSearchComplete (s : State) : Host.Outcome State Fault Refusal :=
  .next (completeSearch s)

/-- BURST_COMPLETE (R103). -/
def execBurstComplete (b : Bay) (s : State) : Host.Outcome State Fault Refusal :=
  .next (completeBurst b s)

/-- REVISION_COMPLETE (R109). -/
def execRevisionComplete (b : Bay) (record : Sample) (s : State) : Host.Outcome State Fault Refusal :=
  .next (completeRevision b record s)

/-- DRAIN_COMPLETE (R111). -/
def execDrainComplete (b : Bay) (s : State) : Host.Outcome State Fault Refusal :=
  .next (completeDrain b s)

end Sys2Proof.Machine
end

