-- ==== Sys2Proof/Machine/Resets.lean ====
section
/-! DEFINITION. The hub resets and their release (R46, R131, R132, R159, R170, R174, R179). -/

namespace Sys2Proof.Machine

/-- The Coefficient Store after a pin reset or HUB RESET: tables in service and commit sequence kept
(R132). -/
def keptStore (x : Store) : Store :=
  { Store.reset with active := x.active, working := x.working, sequence := x.sequence }

/-- The select period after a reset began in it: it ends without taking a request, and the port waits for
the next falling edge of CSn (R163). -/
def endedSelect : SelectPhase → SelectPhase
  | .idle => .idle
  | .request _ => .over
  | .answered _ => .over
  | .over => .over

/-- CSn has risen: the select period is over and its response lost (R164). MISO is high while CSn is:
DESIGN CHOICE (assumption 23). -/
def deselect (s : State) : State :=
  s.setPort { s.port with select := .idle, shift := [], miso := true, response := none }

/-- The part after a hub reset with cause `c` and store `x`, before the release: every block at its reset
values, the presence lines and CSn as the world holds them, the waiting commands untouched. -/
def hubReset (c : ResetCause) (x : Store) (s : State) : State :=
  { State.reset with
    store := x
    port := { Port.reset with select := endedSelect s.port.select, cause := c }
    pins := { present := s.pins.present, resetHeld := true }
    pending := s.pending }

/-- A lane whose presence is held taken to DETECTED at a release (R159). -/
def arriveHeld (s : State) (b : Bay) : State :=
  if s.pins.present.get b then detectDrive b s else s

/-- The release of a hub reset: the sample boundary and slot start that begins sample 0 with every block
at its reset values, then the arrivals (R46, R159, R179). -/
def releaseReset (order : List Duty) (s : State) : State :=
  bays.foldl arriveHeld
    (boundaryDuties false order (s.setPins { s.pins with resetHeld := false }))

/-- POWER_ON (R131). -/
def execPowerOn (s : State) : Host.Outcome State Fault Refusal :=
  .next (hubReset .power Store.reset s)

/-- PIN_RESET (R132). -/
def execPinReset (s : State) : Host.Outcome State Fault Refusal :=
  .next (hubReset .pin (keptStore s.store) s)

/-- RESET_RELEASE (R46). -/
def execResetRelease (order : List Duty) (s : State) : Host.Outcome State Fault Refusal :=
  .next (if s.pins.resetHeld then releaseReset order s else s)

/-- HUB_RESET_AT_CSN_RISE (R174): the select period ended, the armed reset taken, its release at once
after it. -/
def execHubResetAtCsnRise (s : State) : Host.Outcome State Fault Refusal :=
  .next (if s.port.resetArmed then
      releaseReset [] (hubReset .command (keptStore s.store) (deselect s))
    else s)

end Sys2Proof.Machine
end

