-- ==== Sys2Proof/Machine/Dispatch.lean ====
section
/-! DEFINITION. The meaning of every command: one arm per row of spec/opcode_table.json. -/

namespace Sys2Proof.Machine

def exec (i : Instr) (s : State) : Host.Outcome State Fault Refusal :=
  match i with
  | .powerOn => Sys2Proof.Machine.execPowerOn s
  | .pinReset => Sys2Proof.Machine.execPinReset s
  | .resetRelease order => Sys2Proof.Machine.execResetRelease order s
  | .sampleBoundary order => Sys2Proof.Machine.execSampleBoundary order s
  | .slotStart order => Sys2Proof.Machine.execSlotStart order s
  | .epochEnd order => Sys2Proof.Machine.execEpochEnd order s
  | .rebuildComplete searchFirst => Sys2Proof.Machine.execRebuildComplete searchFirst s
  | .searchStart => Sys2Proof.Machine.execSearchStart s
  | .searchComplete => Sys2Proof.Machine.execSearchComplete s
  | .burstComplete b => Sys2Proof.Machine.execBurstComplete b s
  | .revisionComplete b record => Sys2Proof.Machine.execRevisionComplete b record s
  | .drainComplete b => Sys2Proof.Machine.execDrainComplete b s
  | .laneTransmit b => Sys2Proof.Machine.execLaneTransmit b s
  | .presenceRise b => Sys2Proof.Machine.execPresenceRise b s
  | .presenceFall b => Sys2Proof.Machine.execPresenceFall b s
  | .badFrame b why => Sys2Proof.Machine.execBadFrame b why s
  | .unknownFrame b kind payload => Sys2Proof.Machine.execUnknownFrame b kind payload s
  | .hello b payload => Sys2Proof.Machine.execHello b payload s
  | .notice b payload => Sys2Proof.Machine.execNotice b payload s
  | .commit b payload => Sys2Proof.Machine.execCommit b payload s
  | .abort b payload => Sys2Proof.Machine.execAbort b payload s
  | .residual b payload => Sys2Proof.Machine.execResidual b payload s
  | .badRequest why => Sys2Proof.Machine.execBadRequest why s
  | .settingRead b => Sys2Proof.Machine.execSettingRead b s
  | .streamEnable b w => Sys2Proof.Machine.execStreamEnable b w s
  | .streamDisable b w => Sys2Proof.Machine.execStreamDisable b w s
  | .hubRead => Sys2Proof.Machine.execHubRead s
  | .hubWrite divisor code => Sys2Proof.Machine.execHubWrite divisor code s
  | .freeze => Sys2Proof.Machine.execFreeze s
  | .thaw => Sys2Proof.Machine.execThaw s
  | .peekRow b => Sys2Proof.Machine.execPeekRow b s
  | .pokeRow b row => Sys2Proof.Machine.execPokeRow b row s
  | .activeRowRead b => Sys2Proof.Machine.execActiveRowRead b s
  | .bayInspect b page => Sys2Proof.Machine.execBayInspect b page s
  | .exposureRead b offset count => Sys2Proof.Machine.execExposureRead b offset count s
  | .attentionRead => Sys2Proof.Machine.execAttentionRead s
  | .attentionClear causes => Sys2Proof.Machine.execAttentionClear causes s
  | .attentionConfigure mask route => Sys2Proof.Machine.execAttentionConfigure mask route s
  | .bayReset b => Sys2Proof.Machine.execBayReset b s
  | .hubReset => Sys2Proof.Machine.execHubReset s
  | .hubResetAtCsnRise => Sys2Proof.Machine.execHubResetAtCsnRise s

end Sys2Proof.Machine
end

