-- ==== Sys2Proof/Machine/Wire.lean ====
section
/-! DEFINITION. The lines themselves: characters and frames on a bay lane (R147, R148, R151, R158), and the
bits and bytes of a select period on the management port (R163, R164). The opcode table's commands carry
whole frames and requests; these functions say which of them the part takes from what arrives, and take
them, and what it puts out (assumptions 11, 19 and 23). -/

namespace Sys2Proof.Machine

/-- A command taken at once, in the event that completes it. -/
def takeEvent (c : Instr) (s : State) : State :=
  match exec c s with
  | .next t => t
  | .fault _ => s
  | .refused _ => s

/-! ## Characters -/

/-- The ten bits of a character: start bit at the space level, eight data bits least significant first,
stop bit at the mark level (R147). -/
def characterBits (x : Byte) : List Bool :=
  false :: (List.range 8).map x.getLsbD ++ [true]

/-- What a lane's receiver sees in one character time. -/
inductive LineChar where
  /-- A character, with its stop bit's level: `true` is mark. -/
  | data (x : Byte) (stopMark : Bool)
  /-- An idle character time: the line at the mark level throughout. -/
  | idle
deriving DecidableEq, Repr

/-- The character of ten bits that begin with a start bit. -/
def readCharacter (bits : List Bool) : LineChar :=
  .data ((List.range 8).foldl
    (fun a i => if bits.getD (i + 1) true then a ||| BitVec.twoPow 8 i else a) 0#8) (bits.getD 9 true)

/-! ## The receiver -/

/-- The bytes hold a whole frame, its check included (R148). -/
def frameWhole : List Byte → Bool
  | _ :: len :: rest => decide (rest.length = len.toNat + 1)
  | _ => false

/-- The bytes hold a length byte above 40 (R148). -/
def frameOverlong : List Byte → Bool
  | _ :: len :: _ => decide (40 < len.toNat)
  | _ => false

/-- A byte received at a frame's place, and the command it completes (R147, R148). -/
def receiveByte (b : Bay) (bytes : List Byte) (stopMark : Bool) : Receiver × List Instr :=
  if !stopMark then (.settling 0, [.badFrame b .stopBitSpace])
  else if frameOverlong bytes then (.settling 0, [.badFrame b .lengthOver40])
  else if frameWhole bytes then (.settling 0, [laneFrameCommand b bytes])
  else (.inFrame bytes 0, [])

/-- A character time on an ABSENT lane: what arrives is discarded, the frame it belongs to with it, and
idle times count toward the next frame start (R147, R151). -/
def discardChar : Receiver → LineChar → Receiver
  | .settling n, .idle => if n = 0 then .settling 1 else .waiting
  | .waiting, .idle => .waiting
  | .inFrame _ _, .idle => .settling 1
  | _, .data _ _ => .settling 0

/-- One character time at the receiver of a lane in state `x` (R147, R148, R151): a frame begins with the
first character after at least two idle times, and after a frame, good or bad, none begins before two more
have passed. -/
def receiveChar (b : Bay) (x : LaneState) (r : Receiver) (ch : LineChar) : Receiver × List Instr :=
  if x = .absent then (discardChar r ch, [])
  else
    match r, ch with
    | .settling n, .idle => (if n = 0 then .settling 1 else .waiting, [])
    | .settling _, .data _ _ => (.settling 0, [])
    | .waiting, .idle => (.waiting, [])
    | .waiting, .data y m => receiveByte b [y] m
    | .inFrame bytes n, .idle =>
      if n = 0 then (.inFrame bytes 1, []) else (.waiting, [.badFrame b .cutShort])
    | .inFrame bytes _, .data y m => receiveByte b (bytes ++ [y]) m

/-- The commands that a run of character times brings, each with the lane's state at it (R147, R148,
R151). -/
def receiveLine (b : Bay) (r : Receiver) : List (LaneState × LineChar) → List Instr
  | [] => []
  | x :: rest =>
    let y := receiveChar b x.1 r x.2
    y.2 ++ receiveLine b y.1 rest

/-- One character time on bay `b`'s receive line: the receiver moves by the lane's state, and a frame is
taken in the event its check character is received (R147). -/
def hearChar (b : Bay) (ch : LineChar) (s : State) : State :=
  let y := receiveChar b (s.lane b).state (s.receivers.get b) ch
  y.2.foldl (fun u c => takeEvent c u) (s.setReceivers (s.receivers.upd b y.1))

/-- A frame as the transmitter sends it: one unbroken run of characters, then two idle character times
(R147, R158). -/
def transmitLine (f : Frame) : List LineChar :=
  f.bytes.map (fun x => .data x true) ++ [.idle, .idle]

/-! ## The select period -/

/-- The bits of a byte on the port, most significant first (R163). -/
def portBits (x : Byte) : List Bool :=
  (List.range 8).map fun i => x.getLsbD (7 - i)

/-- The byte of eight bits, most significant first (R163). -/
def portByte (bits : List Bool) : Byte :=
  bits.foldl (fun a v => (a <<< 1) ||| bitAt 0 v) 0#8

/-- The port in another phase of the select period, at the start of a byte. -/
def State.inPhase (s : State) (x : SelectPhase) : State :=
  s.setPort { s.port with select := x, shift := [] }

/-- CSn falls: a select period begins with no response to give and the first bit of FFh on MISO; one that
begins while a reset is held takes nothing (R163, R164). -/
def csnFall (s : State) : State :=
  s.setPort { s.port with
    select := if s.pins.resetHeld then .over else .request []
    shift := []
    miso := true
    response := none }

/-- CSn rises: the select period ends, its response lost, and a hub reset that its request armed is taken
(R163, R164, R174). -/
def csnRise (s : State) : State :=
  if s.port.resetArmed then takeEvent .hubResetAtCsnRise s else deselect s

/-- A byte clocked in on MOSI. The check byte that completes a request takes it; a length byte above 40
ends what the period takes; the bytes after the request are ignored (R163, R164). -/
def clockByte (x : Byte) (s : State) : State :=
  match s.port.select with
  | .idle => s
  | .over => s.inPhase .over
  | .answered n => s.inPhase (.answered (n + 1))
  | .request mosi =>
    if frameOverlong (mosi ++ [x]) then s.inPhase .over
    else if frameWhole (mosi ++ [x]) then
      ((requestCommand (mosi ++ [x])).toList.foldl (fun u c => takeEvent c u) s).inPhase (.answered 0)
    else s.inPhase (.request (mosi ++ [x]))

/-- A rising edge of SCK, at which MOSI's bit `v` is sampled and MISO stays; with CSn high nothing happens
(R163). -/
def sckRise (v : Bool) (s : State) : State :=
  match s.port.select with
  | .idle => s
  | _ =>
    if s.port.shift.length < 7 then s.setPort { s.port with shift := s.port.shift ++ [v] }
    else clockByte (portByte (s.port.shift ++ [v])) s

/-- The byte on MISO: FFh during the request and the four filler bytes, then the response of the period's
request, then FFh; FFh where there is none (R163, R164). -/
def State.misoByte (s : State) : Byte :=
  match s.port.select, s.port.response with
  | .answered n, some r => if n < 4 then 0xFF#8 else r.bytes.getD (n - 4) 0xFF#8
  | _, _ => 0xFF#8

/-- A falling edge of SCK, at which MISO changes to the next bit of its byte, most significant first; with
CSn high nothing happens (R163). -/
def sckFall (s : State) : State :=
  match s.port.select with
  | .idle => s
  | _ => s.setPort { s.port with miso := s.misoByte.getLsbD (7 - s.port.shift.length) }

/-- The level of MISO, which the controller samples at a rising edge of SCK (R163). -/
def State.misoBit (s : State) : Bool :=
  s.port.miso

end Sys2Proof.Machine
end

