-- ==== Sys2Proof/Safety.lean ====
section
/-! DEFINITION. What holds of the part between events, as laws over its state. Each is a law the rules
state of the whole machine; a run is safe when its states keep them. -/

namespace Sys2Proof.Machine

/-! ## The Coefficient Store and the Adaptation Unit -/

/-- Every entry has C in −128..+127 and d in 0..7, and the diagonal is (0, 0) (R117). -/
def CoeffTable.Lawful (t : CoeffTable) : Prop :=
  ∀ b src : Bay,
    (-128 ≤ ((t.get b).get src).c ∧ ((t.get b).get src).c ≤ 127 ∧ ((t.get b).get src).d ≤ 7)
      ∧ (b = src → (t.get b).get src = ⟨0, 0⟩)

/-- All three tables keep R117's law. -/
def TablesLawful (s : State) : Prop :=
  s.store.active.Lawful ∧ s.store.working.Lawful ∧ s.store.snapshot.Lawful

/-- Every accumulator lies strictly between the thresholds of its row's adapt rate; a row at OFF and the
diagonal are 0 (R137, R141). -/
def AccumulatorsLawful (s : State) : Prop :=
  ∀ b src : Bay,
    (match (s.setting b).rate.threshold with
      | none => s.accAt b src = 0
      | some n => -(n : Int) < s.accAt b src ∧ s.accAt b src < n)
    ∧ (b = src → s.accAt b src = 0)

/-! ## Admission -/

/-- What stands at a position is a POSTED seek. -/
def State.isPosted (s : State) (b : Bay) (p : Pos) : Bool :=
  (s.seekAt b p).any fun r => r.state == .posted

/-- The admission queue holds exactly the POSTED seeks, each once, and the engine works on one of them
(R64, R67). -/
def QueueLawful (s : State) : Prop :=
  (s.queue.map fun e => (e.bay, e.pos)).Nodup
    ∧ (∀ b p, (b, p) ∈ (s.queue.map fun e => (e.bay, e.pos)) ↔ s.isPosted b p = true)
    ∧ ∀ sr, s.engine = some sr → s.isPosted sr.bay sr.pos = true ∧ sr.candidates ≠ []

/-- No search waits that could start: with the engine IDLE and no rebuild in progress, every queue entry
is held (R66). -/
def EngineEager (s : State) : Prop :=
  s.engine = none → s.rebuild = none → ∀ e ∈ s.queue, e.held = true

/-! ## Lanes and streams -/

/-- Declared capabilities as R154 takes them. -/
def Caps.Lawful (c : Caps) : Prop :=
  c.protocol = 1#8 ∧ (c.maxBurst = 4 ∨ c.maxBurst = 8) ∧ 8 ≤ c.maxLead ∧ c.maxLead ≤ 64

/-- A lane outside READY holds no live seek and its stream is OFF; the counts and the queue keep their
bounds; an ABSENT lane has no capabilities and nothing to send (R40, R99, R112, R151, R154, R158,
R162). -/
def LanesLawful (s : State) : Prop :=
  ∀ b : Bay,
    ((s.lane b).state ≠ .ready →
      (s.stream b).state = .off ∧ (s.lane b).bad = 0 ∧ ∀ p, s.seekAt b p = none)
    ∧ (s.lane b).bad ≤ 3 ∧ (s.lane b).queue.length ≤ 32
    ∧ ((s.lane b).state = .absent → (s.lane b).caps = none ∧ (s.lane b).queue = [])
    ∧ ∀ c, (s.lane b).caps = some c → c.Lawful

/-- The effective values are those of R97; a stream that is OFF or STARTING has delivered nothing it still
holds and computes nothing; only a RUNNING one computes a burst (R96, R99, R102, R104). -/
def StreamsLawful (s : State) : Prop :=
  ∀ b : Bay,
    (s.stream b).burstLen = effectiveBurst (s.setting b) (s.lane b).caps
    ∧ (s.stream b).lead = effectiveStreamLead (s.setting b) (s.lane b).caps
    ∧ ((s.stream b).state ≠ .running → (s.stream b).burst = none)
    ∧ ((s.stream b).state = .off ∨ (s.stream b).state = .starting →
        (s.stream b).delivery = [] ∧ (s.stream b).revisions = [])
    ∧ ((s.stream b).state = .starting → (s.stream b).coverage = none)
    ∧ ∀ x ∈ (s.stream b).delivery, x.revised = true → x.burst = 8

/-- The laws of the lanes and of the streams, each of which the other keeps (R97, R99, R112). -/
def LaneStreamLawful (s : State) : Prop :=
  LanesLawful s ∧ StreamsLawful s

/-- Between events every revision in computation has read its values (R109). -/
def RevisionsRead (s : State) : Prop :=
  ∀ b : Bay, ∀ v ∈ (s.stream b).revisions, v.values ≠ []

/-- The number of samples from burst boundary `m − m mod n` to `m`. -/
def sinceBoundary (n : Nat) (m : Sample) : Nat :=
  m.toNat % n

/-- The delivery records follow one another without gaps, the last of them ending `finish` (R104). -/
def Chained (n : Nat) (finish : Sample) : List Delivery → Prop
  | [] => True
  | x :: rest =>
    x.burst = n ∧ x.first + BitVec.ofNat 32 (n * (rest.length + 1)) = finish ∧ Chained n finish rest

/-- The delivery list of a stream: consecutive bursts of the effective length, the latest of them the
burst of the latest burst boundary, or the one before while that burst is in computation; no record
held past its last sample; at most 17 (R102, R104). -/
def Stream.DeliveryLawful (now : Sample) (t : Stream) : Prop :=
  let n := t.burstLen
  let ahead := t.lead + n - sinceBoundary n now
  t.delivery.length ≤ 17
    ∧ (∀ x ∈ t.delivery, 1 ≤ (x.first + BitVec.ofNat 32 x.burst - now).toInt)
    ∧ (match t.burst with
      | some x => x.first = now + BitVec.ofNat 32 (ahead - n)
          ∧ x.start = now - BitVec.ofNat 32 (sinceBoundary n now) ∧ sinceBoundary n now ≤ 1
          ∧ Chained n x.first t.delivery
      | none => t.state = .running → Chained n (now + BitVec.ofNat 32 ahead) t.delivery)
    ∧ (t.state = .draining → ∃ finish : Sample, Chained n finish t.delivery)

/-- Every stream's delivery list (R104). -/
def DeliveriesLawful (s : State) : Prop :=
  ∀ b : Bay, (s.stream b).DeliveryLawful s.now

/-- The bounds of the work the Part does between boundaries: a rebuild is at most eight boundaries old
(R59), a burst and a revision complete in the sample after the one they start in (R102, R109). -/
def WorkBounded (s : State) : Prop :=
  (∀ m, s.rebuild = some m → (s.now - m).toNat ≤ 7)
    ∧ ∀ b : Bay, (∀ x, (s.stream b).burst = some x → (s.now - x.start).toNat ≤ 1)
      ∧ ∀ v ∈ (s.stream b).revisions, (s.now - v.start).toNat ≤ 1

/-! ## Seeks -/

/-- No two live seeks of one bay share a tag, and none carries the bay's last-expired tag (R17, R32). -/
def TagsLawful (s : State) : Prop :=
  ∀ b : Bay,
    (∀ p q r t, s.seekAt b p = some r → s.seekAt b q = some t → r.tag = t.tag → p = q)
    ∧ ∀ p r, s.seekAt b p = some r → (s.lane b).lastExpired ≠ some r.tag

/-- A record holds what its segments, release shift and abort index compile to (R5, R7, R8, R9, R12). -/
def Seek.Compiled (r : Seek) : Prop :=
  r.length = profileLength r.segments ∧ 1 ≤ r.length ∧ r.length ≤ 320
    ∧ 1 ≤ r.shift ∧ r.shift ≤ 7
    ∧ 1 ≤ r.runEnd ∧ r.runEnd ≤ r.length
    ∧ (∀ g ∈ r.segments, -127 ≤ g.level ∧ g.level ≤ 127 ∧ 1 ≤ g.duration ∧ g.duration ≤ 256)
    ∧ r.tailLen = (runTail r.segments r.runEnd r.shift).length
    ∧ r.span = slotsFor r.tailEnd
    ∧ r.mags = slotMagnitudes (profileValues r.segments r.runEnd r.shift)

/-- A record's state agrees with the current sample: a POSTED one has no launch slot; a GRANTED or
COMMITTED one launches in a later slot; a RUNNING one is within its run and one in TAIL within its tail;
and every granted one ends inside the horizon (R11, R14, R22, R25, R26, R71). -/
def Seek.Timely (now : Sample) (r : Seek) : Prop :=
  match r.launch with
  | none => r.state = .posted ∧ r.markers = none ∧ r.abortIndex = none
  | some l =>
    r.state ≠ .posted ∧ r.markers.isSome
      ∧ (l - slotOf now).toInt + r.span ≤ 64
      ∧ (match r.state with
        | .posted => False
        | .granted => 1 ≤ (l - slotOf now).toInt ∧ r.abortIndex = none
        | .committed => 1 ≤ (l - slotOf now).toInt ∧ r.abortIndex = none
        | .running => 0 ≤ (now - launchSample l).toInt ∧ (now - launchSample l).toInt < r.runEnd
        | .tail => r.runEnd ≤ (now - launchSample l).toInt
            ∧ (now - launchSample l).toInt < r.tailEnd)

/-- Every record is compiled and timely. -/
def SeeksLawful (s : State) : Prop :=
  ∀ b p r, s.seekAt b p = some r → r.Compiled ∧ r.Timely s.now

/-- The run intervals of one bay's granted seeks never overlap: of two, the later launches at or after
the profile end of the earlier (R69). -/
def RunsApart (s : State) : Prop :=
  ∀ b p q r t l m, p ≠ q → s.seekAt b p = some r → s.seekAt b q = some t →
    r.launch = some l → t.launch = some m →
    atOrBefore (profileEnd l r.runEnd) m = true ∨ atOrBefore (profileEnd m t.runEnd) l = true

/-- Every candidate of the search in progress lies at start slot + 2 or later, and at or after the profile
end of every other granted seek of its bay (R69, R70). -/
def SearchSpaced (s : State) : Prop :=
  ∀ sr, s.engine = some sr → ∀ c ∈ sr.candidates,
    2 ≤ (c - sr.startSlot).toInt
    ∧ ∀ q r l, q ≠ sr.pos → s.seekAt sr.bay q = some r → r.launch = some l →
      atOrBefore (profileEnd l r.runEnd) c = true

/-- No POSTED seek has waited so long, a quarter of the range of slot numbers, that the modular
comparison of its window with the current slot is about to turn over. -/
def Fresh (s : State) : Prop :=
  ∀ b p r, s.seekAt b p = some r → r.state = .posted →
    -(2 ^ 27) ≤ (r.earliest - s.slot).toInt ∧ (r.earliest - s.slot).toInt ≤ 2 ^ 27
      ∧ 0 ≤ (r.latest - r.earliest).toInt ∧ (r.latest - r.earliest).toInt ≤ 31

/-- The search in progress works on a copy of its seek's record taken at most eight boundaries ago, and
its candidates keep the grant inside the start slot's horizon (R68, R71, R75). -/
def SearchLawful (s : State) : Prop :=
  ∀ sr, s.engine = some sr →
    sr.startSlot = slotOf sr.startSample ∧ (s.now - sr.startSample).toNat ≤ 7
    ∧ (∀ r, s.seekAt sr.bay sr.pos = some r →
        sr.span = r.span ∧ sr.mags = r.mags ∧ sr.earliest = r.earliest ∧ sr.latest = r.latest)
    ∧ ∀ t ∈ sr.candidates, atOrBefore t (sr.startSlot + 64 - BitVec.ofNat 29 sr.span) = true

/-! ## Exposure -/

/-- Whenever no rebuild is in progress, the exposure table agrees with the calendar at every position but
that of the current slot (R51). -/
def ExposureAgrees (s : State) : Prop :=
  s.rebuild = none → ∀ (b : Bay) (p : Fin 64), p ≠ positionOf s.slot →
    s.exposureAt b p = s.calendarLoad b (slotAt s.slot p)

/-! ## Time base, settings and attention -/

/-- The divisor in force and a pending one lie in 500..2000 and differ; the divider has not reached the
divisor; the epoch counter has not reached the epoch length (R44, R47, R119). -/
def TimeLawful (s : State) : Prop :=
  500 ≤ s.time.divisor ∧ s.time.divisor ≤ 2000 ∧ s.time.divider < s.time.divisor
    ∧ (∀ d, s.time.pendingDivisor = some d → 500 ≤ d ∧ d ≤ 2000 ∧ d ≠ s.time.divisor)
    ∧ s.store.epochCount < s.store.epochLength.slots

/-- Every field of a setting record lies in its range (R167). -/
def SettingsLawful (s : State) : Prop :=
  ∀ b : Bay,
    ((s.setting b).burst = 4 ∨ (s.setting b).burst = 8)
    ∧ 8 ≤ (s.setting b).lead ∧ (s.setting b).lead ≤ 64
    ∧ (s.setting b).gain ≤ 255 ∧ (s.setting b).limit ≤ 4095
    ∧ 1 ≤ (s.setting b).shift ∧ (s.setting b).shift ≤ 7 ∧ (s.setting b).deadband ≤ 15

/-- While a power-on or pin reset is held every block stays at its reset values; the three kept items
of the Coefficient Store and the reset cause are those the reset left, and what the lines bring, receivers
and select period, is the world's (R46, R131, R132, R163). -/
def HeldAtReset (s : State) : Prop :=
  s.pins.resetHeld = true →
    ∃ (x : Store) (c : ResetCause), s = { State.reset with
      store := { Store.reset with
        active := x.active, working := x.working, sequence := x.sequence }
      receivers := s.receivers
      port := { s.port with response := none, resetArmed := false, cause := c }
      pins := { present := s.pins.present, resetHeld := true }
      pending := s.pending }

/-- REBUILT's bay set stays empty (R176). -/
def RebuiltSetEmpty (s : State) : Prop :=
  s.attention.sets.get Cause.rebuilt.bit = 0

/-! ## Laws that carry one another -/

/-- The calendar's law with what carries it from event to event (R51, R64, R71, R167). -/
def CalendarLawful (s : State) : Prop :=
  HeldAtReset s ∧ SettingsLawful s ∧ QueueLawful s ∧ SeeksLawful s ∧ SearchLawful s ∧ ExposureAgrees s

/-- The law of the bays' runs with what carries it (R69). -/
def SpacingLawful (s : State) : Prop :=
  CalendarLawful s ∧ RunsApart s ∧ SearchSpaced s

/-- The law of the delivery lists with what carries it (R97, R104). -/
def DeliveryListsLawful (s : State) : Prop :=
  HeldAtReset s ∧ SettingsLawful s ∧ LaneStreamLawful s ∧ DeliveriesLawful s

/-! ## Samples in which nothing reaches its bound -/

/-- No burst, revision, search or rebuild is bound to complete before the next sample boundary (R59, R75,
R102, R109). -/
def NothingOverdue (s : State) : Prop :=
  (∀ b x, (s.stream b).burst = some x → x.start = s.now)
    ∧ (∀ b, ∀ v ∈ (s.stream b).revisions, v.start = s.now)
    ∧ (∀ sr, s.engine = some sr → (s.now - sr.startSample).toNat < 7)
    ∧ ∀ m, s.rebuild = some m → (s.now - m).toNat < 7

/-- Bay `b`'s transmit queue has room for `n` more frames (R158). -/
def State.hasRoom (s : State) (b : Bay) (n : Nat) : Prop :=
  (s.lane b).queue.length + n ≤ 32

/-! ## What a lane that leaves READY, a restart and BAY RESET do to the other blocks -/

/-- The state `s` with the parts that lane events, searches, bursts and revisions act on taken from
`t`. -/
def State.eventPart (s t : State) : State :=
  { s with
    lanes := t.lanes, seeks := t.seeks, exposure := t.exposure, queue := t.queue, engine := t.engine
    streams := t.streams, attention := t.attention }

/-- The load that bay `src`'s granted seeks place on bay `b` in slot `t` (R50). -/
def State.bayLoad (s : State) (src b : Bay) (t : Slot) : Nat :=
  ((s.liveSeeks src).map fun x => if x.2.state = .posted then 0 else s.loadOn src x.2 b t).sum

/-- The streams of `t` are those that a forecast change of source bay `src` over `a`..`z` leaves of
`s`'s, with the values of the revisions it started read as `t` stands (R38, R106, R109). -/
def ChangePublished (src : Bay) (a z : Sample) (s t : State) : Prop :=
  t.streams = (readRevisions (t.setStreams (forecastChange src a z s).streams)).streams

/-- `s` after the forecast changes of bay `b`'s granted seeks, all freed together: each over the samples
from the later of its launch and now to its last run or tail sample (R38, R39), one after another in the
order of their positions (assumption 21). -/
def State.bayPublished (s : State) (b : Bay) : State :=
  positions.foldl (fun u p =>
    match s.seekAt b p with
    | some r =>
      if r.state = .posted then u
      else forecastChange b (later r.launchAt s.now)
        (r.launchAt + BitVec.ofNat 32 (r.runEnd + r.tailLen) - 1) u
    | none => u) s

/-- Bay `b`'s live seeks are freed, its queue entries removed with the others in their order, a search on
one of them abandoned and any other kept, its exposure removed from slot current + 1 on unless a rebuild
runs, its stream OFF with nothing left in it, the forecast changes of its granted seeks taken by the
streams of the other bays, and then a search started where one can be (R38, R39, R53, R66, R78, R80, R112,
R113). The order of the forecast changes is assumption 21, the place of the search assumption 12. -/
structure BayReleased (b : Bay) (s t : State) : Prop where
  freed : ∀ p, t.seekAt b p = none
  others : ∀ c p, c ≠ b → t.seekAt c p = s.seekAt c p
  queue : (t.queue.map fun e => (e.bay, e.pos))
    = (s.queue.map fun e => (e.bay, e.pos)).filter fun x => x.1 ≠ b
  engineKept : ∀ sr, s.engine = some sr → sr.bay ≠ b → t.engine = some sr
  engineLeft : ∀ sr, t.engine = some sr → sr.bay ≠ b
  exposure : ∀ (c : Bay) (p : Fin 64), t.exposureAt c p =
    if s.rebuild.isSome ∨ p = positionOf s.slot then s.exposureAt c p
    else s.exposureAt c p - s.bayLoad b c (slotAt s.slot p)
  streamOff : (t.stream b).state = .off ∧ (t.stream b).delivery = [] ∧ (t.stream b).coverage = none
    ∧ (t.stream b).burst = none ∧ (t.stream b).revisions = []
  streams : ∀ c, c ≠ b →
    t.stream c = (readRevisions (t.setStreams (s.bayPublished b).streams)).stream c
  search : exec .searchStart ((t.setQueue (s.queue.filter fun e => e.bay ≠ b)).setEngine
    (s.engine.filter fun sr => sr.bay ≠ b)) = .next t

/-- Bay `b`'s READY lane goes to FAULT with LANE_FAULT pending for the bay, its queue emptied, and the bay
is released; its effective values stay, and nothing else changes (R153, R157, R158). -/
structure LaneFaulted (b : Bay) (s t : State) : Prop where
  frame : t = s.eventPart t
  lane : t.lane b = { s.lane b with state := .fault, bad := 0, queue := [], lastExpired := none }
  lanes : ∀ c, c ≠ b → t.lane c = s.lane c
  attention : t.attention = { s.attention with
    pending := s.attention.pending ||| 0x04#8
    sets := s.attention.sets.upd Cause.laneFault.bit
      (s.attention.sets.get Cause.laneFault.bit ||| BitVec.twoPow 16 b.val) }
  effective : (t.stream b).burstLen = (s.stream b).burstLen ∧ (t.stream b).lead = (s.stream b).lead
  released : BayReleased b s t

end Sys2Proof.Machine
end

