-- ==== Sys2Proof/Certificates/Slice0/Obligations.lean ====
section
/-! DEFINITION. What is claimed of the model, one proposition each; OBLIGATIONS.json says which rules each
rests on. A result statement concludes that the command answers a next state and says the whole of it, so
that it is its command's completion and its frame. -/

open Sys2Proof Sys2Proof.Machine

/-! ## The step -/

/-- With a command waiting, a step takes the front one and leaves the rest of the queue. With none
waiting, a step is one period of REFCLK, counted unless a reset is held: the model's choice (assumption
6). The divider expires after as many periods as the divisor in force (R44), and its expiry is
SAMPLE_BOUNDARY with the world's order of duties (assumption 3). -/
def Obligations.StepTakesFrontOrCountsAPeriod : Prop :=
  (∀ (c : Instr) (rest : List Instr) (s : State),
     s.pending = c :: rest → step s = exec c (s.setPending rest))
    ∧ (∀ s : State, s.pending = [] →
         (s.pins.resetHeld = true → step s = .next s)
         ∧ (s.pins.resetHeld = false → s.time.divider + 1 < s.time.divisor →
             step s = .next (s.setTime { s.time with divider := s.time.divider + 1 }))
         ∧ (s.pins.resetHeld = false → s.time.divisor ≤ s.time.divider + 1 →
             step s = exec (.sampleBoundary (Config.boundaryOrder s.now.toNat)) s))

/-- No command stops the part: one whose event cannot occur as the part stands, such as SLOT_START off a
slot start or REBUILD_COMPLETE without a rebuild, is taken and does nothing, the model's choice
(assumption 7). None touches the queue of those that wait, the model's own (assumption 1). -/
def Obligations.EveryCommandAnswersNext : Prop :=
  ∀ (c : Instr) (s : State), ∃ t, exec c s = .next t ∧ t.pending = s.pending

/-! ## Resets -/

/-- The values every block holds after power-on. The divider's 0 and the absent response are the model's
choices (assumption 9), the empty record of what a transmitter last sent is its own (assumption 8), and so
are a receiver that waits for two idle characters, CSn high and MISO high (assumption 23). -/
def Obligations.ResetLeavesEveryBlock : Prop :=
  State.reset.time = { divider := 0, divisor := 1000, pendingDivisor := none, sample := 0 }
    ∧ (∀ b p, State.reset.seekAt b p = none)
    ∧ (∀ (b : Bay) (i : Fin 72), (State.reset.history.get b).get i = 0)
    ∧ (∀ (b : Bay) (p : Fin 64), State.reset.exposureAt b p = 0)
    ∧ State.reset.rebuild = none ∧ State.reset.queue = [] ∧ State.reset.engine = none
    ∧ (∀ b, State.reset.stream b =
        { state := .off, burstLen := 4, lead := 8, delivery := [], coverage := none, burst := none
          revisions := [] })
    ∧ (∀ b, State.reset.setting b =
        { enable := false, burst := 8, lead := 32, gain := 128, limit := 4095, shift := 4, rate := .off
          deadband := 2, dither := .sequential })
    ∧ (∀ b src : Bay, (State.reset.store.active.get b).get src = ⟨0, 0⟩
        ∧ (State.reset.store.working.get b).get src = ⟨0, 0⟩
        ∧ (State.reset.store.snapshot.get b).get src = ⟨0, 0⟩)
    ∧ State.reset.store.frozen = false ∧ State.reset.store.written = false
    ∧ State.reset.store.epochCount = 0 ∧ State.reset.store.epochLength = .slots256
    ∧ State.reset.store.sequence = 0 ∧ State.reset.store.commitDue = false
    ∧ (∀ b src : Bay, State.reset.accAt b src = 0)
    ∧ State.reset.attention.pending = 0x00#8 ∧ State.reset.attention.mask = 0xFF#8
    ∧ State.reset.attention.route = 0x00#8 ∧ (∀ c : Cause, State.reset.attention.sets.get c.bit = 0)
    ∧ (∀ b, State.reset.lane b =
        { state := .absent, bad := 0, caps := none, queue := [], lastExpired := none, line := [] })
    ∧ (∀ b, State.reset.receivers.get b = .settling 0)
    ∧ State.reset.port =
        { select := .idle, shift := [], miso := true, response := none, resetArmed := false
          cause := .power }

/-- POWER_ON gives the state after reset and PIN_RESET the same but for the active and working tables and
the commit sequence, which it keeps; the presence lines and the waiting commands are not the part's, and a
select period in progress ends (R163). That a reset is held until its release is the model's choice
(assumption 1), the empty record of what a transmitter last sent its own (assumption 8), and the other
values the spec leaves out are its choice (assumptions 9 and 23). -/
def Obligations.ResetsLeaveResetValues : Prop :=
  ∀ s : State,
    let ended : SelectPhase := if s.port.select = .idle then .idle else .over
    exec .powerOn s = .next { State.reset with
      port := { State.reset.port with select := ended }
      pins := { present := s.pins.present, resetHeld := true }
      pending := s.pending }
    ∧ exec .pinReset s = .next { State.reset with
      store := { State.reset.store with
        active := s.store.active, working := s.store.working, sequence := s.store.sequence }
      port := { State.reset.port with select := ended, cause := .pin }
      pins := { present := s.pins.present, resetHeld := true }
      pending := s.pending }

/-- The release of a reset begins sample 0 as a sample boundary and slot start, whatever the order of its
duties: the epoch counter goes to 1, every occupied bay's lane is DETECTED with ARRIVE pending, and
nothing else changes. That a reset is held until its release is the model's choice (assumption 1). -/
def Obligations.ReleaseBeginsSampleZero : Prop :=
  ∀ (s : State) (order : List Duty), HeldAtReset s → s.pins.resetHeld = true →
    ∃ t, exec (.resetRelease order) s = .next t
      ∧ t = (((s.setStore { s.store with epochCount := 1 }).setLanes t.lanes).setAttention
          t.attention).setPins { s.pins with resetHeld := false }
      ∧ t.now = 0
      ∧ (∀ b, t.lane b = { Lane.reset with
          state := if s.pins.present.get b then .detected else .absent })
      ∧ t.attention.mask = 0xFF#8 ∧ t.attention.route = 0x00#8
      ∧ t.attention.pending = (if bays.any s.pins.present.get then 0x01#8 else 0x00#8)
      ∧ (∀ b : Bay, (t.attention.sets.get Cause.arrive.bit).getLsbD b.val = s.pins.present.get b)
      ∧ ∀ c : Cause, c ≠ .arrive → t.attention.sets.get c.bit = 0

/-- At the rise of CSn after a HUB RESET request the part is reset as by a pin reset, with cause COMMAND,
the select period over, and released at once: sample 0 has begun and its slot start is counted, the active
and working tables and the sequence are kept, every occupied bay's lane is DETECTED with ARRIVE pending,
and every other block is at its reset values. At any other rise the command does nothing (assumption 7).
That the release follows at once, and not as a command of its own, is the model's choice (assumption 1).
-/
def Obligations.HubResetIsPinResetByCommand : Prop :=
  ∀ s : State,
    (s.port.resetArmed = true → ∀ (order : List Duty) (t : State), exec .pinReset s = .next t →
      exec .hubResetAtCsnRise s = exec (.resetRelease order)
        { t with port := { State.reset.port with cause := .command } })
    ∧ (s.port.resetArmed = true → ∃ t, exec .hubResetAtCsnRise s = .next t
      ∧ t = { State.reset with
          lanes := t.lanes
          attention := t.attention
          store := { State.reset.store with
            active := s.store.active, working := s.store.working, sequence := s.store.sequence
            epochCount := 1 }
          port := { State.reset.port with cause := .command }
          pins := { present := s.pins.present, resetHeld := false }
          pending := s.pending }
      ∧ (∀ b, t.lane b = { Lane.reset with
          state := if s.pins.present.get b then .detected else .absent })
      ∧ t.attention.mask = 0xFF#8 ∧ t.attention.route = 0x00#8
      ∧ t.attention.pending = (if bays.any s.pins.present.get then 0x01#8 else 0x00#8)
      ∧ (∀ b : Bay, (t.attention.sets.get Cause.arrive.bit).getLsbD b.val = s.pins.present.get b)
      ∧ ∀ c : Cause, c ≠ .arrive → t.attention.sets.get c.bit = 0)
    ∧ (s.port.resetArmed = false → exec .hubResetAtCsnRise s = .next s)

/-! ## The time base -/

/-- A sample boundary adds 1 to the sample counter modulo 2^32, restarts the divider and brings a pending
divisor into force; it leaves settings, accumulators, the port, the pins and all of the store but the
active table, the epoch counter, the sequence and commit due as they were. A divisor that comes into force
is told to every READY lane in one WELCOME, and to no other; without one no WELCOME is sent. SLOT_START
and EPOCH_END are the sample boundary that begins a slot or ends an epoch, one event with it, and are not
taken otherwise: the model's choice (assumption 4). -/
def Obligations.BoundaryAdvancesTheSample : Prop :=
  (∀ (s : State) (order : List Duty), s.pins.resetHeld = false →
     ∃ t, exec (.sampleBoundary order) s = .next t
       ∧ t.time = { divider := 0, divisor := s.time.pendingDivisor.getD s.time.divisor
                    pendingDivisor := none, sample := s.time.sample + 1 }
       ∧ t.settings = s.settings ∧ t.acc = s.acc ∧ t.port = s.port ∧ t.pins = s.pins
       ∧ t.store = { s.store with
           active := t.store.active, epochCount := t.store.epochCount
           sequence := t.store.sequence, commitDue := t.store.commitDue })
    ∧ (∀ (s : State) (order : List Duty), s.pins.resetHeld = false → NothingOverdue s →
         ∃ t, exec (.sampleBoundary order) s = .next t ∧ ∀ b : Bay,
           (∀ d, s.time.pendingDivisor = some d →
             let welcome := Frame.welcome b d (s.now + 1) (s.stream b).burstLen (s.stream b).lead
             ((s.lane b).state = .ready → s.hasRoom b 6 →
               (t.lane b).queue.count welcome = (s.lane b).queue.count welcome + 1)
             ∧ ((s.lane b).state ≠ .ready →
               (t.lane b).queue.count welcome = (s.lane b).queue.count welcome))
           ∧ (s.time.pendingDivisor = none → (s.lane b).state ≠ .ready ∨ s.hasRoom b 6 →
             ∀ c d m n lead, (t.lane b).queue.count (.welcome c d m n lead)
               = (s.lane b).queue.count (.welcome c d m n lead)))
    ∧ (∀ (s : State) (order : List Duty),
         (s.slotStartNext = true → exec (.slotStart order) s = exec (.sampleBoundary order) s)
         ∧ (s.slotStartNext = false → exec (.slotStart order) s = .next s)
         ∧ (s.epochEndNext = true → exec (.epochEnd order) s = exec (.sampleBoundary order) s)
         ∧ (s.epochEndNext = false → exec (.epochEnd order) s = .next s))

/-- At every sample boundary each bay's history drops its oldest value and gains the bay's torque for the
sample now beginning, in which a GRANTED seek whose launch slot begins counts as expired. -/
def Obligations.HistoryGainsTheNewSample : Prop :=
  ∀ (s : State) (order : List Duty), s.pins.resetHeld = false → NothingOverdue s →
    ∃ t, exec (.sampleBoundary order) s = .next t ∧ ∀ b : Bay,
      (∀ i : Fin 71, (t.history.get b).get i.succ = (s.history.get b).get i.castSucc)
      ∧ (t.history.get b).get 0 = max (-127) (min 127 ((s.liveSeeks b).map fun x =>
          if x.2.state = .granted ∧ (s.now + 1).toNat % 8 = 0
              ∧ x.2.launch = some (slotOf (s.now + 1)) then 0
          else x.2.torqueAt (s.now + 1)).sum)

/-- A sample boundary within a slot that brings no new divisor: what it does to every record and every
stream, and nothing else but the histories, the clock and STREAM_STOPPED. Runs and tails end at their last
index; a delivery record leaves after its last sample; a stream STARTING or RUNNING starts the burst of a
burst boundary, and one that has drained is OFF, with nothing left in computation (deduced, assumption 18)
and STREAM_STOPPED pending for its bay. Masks, routes and every other cause stay as they were, and so does
STREAM_STOPPED where no stream has drained. -/
def Obligations.MidSlotBoundary : Prop :=
  ∀ (s : State) (order : List Duty), s.pins.resetHeld = false → NothingOverdue s → RevisionsRead s →
    s.slotStartNext = false → s.time.pendingDivisor = none →
    ∃ t, exec (.sampleBoundary order) s = .next t
      ∧ t = ((((s.setTime t.time).setHistory t.history).setSeeks t.seeks).setStreams
          t.streams).setAttention t.attention
      ∧ t.now = s.now + 1
      ∧ (∀ b p, t.seekAt b p =
          match s.seekAt b p with
          | none => none
          | some r =>
            if r.state = .running ∧ t.now = r.launchAt + BitVec.ofNat 32 r.runEnd then
              if r.tailLen = 0 then none else some { r with state := .tail }
            else if r.state = .tail ∧ t.now = r.launchAt + BitVec.ofNat 32 (r.runEnd + r.tailLen) then
              none
            else some r)
      ∧ (t.attention.mask = s.attention.mask ∧ t.attention.route = s.attention.route)
      ∧ (∀ c : Cause, c ≠ .streamStopped →
          t.attention.pending.getLsbD c.bit.val = s.attention.pending.getLsbD c.bit.val
          ∧ t.attention.sets.get c.bit = s.attention.sets.get c.bit)
      ∧ (t.attention.pending.getLsbD 5 = true ↔ s.attention.pending.getLsbD 5 = true
          ∨ ∃ b, (s.stream b).state = .draining
            ∧ ∀ x ∈ (s.stream b).delivery, x.first + BitVec.ofNat 32 x.burst = t.now)
      ∧ ∀ b, let u := s.stream b
        let kept := u.delivery.filter fun x => x.first + BitVec.ofNat 32 x.burst ≠ t.now
        let stopped := Cause.streamStopped.bit
        t.stream b =
          (if (u.state = .starting ∨ u.state = .running) ∧ t.now.toNat % u.burstLen = 0 then
            { u with
              state := .running
              delivery := kept
              burst := some
                { first := t.now + BitVec.ofNat 32 u.lead, pendingChange := false, start := t.now
                  values := t.predict b (t.now + BitVec.ofNat 32 u.lead) u.burstLen } }
          else if u.state = .draining ∧ kept = [] then
            { u with state := .off, delivery := [], burst := none, revisions := [] }
          else { u with delivery := kept })
        ∧ ((t.attention.sets.get stopped).getLsbD b.val = true ↔
            (s.attention.sets.get stopped).getLsbD b.val = true ∨ u.state = .draining ∧ kept = [])

/-- At the slot start of its launch slot, whatever the order of the slot start's duties, a COMMITTED seek
is RUNNING, its record otherwise unchanged, and a GRANTED seek expires: freed, EXPIRE handed to the lane,
its tag the last-expired tag, EXPIRY pending for the bay. Where it is the one seek that expires there and
the slot start ends no epoch, its load has left every other bay, and every stream that keeps on RUNNING or
DRAINING has taken the forecast change over its run and tail. SLOT_START is the whole boundary
(assumption 4). -/
def Obligations.LaunchSlotStartsOrExpiresTheSeek : Prop :=
  (∀ (s : State) (order : List Duty) (b : Bay) (p : Pos) (r : Seek),
     s.pins.resetHeld = false → NothingOverdue s → s.slotStartNext = true → s.hasRoom b 6 →
     s.seekAt b p = some r → r.state = .committed → r.launch = some (slotOf (s.now + 1)) →
     ∃ t, exec (.slotStart order) s = .next t
       ∧ t.seekAt b p = some { r with state := .running })
    ∧ (∀ (s : State) (order : List Duty) (b : Bay) (p : Pos) (r : Seek),
         s.pins.resetHeld = false → NothingOverdue s → s.slotStartNext = true → s.hasRoom b 6 →
         s.seekAt b p = some r → r.state = .granted → r.launch = some (slotOf (s.now + 1)) →
         (∀ q x, q ≠ p → s.seekAt b q = some x → x.launch ≠ some (slotOf (s.now + 1))) →
         ∃ t, exec (.slotStart order) s = .next t
           ∧ t.seekAt b p = none
           ∧ Frame.expire r.tag (s.now + 1) ∈ (t.lane b).queue
           ∧ (t.lane b).lastExpired = some r.tag
           ∧ t.attention.pending.getLsbD 4 = true
           ∧ (t.attention.sets.get Cause.expiry.bit).getLsbD b.val = true)
    ∧ (∀ (s : State) (order : List Duty) (b : Bay) (p : Pos) (r : Seek),
         s.pins.resetHeld = false → NothingOverdue s → RevisionsRead s → s.slotStartNext = true →
         s.epochEndNext = false → (∀ c, s.hasRoom c 6) →
         s.seekAt b p = some r → r.state = .granted → r.launch = some (slotOf (s.now + 1)) →
         (∀ c q x, (c, q) ≠ (b, p) → s.seekAt c q = some x → x.state = .granted →
           x.launch ≠ some (slotOf (s.now + 1))) →
         ∃ t, exec (.slotStart order) s = .next t
           ∧ (s.rebuild = none → ∀ (c : Bay) (i : Fin 64), t.exposureAt c i =
               if i = positionOf t.slot then s.exposureAt c i
               else if i = positionOf (t.slot + 63) then 0
               else s.exposureAt c i - s.loadOn b r c (slotAt t.slot i))
           ∧ (let u := (s.setTime t.time).setStreams (Tab.gen 16 fun c => { s.stream c with
                delivery := (s.stream c).delivery.filter fun x =>
                  x.first + BitVec.ofNat 32 x.burst ≠ t.now })
              let v := readRevisions (t.setStreams (forecastChange b t.now
                (t.now + BitVec.ofNat 32 (r.runEnd + r.tailLen) - 1) u).streams)
              ∀ c, (u.stream c).state = .running
                ∨ (u.stream c).state = .draining ∧ (u.stream c).delivery ≠ [] →
                (t.stream c).delivery = (v.stream c).delivery
                ∧ (t.stream c).revisions = (v.stream c).revisions))

/-- A slot start hands one MARK with the slot's first sample to every READY lane and none to another, and,
with no rebuild in progress, leaves 0 at the position that stands for slot current + 63. It clears every
hold flag, and then a search is started as SEARCH_START starts one: said of a slot start that ends no
epoch and expires no seek, so that the search reads what the slot start leaves. SLOT_START is the whole
boundary (assumption 4). -/
def Obligations.SlotStartMarksAndRecycles : Prop :=
  ∀ (s : State) (order : List Duty), s.pins.resetHeld = false → s.slotStartNext = true →
    ∃ t, exec (.slotStart order) s = .next t
      ∧ (NothingOverdue s → ∀ b, (s.lane b).state = .ready → s.hasRoom b 6 →
          (t.lane b).queue.count (.mark (s.now + 1))
            = (s.lane b).queue.count (.mark (s.now + 1)) + 1)
      ∧ (NothingOverdue s → ∀ b, (s.lane b).state ≠ .ready →
          (t.lane b).queue.count (.mark (s.now + 1))
            = (s.lane b).queue.count (.mark (s.now + 1)))
      ∧ (s.rebuild = none → ∀ b : Bay, t.exposureAt b (positionOf (slotOf (s.now + 1) + 63)) = 0)
      ∧ (NothingOverdue s → s.epochEndNext = false → (∀ c, s.hasRoom c 6) →
          (∀ c q x, s.seekAt c q = some x → x.state = .granted →
            x.launch ≠ some (slotOf (s.now + 1))) →
          exec .searchStart ((t.setQueue (s.queue.map fun e => { e with held := false })).setEngine
            s.engine) = .next t)

/-- The epoch counter counts slot starts, a rebuild in progress or not. At the epoch's length it returns
to 0 and, with no rebuild in progress, a working table that differs becomes the active table, counted in
the sequence, with a rebuild started; behind a rebuild the commit is due. SLOT_START and EPOCH_END are the
whole boundary (assumption 4). -/
def Obligations.EpochEndCommitsOrDefers : Prop :=
  ∀ (s : State) (order : List Duty), s.pins.resetHeld = false →
    (s.slotStartNext = true → s.epochEndNext = false → s.rebuild = none →
      ∃ t, exec (.slotStart order) s = .next t
        ∧ t.store = { s.store with epochCount := s.store.epochCount + 1 } ∧ t.rebuild = none)
    ∧ (∀ m, s.slotStartNext = true → s.epochEndNext = false → s.rebuild = some m →
      (s.now - m).toNat < 7 →
      ∃ t, exec (.slotStart order) s = .next t
        ∧ t.store = { s.store with epochCount := s.store.epochCount + 1 } ∧ t.rebuild = some m)
    ∧ (s.epochEndNext = true → s.rebuild = none → s.store.working ≠ s.store.active →
      ∃ t, exec (.epochEnd order) s = .next t
        ∧ t.store = { s.store with
            epochCount := 0, active := s.store.working, sequence := s.store.sequence + 1 }
        ∧ t.rebuild = some (s.now + 1))
    ∧ (s.epochEndNext = true → s.rebuild = none → s.store.working = s.store.active →
      ∃ t, exec (.epochEnd order) s = .next t
        ∧ t.store = { s.store with epochCount := 0 } ∧ t.rebuild = none)
    ∧ (∀ m, s.epochEndNext = true → s.rebuild = some m → (s.now - m).toNat < 7 →
      ∃ t, exec (.epochEnd order) s = .next t
        ∧ t.store = { s.store with epochCount := 0, commitDue := true } ∧ t.rebuild = some m)

/-- The completion of a rebuild writes every entry with the calendar's load under the active coefficients,
raises REBUILT, takes a due commit, which starts a new rebuild where the working table differs, and starts
a search as SEARCH_START does. Where there is a new rebuild the Arbiter may take either first: the search
as though there were none yet, on the old active coefficients, or the rebuild, and then no search. Without
a rebuild in progress the command does nothing (assumption 7). -/
def Obligations.RebuildWritesTheCalendar : Prop :=
  ∀ (s : State) (searchFirst : Bool),
    (s.rebuild = none → exec (.rebuildComplete searchFirst) s = .next s)
    ∧ (∀ m, s.rebuild = some m →
      ∃ t, exec (.rebuildComplete searchFirst) s = .next t
        ∧ (∀ (b : Bay) (p : Fin 64), t.exposureAt b p = s.calendarLoad b (slotAt s.slot p))
        ∧ t.attention = { s.attention with pending := s.attention.pending ||| 0x40#8 }
        ∧ (if s.store.commitDue = true ∧ s.store.working ≠ s.store.active then
            t.store = { s.store with
              active := s.store.working, sequence := s.store.sequence + 1, commitDue := false }
            ∧ t.rebuild = some s.now
            ∧ (searchFirst = false → t.queue = s.queue ∧ t.engine = s.engine)
            ∧ (searchFirst = true → ∃ v, exec .searchStart
                ((((t.setQueue s.queue).setEngine s.engine).setStore s.store).setRebuild none) = .next v
                ∧ t = (v.setStore t.store).setRebuild t.rebuild)
          else t.store = { s.store with commitDue := false } ∧ t.rebuild = none
            ∧ exec .searchStart ((t.setQueue s.queue).setEngine s.engine) = .next t)
        ∧ t = (((((s.setExposure t.exposure).setAttention t.attention).setStore t.store).setRebuild
            t.rebuild).setQueue t.queue).setEngine t.engine)

/-! ## Admission -/

/-- An IDLE engine, with no rebuild in progress, takes the oldest unheld entry that leaves a candidate;
every entry before it ends held; where none leaves one, all end held. Otherwise nothing happens
(assumption 7). -/
def Obligations.SearchStartTakesOldestUnheld : Prop :=
  ∀ s : State,
    (s.engine ≠ none ∨ s.rebuild ≠ none → exec .searchStart s = .next s)
    ∧ (s.engine = none → s.rebuild = none →
      ∃ t, exec .searchStart s = .next t
        ∧ t = (s.setQueue t.queue).setEngine t.engine
        ∧ ((t.engine = none
            ∧ t.queue = s.queue.map (fun e => { e with held := true })
            ∧ ∀ e ∈ s.queue, e.held = true ∨ ∀ r, s.seekAt e.bay e.pos = some r →
                (prepareSearch s e.bay e.pos r).candidates = [])
          ∨ ∃ before e after r,
              s.queue = before ++ e :: after ∧ e.held = false
              ∧ s.seekAt e.bay e.pos = some r
              ∧ (prepareSearch s e.bay e.pos r).candidates ≠ []
              ∧ t.engine = some (prepareSearch s e.bay e.pos r)
              ∧ t.queue = before.map (fun x => { x with held := true }) ++ e :: after
              ∧ ∀ x ∈ before, x.held = true ∨ ∀ y, s.seekAt x.bay x.pos = some y →
                  (prepareSearch s x.bay x.pos y).candidates = []))

/-- What a search reads at its start: its seek's span, magnitudes and window, the current slot, and of
every other bay that the seek couples to, once each, the coefficient, the limit and the exposure row. Its
candidates: the slots of the window from the working earliest on, or that one slot where the window is
exhausted, bounded by the horizon. The working earliest is the latest of the record's earliest, start slot
+ 2 and the profile end of every other granted seek of the bay. Windows and launches are near the start
slot, where the modular comparison is an order. -/
def Obligations.CandidatesKeepTheBounds : Prop :=
  (∀ (s : State) (b : Bay) (p : Pos) (r : Seek),
     let sr := prepareSearch s b p r
     sr.bay = b ∧ sr.pos = p ∧ sr.startSample = s.now ∧ sr.startSlot = s.slot
     ∧ sr.span = r.span ∧ sr.mags = r.mags ∧ sr.earliest = r.earliest ∧ sr.latest = r.latest
     ∧ (sr.tested.map Tested.bay).Nodup
     ∧ ∀ x : Tested, x ∈ sr.tested ↔ x.bay ≠ b ∧ (s.coeff x.bay b).c ≠ 0
         ∧ x.c = (s.coeff x.bay b).c ∧ x.limit = (s.setting x.bay).limit
         ∧ x.row = s.exposure.get x.bay)
    ∧ ∀ (s : State) (b : Bay) (p : Pos) (r : Seek),
    (∀ x ∈ [r.earliest, r.latest], -(2 ^ 26) ≤ (x - s.slot).toInt ∧ (x - s.slot).toInt ≤ 2 ^ 26) →
    r.span ≤ 56 →
    (∀ q x l, q ≠ p → s.seekAt b q = some x → x.state ≠ .posted → x.launch = some l →
      -(2 ^ 26) ≤ (l - s.slot).toInt ∧ (l - s.slot).toInt ≤ 2 ^ 26 ∧ x.runEnd ≤ 320) →
    ∃ e : Slot,
      2 ≤ (e - s.slot).toInt ∧ 0 ≤ (e - r.earliest).toInt
      ∧ (∀ q x l, q ≠ p → s.seekAt b q = some x → x.state ≠ .posted → x.launch = some l →
          0 ≤ (e - (l + BitVec.ofNat 29 ((x.runEnd + 7) / 8))).toInt)
      ∧ (e = s.slot + 2 ∨ e = r.earliest ∨ ∃ q x l, q ≠ p ∧ s.seekAt b q = some x
          ∧ x.state ≠ .posted ∧ x.launch = some l
          ∧ e = l + BitVec.ofNat 29 ((x.runEnd + 7) / 8))
      ∧ ∀ c : Slot, c ∈ (prepareSearch s b p r).candidates ↔
          2 ≤ (c - s.slot).toInt ∧ (c - s.slot).toInt + r.span ≤ 64
          ∧ 0 ≤ (c - e).toInt ∧ ((c - r.latest).toInt ≤ 0 ∨ c = e)

/-- A candidate fits when every tested sum is at or below its bay's limit. The first that fits is chosen;
where none does, the earliest of those with the smallest worst excess, with OVER. -/
def Obligations.ChosenSlotFitsOrHarmsLeast : Prop :=
  ∀ sr : Search,
    (∀ c, fits sr c = true ↔ ∀ x ∈ sr.tested, ∀ j, j < sr.span →
      ∃ k, x.c.natAbs * sr.mags.getD j 0 ≤ 64 * k ∧ 64 * k < x.c.natAbs * sr.mags.getD j 0 + 64
        ∧ x.row.get (positionOf (c + BitVec.ofNat 29 j)) + k ≤ x.limit)
    ∧ (∀ c, ∀ x ∈ sr.tested, ∀ j, j < sr.span →
        ((x.row.get (positionOf (c + BitVec.ofNat 29 j)) : Nat) : Int)
          + contribution x.c (sr.mags.getD j 0) - x.limit ≤ worstExcess sr c)
    ∧ (∀ c, worstExcess sr c = 0 ∨ ∃ x ∈ sr.tested, ∃ j, j < sr.span ∧
        ((x.row.get (positionOf (c + BitVec.ofNat 29 j)) : Nat) : Int)
          + contribution x.c (sr.mags.getD j 0) - x.limit = worstExcess sr c)
    ∧ (sr.candidates = [] → chooseSlot sr = none)
    ∧ (∀ before c after, sr.candidates = before ++ c :: after →
        (∀ x ∈ before, fits sr x = false) → fits sr c = true → chooseSlot sr = some (c, false))
    ∧ ∀ before c after, sr.candidates = before ++ c :: after →
        (∀ x ∈ sr.candidates, fits sr x = false) →
        (∀ x ∈ before, worstExcess sr c < worstExcess sr x) →
        (∀ x ∈ after, worstExcess sr c ≤ worstExcess sr x) → chooseSlot sr = some (c, true)

/-- A search that completes with a slot at or after current + 2 is a grant: the record has its launch slot
and markers, its entry has left the queue, its load is added to every other bay unless a rebuild runs, the
streams take its forecast change over its run and tail, GRANT is handed to the lane, FORCED_GRANT is
raised exactly for OVER or DELAYED, and the next search is started after all of it (assumption 12). -/
def Obligations.CompletedSearchGrants : Prop :=
  ∀ (s : State) (sr : Search) (r : Seek) (c : Slot) (o : Bool),
    s.engine = some sr → s.seekAt sr.bay sr.pos = some r → chooseSlot sr = some (c, o) →
    atOrBefore (s.slot + 2) c = true → s.hasRoom sr.bay 1 →
    let late := earlier r.latest c
    let g : Seek := { r with
      state := if r.auto then .committed else .granted
      launch := some c
      markers := some ⟨o, late⟩ }
    ∃ t, exec .searchComplete s = .next t
      ∧ t = ((((((s.setLanes t.lanes).setSeeks t.seeks).setExposure t.exposure).setQueue
          t.queue).setEngine t.engine).setStreams t.streams).setAttention t.attention
      ∧ t.seekAt sr.bay sr.pos = some g
      ∧ (∀ b p, (b, p) ≠ (sr.bay, sr.pos) → t.seekAt b p = s.seekAt b p)
      ∧ t.lane sr.bay = { s.lane sr.bay with
          queue := (s.lane sr.bay).queue ++ [.grant r.tag (launchSample c) r.span o late r.auto] }
      ∧ (∀ b, b ≠ sr.bay → t.lane b = s.lane b)
      ∧ t.queue.map (fun e => (e.bay, e.pos))
          = (s.queue.map fun e => (e.bay, e.pos)).filter (· ≠ (sr.bay, sr.pos))
      ∧ (∀ (b : Bay) (p : Fin 64), t.exposureAt b p =
          if s.rebuild.isSome then s.exposureAt b p
          else s.exposureAt b p + s.loadOn sr.bay g b (slotAt s.slot p))
      ∧ exec .searchStart ((t.setQueue (s.queue.filter fun e =>
          (e.bay, e.pos) ≠ (sr.bay, sr.pos))).setEngine none) = .next t
      ∧ ChangePublished sr.bay (launchSample c)
          (launchSample c + BitVec.ofNat 32 (r.runEnd + r.tailLen) - 1) s t
      ∧ t.attention = if o || late then
          { s.attention with
            pending := s.attention.pending ||| 0x08#8
            sets := s.attention.sets.upd Cause.forcedGrant.bit
              (s.attention.sets.get Cause.forcedGrant.bit ||| BitVec.twoPow 16 sr.bay.val) }
        else s.attention

/-- A search overtaken by a slot start grants nothing: it is prepared anew on the same seek from the
current slot, or ends in a hold where no candidate is left, or waits with the engine IDLE while a rebuild
runs. Without a search nothing happens (assumption 7). -/
def Obligations.OvertakenSearchIsRerun : Prop :=
  ∀ s : State,
    (s.engine = none → exec .searchComplete s = .next s)
    ∧ ∀ sr r c o, s.engine = some sr → s.seekAt sr.bay sr.pos = some r →
      chooseSlot sr = some (c, o) → atOrBefore (s.slot + 2) c = false →
      (s.rebuild ≠ none → exec .searchComplete s = .next (s.setEngine none))
      ∧ (s.rebuild = none → (prepareSearch s sr.bay sr.pos r).candidates ≠ [] →
          exec .searchComplete s = .next (s.setEngine (some (prepareSearch s sr.bay sr.pos r))))
      ∧ (s.rebuild = none → (prepareSearch s sr.bay sr.pos r).candidates = [] →
          exec .searchComplete s = exec .searchStart
            ((s.setQueue (s.queue.map fun e =>
              if e.bay = sr.bay ∧ e.pos = sr.pos then { e with held := true } else e)).setEngine none))

/-! ## Correction streams -/

/-- A completed burst is delivered: CORRECT handed to the lane, a record appended, coverage advanced, and,
where a change is pending and the record can still be revised, its revision started. Without a burst in
computation nothing happens (assumption 7). -/
def Obligations.CompletedBurstIsDelivered : Prop :=
  ∀ (s : State) (b : Bay),
    ((s.stream b).burst = none → exec (.burstComplete b) s = .next s)
    ∧ ∀ x, (s.stream b).burst = some x → s.hasRoom b 1 → RevisionsRead s →
      let u := s.stream b
      let again := x.pendingChange && (u.burstLen == 8) && atOrBefore (s.now + 2) (x.first + 4)
      exec (.burstComplete b) s = .next
        ((s.putLane b { s.lane b with
            queue := (s.lane b).queue ++ [.correct x.first x.values] }).putStream b
          { u with
            delivery := u.delivery ++ [{ first := x.first, burst := u.burstLen, revised := again }]
            coverage := some
              { first := match u.coverage with
                  | some c => c.first
                  | none => x.first
                last := x.first + BitVec.ofNat 32 u.burstLen - 1 }
            burst := none
            revisions := if again then
                u.revisions ++ [{ record := x.first, start := s.now
                                  values := s.predict b (x.first + 4) 4 }]
              else u.revisions })

/-- A completed revision is sent: REVISE with the values read at its start, for the second half of the
record's samples. Without a revision of the record nothing happens (assumption 7). -/
def Obligations.CompletedRevisionIsSent : Prop :=
  ∀ (s : State) (b : Bay) (m : Sample),
    ((∀ v ∈ (s.stream b).revisions, v.record ≠ m) → exec (.revisionComplete b m) s = .next s)
    ∧ ∀ before v after, (s.stream b).revisions = before ++ v :: after → v.record = m →
      (∀ x ∈ before, x.record ≠ m) → s.hasRoom b 1 → RevisionsRead s →
      exec (.revisionComplete b m) s = .next
        ((s.putLane b { s.lane b with
            queue := (s.lane b).queue ++ [.revise (m + 4) v.values] }).putStream b
          { s.stream b with revisions := (s.stream b).revisions.filter fun x => x.record ≠ m })

/-- A DRAINING stream whose delivery list is empty is OFF with STREAM_STOPPED pending for the bay, its
coverage kept and nothing left in computation (deduced, assumption 18); on any other stream the command
does nothing (assumption 7). -/
def Obligations.DrainedStreamStops : Prop :=
  ∀ (s : State) (b : Bay),
    ((s.stream b).state = .draining → (s.stream b).delivery = [] →
      exec (.drainComplete b) s = .next
        ((s.putStream b { s.stream b with state := .off, burst := none, revisions := [] }).setAttention
          { s.attention with
            pending := s.attention.pending ||| 0x20#8
            sets := s.attention.sets.upd Cause.streamStopped.bit
              (s.attention.sets.get Cause.streamStopped.bit ||| BitVec.twoPow 16 b.val) }))
    ∧ (((s.stream b).state ≠ .draining ∨ (s.stream b).delivery ≠ []) →
      exec (.drainComplete b) s = .next s)

/-- A forecast change of source `src` over `a`..`z` reaches the RUNNING and DRAINING streams of the other
bays that couple to it, its range shifted by the pair's delay. Each delivery record of 8 samples that
shares a sample with the range, is not revised yet and leaves two samples of margin is revised, once; a
burst of 8 in computation that shares one is marked. No other stream changes. A new revision's values are
empty until the event's last step reads them: the model's intermediate form (assumption 15). -/
def Obligations.ForecastChangeRevises : Prop :=
  ∀ (src b : Bay) (a z : Sample) (s : State), (z - a).toNat < 2 ^ 16 →
    let u := s.stream b
    let t := (forecastChange src a z s).stream b
    let e := s.coeff b src
    let shares := fun (first : Sample) (n : Nat) =>
      ∃ k j : Nat, k ≤ (z - a).toNat ∧ j < n
        ∧ a + BitVec.ofNat 32 e.d + BitVec.ofNat 32 k = first + BitVec.ofNat 32 j
    let revises := fun (x : Delivery) =>
      shares x.first x.burst ∧ x.burst = 8 ∧ x.revised = false
        ∧ atOrBefore (s.now + 2) (x.first + 4) = true
    (b = src ∨ u.state = .off ∨ u.state = .starting ∨ e.c = 0 → t = u)
    ∧ (b ≠ src → u.state = .running ∨ u.state = .draining → e.c ≠ 0 →
        t = { u with delivery := t.delivery, burst := t.burst, revisions := t.revisions }
        ∧ t.delivery.length = u.delivery.length
        ∧ (∀ (i : Nat) (x y : Delivery), u.delivery[i]? = some x → t.delivery[i]? = some y →
            (revises x → y = { x with revised := true }) ∧ (¬ revises x → y = x))
        ∧ (∀ v, v ∈ t.revisions ↔ v ∈ u.revisions
            ∨ ∃ x ∈ u.delivery, revises x ∧ v = { record := x.first, start := s.now, values := [] })
        ∧ (u.burst = none → t.burst = none)
        ∧ ∀ x, u.burst = some x →
            (u.burstLen = 8 ∧ shares x.first 8 → t.burst = some { x with pendingChange := true })
            ∧ (¬ (u.burstLen = 8 ∧ shares x.first 8) → t.burst = some x))

/-- SETTING WRITE with stream enable on: BUSY for a change of shape on a stream not OFF, on a DRAINING
stream, or on an OFF stream whose lane is not READY; else the record is replaced by the values as taken,
the effective values recomputed, row b of the accumulators cleared for a change of rate, and an OFF stream
STARTING. -/
def Obligations.EnableStartsStream : Prop :=
  ∀ (s : State) (b : Bay) (w : SettingFields), s.portTakes = true →
    let x : Setting :=
      { enable := true
        burst := if w.burst = 8 then 8 else 4
        lead := max 8 (min 64 w.lead.toNat)
        gain := w.gain.toNat
        limit := min 4095 w.limit.toNat
        shift := max 1 (min 7 w.shift.toNat)
        rate := if w.rate = 1 then .slow else if w.rate = 2 then .medium
          else if w.rate = 3 then .fast else .off
        deadband := min 15 w.deadband.toNat
        dither := if w.dither.getLsbD 0 then .interleaved else .sequential }
    let old := s.setting b
    let u := s.stream b
    let answered := fun (v : State) (status : Byte) (y : Setting) =>
      v.setPort (v.port.answer 0xA1#8 (status :: BitVec.ofNat 8 b.val :: y.bytes))
    let written := ((s.setSettings (s.settings.upd b x)).setAcc
        (if x.rate = old.rate then s.acc else s.acc.upd b (Tab.fill 16 0)))
    let shaped : Stream := { u with
      burstLen := if x.burst = 8 ∧ ((s.lane b).caps.map Caps.maxBurst).getD 4 = 8 then 8 else 4
      lead := min x.lead (((s.lane b).caps.map Caps.maxLead).getD 8) }
    (u.state ≠ .off → x.burst ≠ old.burst ∨ x.lead ≠ old.lead →
      exec (.streamEnable b w) s = .next (answered s 0x01#8 old))
    ∧ (u.state = .draining → exec (.streamEnable b w) s = .next (answered s 0x01#8 old))
    ∧ (u.state = .off → (s.lane b).state ≠ .ready →
      exec (.streamEnable b w) s = .next (answered s 0x01#8 old))
    ∧ (u.state = .off → (s.lane b).state = .ready →
      exec (.streamEnable b w) s = .next (answered (written.putStream b
        { shaped with state := .starting, coverage := none, delivery := [] }) 0x00#8 x))
    ∧ (u.state = .starting ∨ u.state = .running → x.burst = old.burst → x.lead = old.lead →
      exec (.streamEnable b w) s = .next (answered (written.putStream b shaped) 0x00#8 x))

/-- SETTING WRITE with stream enable off: BUSY for a change of shape on a stream not OFF; else the record
is replaced and a STARTING stream goes OFF with HALT NONE, a RUNNING one goes DRAINING with HALT carrying
its last covered sample, its burst in computation discarded, and, with nothing left to drain, OFF with
STREAM_STOPPED and nothing left in computation (deduced, assumption 18). -/
def Obligations.DisableStopsStream : Prop :=
  ∀ (s : State) (b : Bay) (w : SettingFields), s.portTakes = true → RevisionsRead s →
    let x : Setting := { takeSetting true w with enable := false }
    let old := s.setting b
    let u := s.stream b
    let answered := fun (v : State) (status : Byte) (y : Setting) =>
      v.setPort (v.port.answer 0xA1#8 (status :: BitVec.ofNat 8 b.val :: y.bytes))
    let written := ((s.setSettings (s.settings.upd b x)).setAcc
        (if x.rate = old.rate then s.acc else s.acc.upd b (Tab.fill 16 0)))
    let shaped : Stream := { u with
      burstLen := if x.burst = 8 ∧ ((s.lane b).caps.map Caps.maxBurst).getD 4 = 8 then 8 else 4
      lead := min x.lead (((s.lane b).caps.map Caps.maxLead).getD 8) }
    let halted := fun (f : Frame) =>
      written.putLane b { s.lane b with queue := (s.lane b).queue ++ [f] }
    let sameShape := x.burst = old.burst ∧ x.lead = old.lead
    (u.state ≠ .off → ¬ sameShape →
      exec (.streamDisable b w) s = .next (answered s 0x01#8 old))
    ∧ (u.state = .off → exec (.streamDisable b w) s
        = .next (answered (written.putStream b shaped) 0x00#8 x))
    ∧ (u.state = .draining → sameShape → exec (.streamDisable b w) s
        = .next (answered (written.putStream b shaped) 0x00#8 x))
    ∧ (u.state = .starting → sameShape → s.hasRoom b 1 → exec (.streamDisable b w) s
        = .next (answered ((halted (.halt none)).putStream b { shaped with state := .off }) 0x00#8 x))
    ∧ (u.state = .running → sameShape → s.hasRoom b 1 → u.delivery ≠ [] →
        exec (.streamDisable b w) s
          = .next (answered ((halted (.halt (u.coverage.map Coverage.last))).putStream b
              { shaped with state := .draining, burst := none }) 0x00#8 x))
    ∧ (u.state = .running → sameShape → s.hasRoom b 1 → u.delivery = [] →
        exec (.streamDisable b w) s
          = .next (answered (((halted (.halt (u.coverage.map Coverage.last))).putStream b
              { shaped with state := .off, burst := none, revisions := [] }).setAttention
              { s.attention with
                pending := s.attention.pending ||| 0x20#8
                sets := s.attention.sets.upd Cause.streamStopped.bit
                  (s.attention.sets.get Cause.streamStopped.bit ||| BitVec.twoPow 16 b.val) })
              0x00#8 x))

/-! ## Bay lanes -/

/-- The transmitter puts the frame at the head of the queue on the line, whose record is the model's own
(assumption 8); with an empty queue it does nothing (assumption 7). The bytes of every frame the part
sends: its kind, the length of its payload, the payload field by field and the check. -/
def Obligations.TransmitTakesTheHead : Prop :=
  (∀ (s : State) (b : Bay),
    ((s.lane b).queue = [] → exec (.laneTransmit b) s = .next s)
    ∧ ∀ f rest, (s.lane b).queue = f :: rest →
      exec (.laneTransmit b) s
        = .next (s.putLane b { s.lane b with queue := rest, line := f.bytes }))
    ∧ (∀ f : Frame, ∃ kind payload,
        f.bytes = kind :: BitVec.ofNat 8 payload.length :: payload
          ++ [crc8 (kind :: BitVec.ofNat 8 payload.length :: payload)]
        ∧ let le := fun (m : Sample) =>
            [m.extractLsb' 0 8, m.extractLsb' 8 8, m.extractLsb' 16 8, m.extractLsb' 24 8]
          match f with
          | .welcome b d m n lead => kind = 0x81#8 ∧ payload =
              [BitVec.ofNat 8 b.val, BitVec.ofNat 8 (d % 256), BitVec.ofNat 8 (d / 256)] ++ le m
                ++ [BitVec.ofNat 8 n, BitVec.ofNat 8 lead]
          | .grant tag l span o d a => kind = 0x82#8 ∧ payload = tag.setWidth 8 :: le l
              ++ [BitVec.ofNat 8 span, (if o then 1 else 0) + (if d then 2 else 0) + (if a then 4 else 0)]
          | .refuse tag why refused => kind = 0x83#8 ∧ payload =
              [match tag with
                | none => 0xFF#8
                | some x => x.setWidth 8,
               match why with
                | .full => 1
                | .dupTag => 2
                | .tooLong => 3
                | .malformed => 4
                | .notReady => 5
                | .noSeek => 6
                | .notGranted => 7,
               refused]
          | .confirm tag l => kind = 0x84#8 ∧ payload = tag.setWidth 8 :: le l
          | .expire tag l => kind = 0x85#8 ∧ payload = tag.setWidth 8 :: le l
          | .tardy tag => kind = 0x86#8 ∧ payload = [tag.setWidth 8]
          | .correct m values => kind = 0x87#8 ∧ payload = le m ++ values.map (BitVec.ofInt 8)
          | .revise m values => kind = 0x88#8 ∧ payload = le m ++ values.map (BitVec.ofInt 8)
          | .halt (some m) => kind = 0x89#8 ∧ payload = 0x00#8 :: le m
          | .halt none => kind = 0x89#8 ∧ payload = [0x01#8, 0x00#8, 0x00#8, 0x00#8, 0x00#8]
          | .mark m => kind = 0x8A#8 ∧ payload = le m)
    ∧ (Frame.tardy 6).bytes = [0x86#8, 0x01#8, 0x06#8, 0x5A#8]

/-- Presence rising takes an ABSENT lane to DETECTED with ARRIVE pending for the bay; while a reset is
held it changes the level alone (assumption 1), and without a change of level nothing (assumption 7). -/
def Obligations.PresenceRiseDetects : Prop :=
  ∀ (s : State) (b : Bay),
    let seated := s.setPins { s.pins with present := s.pins.present.upd b true }
    (s.pins.present.get b = true → exec (.presenceRise b) s = .next s)
    ∧ (s.pins.present.get b = false → s.pins.resetHeld = true →
        exec (.presenceRise b) s = .next seated)
    ∧ (s.pins.present.get b = false → s.pins.resetHeld = false → (s.lane b).state = .absent →
        exec (.presenceRise b) s = .next
          ((seated.putLane b { s.lane b with
              state := .detected, bad := 0, queue := [], lastExpired := none }).setAttention
            { s.attention with
              pending := s.attention.pending ||| 0x01#8
              sets := s.attention.sets.upd Cause.arrive.bit
                (s.attention.sets.get Cause.arrive.bit ||| BitVec.twoPow 16 b.val) }))

/-- Presence falling takes a lane to ABSENT with DEPART pending for the bay, its queue emptied and its
capabilities absent; a lane that was READY releases its bay, and the stream of any other keeps all but its
effective values. That the released seeks' forecast changes go in the order of their positions, and that
the search that follows comes after every other step, is the model's choice (assumptions 21 and 12). While
a reset is held the level alone changes (assumption 1), and without a change of level nothing (assumption
7). -/
def Obligations.PresenceFallLosesTheDrive : Prop :=
  ∀ (s : State) (b : Bay),
    let gone := { s.pins with present := s.pins.present.upd b false }
    (s.pins.present.get b = false → exec (.presenceFall b) s = .next s)
    ∧ (s.pins.present.get b = true → s.pins.resetHeld = true →
        exec (.presenceFall b) s = .next (s.setPins gone))
    ∧ (s.pins.present.get b = true → s.pins.resetHeld = false → QueueLawful s → RevisionsRead s →
        ∃ t, exec (.presenceFall b) s = .next t
          ∧ t = (s.eventPart t).setPins gone
          ∧ t.lane b = { s.lane b with
              state := .absent, bad := 0, caps := none, queue := [], lastExpired := none }
          ∧ (∀ c, c ≠ b → t.lane c = s.lane c)
          ∧ t.attention = { s.attention with
              pending := s.attention.pending ||| 0x02#8
              sets := s.attention.sets.upd Cause.depart.bit
                (s.attention.sets.get Cause.depart.bit ||| BitVec.twoPow 16 b.val) }
          ∧ (t.stream b).burstLen = 4 ∧ (t.stream b).lead = min (s.setting b).lead 8
          ∧ ((s.lane b).state = .ready → BayReleased b s t)
          ∧ ((s.lane b).state ≠ .ready → t.seeks = s.seeks ∧ t.exposure = s.exposure
              ∧ t.queue = s.queue ∧ t.engine = s.engine
              ∧ t.streams = s.streams.upd b { s.stream b with
                  burstLen := 4, lead := min (s.setting b).lead 8 }))

/-- A bad frame, whatever made it bad, is counted on a READY lane alone; the fourth in a row takes the
lane to FAULT with LANE_FAULT pending for the bay and releases the bay. So does a refusal, a rule with no
further step, handed to a READY lane's queue of 32 frames, which is lost; on another lane it is lost and
nothing follows. OverflowTakesTheOtherSteps says it of the rules with further steps. That the released
seeks' forecast changes go in the order of their positions, and that the search that follows comes after
every other step, is the model's choice (assumptions 21 and 12). -/
def Obligations.BadFramesAndOverflowFaultTheLane : Prop :=
  (∀ (s : State) (b : Bay) (why : FrameFault),
     ((s.lane b).state ≠ .ready → exec (.badFrame b why) s = .next s)
     ∧ ((s.lane b).state = .ready → (s.lane b).bad < 3 →
         exec (.badFrame b why) s = .next (s.putLane b { s.lane b with bad := (s.lane b).bad + 1 }))
     ∧ ((s.lane b).state = .ready → (s.lane b).bad = 3 → QueueLawful s →
         ∃ t, exec (.badFrame b why) s = .next t ∧ LaneFaulted b s t))
    ∧ (∀ (s : State) (b : Bay) (kind : Byte) (payload : List Byte), (s.lane b).queue.length = 32 →
         ((s.lane b).state = .ready → QueueLawful s →
           ∃ t, exec (.unknownFrame b kind payload) s = .next t ∧ LaneFaulted b s t)
         ∧ ((s.lane b).state = .detected ∨ (s.lane b).state = .fault → RevisionsRead s →
           exec (.unknownFrame b kind payload) s = .next (s.putLane b { s.lane b with bad := 0 })))

/-- An ABSENT lane takes no frame. On any other the good frame clears the count, and a frame of unknown
kind, of a wrong fixed length or of another protocol level is refused MALFORMED, and one that is not a
HELLO on a lane outside READY is refused NOT_READY. -/
def Obligations.FramesAreJudgedInOrder : Prop :=
  ∀ (s : State) (b : Bay) (kind : Byte) (payload : List Byte),
    ((s.lane b).state = .absent → RevisionsRead s →
      ∀ c ∈ [Instr.unknownFrame b kind payload, .hello b payload, .notice b payload,
        .commit b payload, .abort b payload, .residual b payload], exec c s = .next s)
    ∧ ((s.lane b).state ≠ .absent → s.hasRoom b 1 → RevisionsRead s →
      let refused := fun (why : Reason) (k : Byte) =>
        s.putLane b { s.lane b with bad := 0, queue := (s.lane b).queue ++ [.refuse none why k] }
      exec (.unknownFrame b kind payload) s = .next (refused .malformed kind)
      ∧ (payload.length ≠ 7 → exec (.hello b payload) s = .next (refused .malformed 0x01#8))
      ∧ (payload.head? ≠ some 0x01#8 → exec (.hello b payload) s = .next (refused .malformed 0x01#8))
      ∧ (payload.length ≠ 1 → exec (.commit b payload) s = .next (refused .malformed 0x03#8))
      ∧ (payload.length ≠ 1 → exec (.abort b payload) s = .next (refused .malformed 0x04#8))
      ∧ ((s.lane b).state ≠ .ready →
        exec (.notice b payload) s = .next (refused .notReady 0x02#8)
        ∧ (payload.length = 1 → exec (.commit b payload) s = .next (refused .notReady 0x03#8))
        ∧ (payload.length = 1 → exec (.abort b payload) s = .next (refused .notReady 0x04#8))
        ∧ exec (.residual b payload) s = .next (refused .notReady 0x05#8)))

/-- An acceptable HELLO makes a DETECTED or FAULT lane READY with the capabilities as taken, recomputes
the stream's effective values and hands WELCOME to the queue; nothing else changes. -/
def Obligations.HelloAdmitsTheDrive : Prop :=
  ∀ (s : State) (b : Bay) (mb ml i0 i1 i2 i3 : Byte),
    (s.lane b).state = .detected ∨ (s.lane b).state = .fault → s.hasRoom b 1 → RevisionsRead s →
    let caps : Caps :=
      { protocol := 1, maxBurst := if mb = 8 then 8 else 4, maxLead := max 8 (min 64 ml.toNat)
        identity := i3 ++ i2 ++ i1 ++ i0 }
    let bl := if (s.setting b).burst = 8 ∧ mb = 8 then 8 else 4
    let lead := min (s.setting b).lead caps.maxLead
    exec (.hello b [1, mb, ml, i0, i1, i2, i3]) s = .next
      ((s.putLane b { s.lane b with
          state := .ready, bad := 0, caps := some caps, lastExpired := none
          queue := (s.lane b).queue ++ [.welcome b s.time.divisor s.now bl lead] }).putStream b
        { s.stream b with burstLen := bl, lead := lead })

/-- An acceptable HELLO on a READY lane is a restart: the lane stays READY with the new capabilities and
its queue holds the WELCOME alone; the bay is released; no cause is raised. That the released seeks'
forecast changes go in the order of their positions, and that the search that follows comes after every
other step, is the model's choice (assumptions 21 and 12). -/
def Obligations.HelloRestartsTheDrive : Prop :=
  ∀ (s : State) (b : Bay) (mb ml i0 i1 i2 i3 : Byte), (s.lane b).state = .ready → QueueLawful s →
    let caps : Caps :=
      { protocol := 1, maxBurst := if mb = 8 then 8 else 4, maxLead := max 8 (min 64 ml.toNat)
        identity := i3 ++ i2 ++ i1 ++ i0 }
    let bl := if (s.setting b).burst = 8 ∧ mb = 8 then 8 else 4
    let lead := min (s.setting b).lead caps.maxLead
    ∃ t, exec (.hello b [1, mb, ml, i0, i1, i2, i3]) s = .next t
      ∧ t = s.eventPart t
      ∧ t.lane b = { s.lane b with
          state := .ready, bad := 0, caps := some caps, lastExpired := none
          queue := [.welcome b s.time.divisor s.now bl lead] }
      ∧ (∀ c, c ≠ b → t.lane c = s.lane c)
      ∧ t.attention = s.attention
      ∧ (t.stream b).burstLen = bl ∧ (t.stream b).lead = lead
      ∧ BayReleased b s t

/-! ## Seeks -/

/-- A NOTICE payload of a header and one to six segment entries, the last of them alone end-marked, reads
as the notice it carries: level −128 as −127, duration 0 as 256. One without an end marker, with more than
six segments before it, or with a length that is not the header's and the counted entries', is malformed.
-/
def Obligations.NoticeIsReadAsCarried : Prop :=
  ∀ (h lead window : Byte) (body : List SegmentEntry) (last : SegmentEntry) (extra : List Byte),
    (∀ e ∈ body, e.marker.getLsbD 0 = false) →
    let es := body ++ [last]
    let bytes := es.flatMap fun e => [e.level, e.duration, e.marker]
    (last.marker.getLsbD 0 = true → es.length ≤ 6 →
      readNotice (h :: lead :: window :: bytes) = some
        { tag := h.extractLsb' 0 4
          auto := h.getLsbD 7
          lead := (lead.extractLsb' 0 6).toNat
          window := (window.extractLsb' 0 5).toNat
          segments := es.map fun e => Segment.mk
            (if e.level = 0x80#8 then -127 else e.level.toInt)
            (if e.duration = 0#8 then 256 else e.duration.toNat) })
    ∧ (last.marker.getLsbD 0 = true → 6 < es.length →
        readNotice (h :: lead :: window :: (bytes ++ extra)) = none)
    ∧ (last.marker.getLsbD 0 = true → extra ≠ [] →
        readNotice (h :: lead :: window :: (bytes ++ extra)) = none)
    ∧ (last.marker.getLsbD 0 = false → extra.length < 3 →
        readNotice (h :: lead :: window :: (bytes ++ extra)) = none)

/-- A notice taken on a READY lane with a free position, a free tag and at most 320 samples is POSTED in
the lowest free position and joins the queue's tail, not held, and then a search is started as
SEARCH_START does (assumption 12); its record is compiled from its segments and the bay's release shift.
Nothing is sent, and no exposure, stream or cause changes. -/
def Obligations.AcceptedNoticeIsPosted : Prop :=
  ∀ (s : State) (b : Bay) (payload : List Byte) (n : Notice) (p : Pos),
    (s.lane b).state = .ready → RevisionsRead s → readNotice payload = some n →
    s.seekAt b p = none → (∀ q, q < p → s.seekAt b q ≠ none) →
    (∀ q r, s.seekAt b q = some r → r.tag ≠ n.tag) →
    (n.segments.map Segment.duration).sum ≤ 320 →
    ∃ t r, exec (.notice b payload) s = .next t
      ∧ t = (((s.setLanes t.lanes).setSeeks t.seeks).setQueue t.queue).setEngine t.engine
      ∧ t.lane b = { s.lane b with
          bad := 0
          lastExpired := if (s.lane b).lastExpired = some n.tag then none
            else (s.lane b).lastExpired }
      ∧ (∀ c, c ≠ b → t.lane c = s.lane c)
      ∧ (∀ c q, (c, q) ≠ (b, p) → t.seekAt c q = s.seekAt c q)
      ∧ t.queue.map (fun e => (e.bay, e.pos))
          = (s.queue.map fun e => (e.bay, e.pos)) ++ [(b, p)]
      ∧ exec .searchStart ((t.setQueue (s.queue ++ [{ bay := b, pos := p, held := false }])).setEngine
          s.engine) = .next t
      ∧ (∀ sr, s.engine = some sr → t.engine = some sr)
      ∧ t.seekAt b p = some r
      ∧ r.tag = n.tag ∧ r.state = .posted ∧ r.auto = n.auto ∧ r.segments = n.segments
      ∧ r.shift = (s.setting b).shift ∧ r.launch = none ∧ r.markers = none ∧ r.abortIndex = none
      ∧ r.length = (n.segments.map Segment.duration).sum
      ∧ r.span = (r.length + r.tailLen + 7) / 8
      ∧ r.mags.length = r.span
      ∧ (∀ j m : Nat, r.mags[j]? = some m →
          (∀ i : Nat, 8 * j ≤ i → i < 8 * j + 8 → (r.valueAt i).natAbs ≤ m)
          ∧ (m = 0 ∨ ∃ i : Nat, 8 * j ≤ i ∧ i < 8 * j + 8 ∧ (r.valueAt i).natAbs = m))
      ∧ (let lead := max 2 (min (64 - r.span) n.lead)
        r.earliest = s.slot + BitVec.ofNat 29 lead
        ∧ r.latest = r.earliest + BitVec.ofNat 29 (min n.window (64 - r.span - lead)))

/-- A notice that fails a check of R4 is refused by the first it fails, malformed, FULL, DUP_TAG or
TOO_LONG, and nothing else changes. -/
def Obligations.RefusedNoticeChangesNothing : Prop :=
  ∀ (s : State) (b : Bay) (payload : List Byte),
    (s.lane b).state = .ready → s.hasRoom b 1 → RevisionsRead s →
    let refused := fun (tag : Option Tag) (why : Reason) =>
      Host.Outcome.next (φ := Fault) (ρ := Refusal) (s.putLane b { s.lane b with
        bad := 0, queue := (s.lane b).queue ++ [.refuse tag why 0x02#8] })
    (readNotice payload = none → exec (.notice b payload) s = refused none .malformed)
    ∧ ∀ n, readNotice payload = some n →
      ((∀ q, s.seekAt b q ≠ none) → exec (.notice b payload) s = refused (some n.tag) .full)
      ∧ (∀ p q r, s.seekAt b p = none → s.seekAt b q = some r → r.tag = n.tag →
          exec (.notice b payload) s = refused (some n.tag) .dupTag)
      ∧ (∀ p, s.seekAt b p = none → (∀ q r, s.seekAt b q = some r → r.tag ≠ n.tag) →
          320 < (n.segments.map Segment.duration).sum →
          exec (.notice b payload) s = refused (some n.tag) .tooLong)

/-- A COMMIT binds a GRANTED seek and is confirmed; in another state it is answered by that state, and
with no live seek by the last-expired tag. The reply and the cleared count apart, only the GRANTED seek's
state changes. -/
def Obligations.CommitBindsTheGrantedSeek : Prop :=
  ∀ (s : State) (b : Bay) (x : Byte),
    (s.lane b).state = .ready → s.hasRoom b 1 → RevisionsRead s → TagsLawful s →
    let tag : Tag := x.extractLsb' 0 4
    let replied := fun (f : Frame) =>
      s.putLane b { s.lane b with bad := 0, queue := (s.lane b).queue ++ [f] }
    (∀ p r, s.seekAt b p = some r → r.tag = tag →
      (r.state = .granted → exec (.commit b [x]) s = .next
        ((replied (.confirm tag r.launchAt)).putSeek b p (some { r with state := .committed })))
      ∧ (r.state = .posted →
        exec (.commit b [x]) s = .next (replied (.refuse (some tag) .notGranted 0x03#8)))
      ∧ (r.state = .committed ∨ r.state = .running ∨ r.state = .tail →
        exec (.commit b [x]) s = .next (replied (.confirm tag r.launchAt))))
    ∧ ((∀ p r, s.seekAt b p = some r → r.tag ≠ tag) →
      exec (.commit b [x]) s = .next (replied
        (if (s.lane b).lastExpired = some tag then .tardy tag
        else .refuse (some tag) .noSeek 0x03#8)))

/-- An ABORT frees a POSTED seek, its entry and its search gone and then the next search started
(assumption 12), or a GRANTED
or COMMITTED one, its load gone from slot current + 1 on and its forecast change over its run and tail
taken by the streams; it is ignored in TAIL and after a first cut, and refused NO_SEEK without a
live seek. -/
def Obligations.AbortWithdrawsTheSeek : Prop :=
  ∀ (s : State) (b : Bay) (x : Byte),
    (s.lane b).state = .ready → RevisionsRead s → TagsLawful s →
    let tag : Tag := x.extractLsb' 0 4
    let heard := s.putLane b { s.lane b with bad := 0 }
    (∀ p r, s.seekAt b p = some r → r.tag = tag →
      (r.state = .posted → ∃ t, exec (.abort b [x]) s = .next t
        ∧ t = ((heard.putSeek b p none).setQueue t.queue).setEngine t.engine
        ∧ t.queue.map (fun e => (e.bay, e.pos))
            = (s.queue.map fun e => (e.bay, e.pos)).filter (· ≠ (b, p))
        ∧ (∀ sr, s.engine = some sr → (sr.bay, sr.pos) ≠ (b, p) → t.engine = some sr)
        ∧ (∀ sr, t.engine = some sr → (sr.bay, sr.pos) ≠ (b, p))
        ∧ exec .searchStart ((t.setQueue (s.queue.filter fun e => (e.bay, e.pos) ≠ (b, p))).setEngine
            (s.engine.filter fun sr => (sr.bay, sr.pos) ≠ (b, p))) = .next t)
      ∧ (r.state = .granted ∨ r.state = .committed → ∃ t, exec (.abort b [x]) s = .next t
        ∧ t = ((heard.putSeek b p none).setExposure t.exposure).setStreams t.streams
        ∧ (∀ (c : Bay) (i : Fin 64), t.exposureAt c i =
            if s.rebuild.isSome ∨ i = positionOf s.slot then s.exposureAt c i
            else s.exposureAt c i - s.loadOn b r c (slotAt s.slot i))
        ∧ ChangePublished b r.launchAt
            (r.launchAt + BitVec.ofNat 32 (r.runEnd + r.tailLen) - 1) s t)
      ∧ (r.state = .tail ∨ r.state = .running ∧ r.abortIndex.isSome →
        exec (.abort b [x]) s = .next heard))
    ∧ ((∀ p r, s.seekAt b p = some r → r.tag ≠ tag) → s.hasRoom b 1 →
      exec (.abort b [x]) s = .next (s.putLane b { s.lane b with
        bad := 0, queue := (s.lane b).queue ++ [.refuse (some tag) .noSeek 0x04#8] }))

/-- An ABORT of a RUNNING seek during sample n sets its abort index to n + 1 − launch sample, keeps its
values up to it, follows them with the tail from the last of them, replaces its load from slot current + 1
on, and gives the streams the forecast change from the next sample to the last that either profile
reaches; where the cut leaves no such sample there is none. -/
def Obligations.AbortCutsTheRun : Prop :=
  ∀ (s : State) (b : Bay) (x : Byte) (p : Pos) (r : Seek) (l : Slot),
    (s.lane b).state = .ready → RevisionsRead s → TagsLawful s →
    s.seekAt b p = some r → r.tag = x.extractLsb' 0 4 → r.state = .running → r.abortIndex = none →
    r.launch = some l → r.Compiled → r.Timely s.now →
    ∃ t g k, exec (.abort b [x]) s = .next t
      ∧ t = (((s.putLane b { s.lane b with bad := 0 }).putSeek b p (some g)).setExposure
          t.exposure).setStreams t.streams
      ∧ ((k : Nat) : Int) = (s.now + 1 - launchSample l).toInt ∧ 1 ≤ k ∧ k ≤ r.length
      ∧ g = { r with
          abortIndex := some k, tailLen := g.tailLen, span := (k + g.tailLen + 7) / 8, mags := g.mags }
      ∧ (∀ i : Nat, i < k → g.valueAt i = r.valueAt i)
      ∧ (∀ i : Nat, k ≤ i → (g.valueAt i).natAbs
          = (g.valueAt (i - 1 : Nat)).natAbs - max 1 ((g.valueAt (i - 1 : Nat)).natAbs >>> r.shift))
      ∧ (∀ i : Nat, k ≤ i → 0 ≤ (g.valueAt i) * (r.valueAt (k - 1 : Nat)))
      ∧ (∀ i : Nat, k ≤ i → (g.valueAt i ≠ 0 ↔ i < k + g.tailLen))
      ∧ g.mags = slotMagnitudes (profileValues r.segments k r.shift)
      ∧ (∀ (c : Bay) (i : Fin 64), t.exposureAt c i =
          if s.rebuild.isSome ∨ i = positionOf s.slot then s.exposureAt c i
          else s.exposureAt c i - s.loadOn b r c (slotAt s.slot i)
            + s.loadOn b g c (slotAt s.slot i))
      ∧ (let q := max (r.length + r.tailLen) (k + g.tailLen)
         (k < q → ChangePublished b (s.now + 1) (launchSample l + BitVec.ofNat 32 q - 1) s t)
         ∧ (q ≤ k → t.streams = s.streams))

/-! ## Adaptation -/

/-- A report of one used value moves the accumulator of every source bay with torque by the product of the
signs; at a threshold the working coefficient is stepped and the accumulator cleared, or, at the range
limit, the step is refused and COEFF_LIMIT pending for the bay, and for no other reason. Nothing else
changes but the lane's cleared count. A report of several values does what a report of its first does and
then, from there, a report of the others. -/
def Obligations.UsedResidualCounts : Prop :=
  (∀ (s : State) (b : Bay) (f0 f1 f2 f3 v : Byte) (cov : Coverage) (n : Nat),
    let m : Sample := f3 ++ f2 ++ f1 ++ f0
    (s.lane b).state = .ready → RevisionsRead s → TablesLawful s → AccumulatorsLawful s →
    1 ≤ (s.now - m).toInt → (s.now - m).toInt ≤ 64 →
    (s.stream b).coverage = some cov → 0 ≤ (m - cov.first).toInt → 0 ≤ (cov.last - m).toInt →
    (s.setting b).rate ≠ .off → (s.setting b).deadband < v.toInt.natAbs →
    n = (if (s.setting b).rate = .slow then 512 else if (s.setting b).rate = .medium then 128
      else 32) →
    ∃ t, exec (.residual b [f0, f1, f2, f3, 1, v]) s = .next t
      ∧ t = (((s.putLane b { s.lane b with bad := 0 }).setAcc t.acc).setStore
          { s.store with working := t.store.working }).setAttention t.attention
      ∧ (∀ c src, c ≠ b → t.accAt c src = s.accAt c src ∧ t.workingAt c src = s.workingAt c src)
      ∧ (t.accAt b b = s.accAt b b ∧ t.workingAt b b = s.workingAt b b)
      ∧ (t.attention.mask = s.attention.mask ∧ t.attention.route = s.attention.route)
      ∧ (∀ c : Cause, c ≠ .coeffLimit →
          t.attention.pending.getLsbD c.bit.val = s.attention.pending.getLsbD c.bit.val
          ∧ t.attention.sets.get c.bit = s.attention.sets.get c.bit)
      ∧ (∀ c : Bay, c ≠ b → (t.attention.sets.get Cause.coeffLimit.bit).getLsbD c.val
          = (s.attention.sets.get Cause.coeffLimit.bit).getLsbD c.val)
      ∧ ((∀ src T, src ≠ b →
          (s.history.get src).cells[(s.now - m).toNat + (s.coeff b src).d]? = some T → T ≠ 0 →
          (s.accAt b src + v.toInt.sign * T.sign).natAbs = n →
          -128 ≤ (s.workingAt b src).c + (s.accAt b src + v.toInt.sign * T.sign).sign
            ∧ (s.workingAt b src).c + (s.accAt b src + v.toInt.sign * T.sign).sign ≤ 127) →
          t.attention = s.attention)
      ∧ ∀ src T, src ≠ b →
        (s.history.get src).cells[(s.now - m).toNat + (s.coeff b src).d]? = some T →
        let a := s.accAt b src + v.toInt.sign * T.sign
        let up := (s.workingAt b src).c + a.sign
        (T = 0 → t.accAt b src = s.accAt b src ∧ t.workingAt b src = s.workingAt b src)
        ∧ (T ≠ 0 → a.natAbs < n → t.accAt b src = a ∧ t.workingAt b src = s.workingAt b src)
        ∧ (T ≠ 0 → a.natAbs = n → -128 ≤ up → up ≤ 127 →
            t.accAt b src = 0 ∧ t.workingAt b src = { s.workingAt b src with c := up })
        ∧ (T ≠ 0 → a.natAbs = n → up < -128 ∨ 127 < up →
            t.accAt b src = 0 ∧ t.workingAt b src = s.workingAt b src
            ∧ t.attention.pending.getLsbD 7 = true
            ∧ (t.attention.sets.get Cause.coeffLimit.bit).getLsbD b.val = true))
    ∧ ∀ (s : State) (b : Bay) (f0 f1 f2 f3 v : Byte) (rest : List Byte),
      let m : Sample := f3 ++ f2 ++ f1 ++ f0
      (s.lane b).state = .ready → RevisionsRead s → 1 ≤ rest.length → rest.length ≤ 7 →
      ∃ t, exec (.residual b [f0, f1, f2, f3, 1, v]) s = .next t
        ∧ exec (.residual b ([f0, f1, f2, f3, BitVec.ofNat 8 (rest.length + 1), v] ++ rest)) s
          = exec (.residual b ([(m + 1).extractLsb' 0 8, (m + 1).extractLsb' 8 8,
              (m + 1).extractLsb' 16 8, (m + 1).extractLsb' 24 8, BitVec.ofNat 8 rest.length] ++ rest)) t

/-- A RESIDUAL of a wrong length or count is refused MALFORMED, and a report none of whose values passes
the four conditions only clears the lane's count. -/
def Obligations.UnusedResidualChangesNothing : Prop :=
  ∀ (s : State) (b : Bay) (f0 f1 f2 f3 count : Byte) (values : List Byte),
    let m : Sample := f3 ++ f2 ++ f1 ++ f0
    let payload := [f0, f1, f2, f3, count] ++ values
    let refused := s.putLane b { s.lane b with
      bad := 0, queue := (s.lane b).queue ++ [.refuse none .malformed 0x05#8] }
    (s.lane b).state = .ready → RevisionsRead s →
    (count = 0 ∨ 8 < count.toNat ∨ values.length ≠ count.toNat → s.hasRoom b 1 →
      exec (.residual b payload) s = .next refused)
    ∧ (∀ short : List Byte, short.length < 5 → s.hasRoom b 1 →
      exec (.residual b short) s = .next refused)
    ∧ (1 ≤ count.toNat → count.toNat ≤ 8 → values.length = count.toNat →
      (∀ (i : Nat) (v : Byte), values[i]? = some v →
        let age := (s.now - (m + BitVec.ofNat 32 i)).toInt
        age < 1 ∨ 64 < age ∨ (s.setting b).rate = .off
        ∨ v.toInt.natAbs ≤ (s.setting b).deadband
        ∨ (s.stream b).coverage = none
        ∨ ∃ c, (s.stream b).coverage = some c
          ∧ (0 < (c.first - (m + BitVec.ofNat 32 i)).toInt
            ∨ 0 < ((m + BitVec.ofNat 32 i) - c.last).toInt)) →
      exec (.residual b payload) s = .next (s.putLane b { s.lane b with bad := 0 }))

/-! ## Management port

A response leaves the port as `Port.answer` has it, which RequestsTakenOnlyOutOfReset writes out. -/

/-- While a reset is held, after a HUB RESET request until CSn rises (assumption 10), and in a select
period that has had its request or is over, no request is taken. A request taken is answered, and with CSn
low it is its period's one; with CSn high the command stands for a whole period (assumption 23). A request
that is not well formed changes nothing and is answered BAD_REQUEST alone, of kind 7Fh where its check or
its kind is wrong, and a HUB RESET request is answered OK and does nothing else until CSn rises. A select
period that begins with no reset held takes the request clocked into it with its check byte, once,
whatever follows, and gives after four bytes its response, each byte most significant bit first, sampled
at the rise of SCK and changed at its fall; one whose length byte is above 40, one that begins while a
reset is held, and one in which a reset has begun take nothing and give FFh. The rise of CSn ends the
response. How the lines make requests is assumption 19, and the select period assumption 23. -/
def Obligations.RequestsTakenOnlyOutOfReset : Prop :=
  (∀ (s : State) (b : Bay) (w : SettingFields) (divisor : BitVec 16) (code page offset count causes mask
       route : Byte) (row : Tab 16 (Byte × Byte)) (why : BadRequest),
     s.pins.resetHeld = true ∨ s.port.resetArmed = true ∨ s.port.select = .over
       ∨ (∃ n, s.port.select = .answered n) →
     ∀ c ∈ [Instr.badRequest why, .settingRead b, .streamEnable b w, .streamDisable b w, .hubRead,
       .hubWrite divisor code, .freeze, .thaw, .peekRow b, .pokeRow b row, .activeRowRead b,
       .bayInspect b page, .exposureRead b offset count, .attentionRead, .attentionClear causes,
       .attentionConfigure mask route, .bayReset b, .hubReset], exec c s = .next s)
    ∧ (∀ (s : State), s.portTakes = true →
         let bad := fun (kind : Byte) => s.setPort (s.port.answer kind [0x04#8])
         exec (.badRequest .checkMismatch) s = .next (bad 0x7F#8)
         ∧ exec (.badRequest .unknownKind) s = .next (bad 0x7F#8)
         ∧ (∀ k : RequestKind, exec (.badRequest (.wrongLength k)) s = .next (bad (k.code + 0x80#8))
             ∧ exec (.badRequest (.badBay k)) s = .next (bad (k.code + 0x80#8)))
         ∧ exec .hubReset s = .next (s.setPort
             { s.port.answer 0xAF#8 [0x00#8] with resetArmed := true }))
    ∧ (∀ (p : Port) (kind : Byte) (payload : List Byte),
         (p.select = .idle → p.answer kind payload
           = { p with shift := [], response := some ⟨kind, payload⟩ })
         ∧ ∀ mosi, p.select = .request mosi → p.answer kind payload
           = { p with select := .answered 0, shift := [], response := some ⟨kind, payload⟩ })
    ∧ (∀ (s : State) (kind : Byte) (payload more : List Byte) (c : Instr),
         s.pins.resetHeld = false → s.port.resetArmed = false → payload.length ≤ 40 →
         requestCommand (framed kind payload) = some c →
         ∃ t r, exec c (csnFall s) = .next t ∧ t.port.response = some r
           ∧ t.port.select = .answered 0
           ∧ (framed kind payload ++ more).foldl (fun u x => clockByte x u) (csnFall s)
             = t.setPort { t.port with select := .answered more.length }
           ∧ (t.setPort { t.port with select := .answered more.length }).misoByte
             = ((List.replicate 4 0xFF#8 ++ r.bytes)[more.length]?).getD 0xFF#8)
    ∧ (∀ (s : State) (mosi : List Byte),
         let after := mosi.foldl (fun u x => clockByte x u) (csnFall s)
         (s.pins.resetHeld = true ∨ (∃ kind len rest, mosi = kind :: len :: rest ∧ 40 < len.toNat) →
           after = s.setPort
             { s.port with select := .over, shift := [], miso := true, response := none }
           ∧ after.misoByte = 0xFF#8)
         ∧ ((∀ n, n ≤ mosi.length → requestCommand (mosi.take n) = none) →
           after.misoByte = 0xFF#8))
    ∧ (∀ (s t : State), s.port.select ≠ .idle →
         exec .powerOn s = .next t ∨ exec .pinReset s = .next t →
         t.port.select = .over
         ∧ t.misoByte = 0xFF#8 ∧ t.misoBit = true ∧ sckFall t = t ∧ ∀ x, clockByte x t = t)
    ∧ (∀ s : State, (csnRise s).port.select = .idle ∧ (csnRise s).port.response = none
         ∧ (csnRise s).misoByte = 0xFF#8
         ∧ (s.port.resetArmed = false →
           csnRise s = s.setPort
             { s.port with select := .idle, shift := [], miso := true, response := none }))
    ∧ (∀ (s : State) (v : Bool), (csnFall s).misoBit = true ∧ (sckRise v s).misoBit = s.misoBit)
    ∧ ∀ (s : State) (x : Byte), s.port.shift = [] →
         (∀ i, i < 8 → (portBits x)[i]? = some (x.getLsbD (7 - i)))
         ∧ (portBits x).foldl (fun u v => sckRise v u) s = clockByte x s
         ∧ (portBits x).foldl (fun u v => sckFall (sckRise v u)) s = sckFall (clockByte x s)
         ∧ ∀ i, i < 8 → s.port.select ≠ .idle →
           (((portBits x).take i).foldl (fun u v => sckFall (sckRise v u)) (sckFall s)).misoBit
             = s.misoByte.getLsbD (7 - i)

/-- SETTING READ and HUB READ answer OK with the records, byte for byte. PEEK ROW, taken while frozen, and
ACTIVE ROW READ answer OK with the sixteen entries of the row in source-bay order, the diagonal (0, 0);
EXPOSURE READ answers with the entries from slot current + offset on. None changes anything. -/
def Obligations.ReadsReportTheRecords : Prop :=
  (∀ (s : State) (b : Bay), s.portTakes = true →
     let x := s.setting b
     let d := s.time.pendingDivisor.getD s.time.divisor
     exec (.settingRead b) s = .next (s.setPort (s.port.answer 0xA0#8
       [0x00#8, BitVec.ofNat 8 b.val, if x.enable then 1 else 0, BitVec.ofNat 8 x.burst,
         BitVec.ofNat 8 x.lead, BitVec.ofNat 8 x.gain, BitVec.ofNat 8 (x.limit % 256),
         BitVec.ofNat 8 (x.limit / 256), BitVec.ofNat 8 x.shift,
         match x.rate with
           | .off => 0
           | .slow => 1
           | .medium => 2
           | .fast => 3,
         BitVec.ofNat 8 x.deadband, if x.dither = .interleaved then 1 else 0]))
     ∧ exec .hubRead s = .next (s.setPort (s.port.answer 0xA2#8
       [0x00#8, BitVec.ofNat 8 (d % 256), BitVec.ofNat 8 (d / 256),
         match s.store.epochLength with
           | .slots64 => 0
           | .slots128 => 1
           | .slots256 => 2
           | .slots512 => 3,
         s.now.extractLsb' 0 8, s.now.extractLsb' 8 8, s.now.extractLsb' 16 8, s.now.extractLsb' 24 8,
         (if s.store.frozen then 1 else 0) + (if s.rebuild.isSome then 2 else 0),
         s.store.sequence.extractLsb' 0 8, s.store.sequence.extractLsb' 8 8,
         match s.port.cause with
           | .power => 0
           | .pin => 1
           | .command => 2])))
    ∧ (∀ (s : State) (b : Bay) (offset count : Byte), s.portTakes = true →
         let answered := fun (kind : Byte) (payload : List Byte) =>
           s.setPort (s.port.answer kind payload)
         let rowOf := fun (table : CoeffTable) (bytes : List Byte) =>
           bytes.length = 32 ∧ ∀ src : Bay,
             let e := if src = b then ⟨0, 0⟩ else (table.get b).get src
             bytes[2 * src.val]? = some (BitVec.ofInt 8 e.c)
             ∧ bytes[2 * src.val + 1]? = some (BitVec.ofNat 8 e.d)
         let first := min 63 offset.toNat
         let n := max 1 (min 16 count.toNat)
         let slot := s.slot.setWidth 32
         (s.store.frozen = false → exec (.peekRow b) s = .next (answered 0xA6#8 [0x03#8]))
         ∧ (s.store.frozen = true → ∃ bytes, rowOf s.store.snapshot bytes
             ∧ exec (.peekRow b) s = .next (answered 0xA6#8 (0x00#8 :: BitVec.ofNat 8 b.val :: bytes)))
         ∧ (∃ bytes, rowOf s.store.active bytes
             ∧ exec (.activeRowRead b) s = .next (answered 0xA8#8
               (0x00#8 :: BitVec.ofNat 8 b.val :: s.store.sequence.extractLsb' 0 8
                 :: s.store.sequence.extractLsb' 8 8 :: bytes)))
         ∧ ∃ bytes, bytes.length = 2 * n
             ∧ (∀ i, i < n →
               let e := s.exposureAt b (positionOf (s.slot + BitVec.ofNat 29 (first + i)))
               bytes[2 * i]? = some (BitVec.ofNat 8 (e % 256))
               ∧ bytes[2 * i + 1]? = some (BitVec.ofNat 8 (e / 256)))
             ∧ exec (.exposureRead b offset count) s = .next (answered 0xAA#8
               ([0x00#8, BitVec.ofNat 8 b.val + (if s.rebuild.isSome then 0x80#8 else 0x00#8),
                 BitVec.ofNat 8 first, BitVec.ofNat 8 n, slot.extractLsb' 0 8, slot.extractLsb' 8 8,
                 slot.extractLsb' 16 8, slot.extractLsb' 24 8] ++ bytes)))

/-- BAY INSPECT answers OK with page 0, the lane and the stream, or page 1, the four record positions, and
changes nothing. -/
def Obligations.InspectReportsTheBay : Prop :=
  ∀ (s : State) (b : Bay) (page : Byte), s.portTakes = true →
    let l := s.lane b
    let u := s.stream b
    let answered := fun (payload : List Byte) =>
      s.setPort (s.port.answer 0xA9#8 payload)
    let caps := l.caps.getD { protocol := 0, maxBurst := 0, maxLead := 0, identity := 0 }
    let cov := u.coverage.getD { first := 0, last := 0 }
    let sample := fun (m : Sample) =>
      [m.extractLsb' 0 8, m.extractLsb' 8 8, m.extractLsb' 16 8, m.extractLsb' 24 8]
    let summary := fun (x : Option Seek) =>
      match x with
      | none => List.replicate 9 0x00#8
      | some r =>
        let t := (r.launch.getD 0).setWidth 32
        [(match r.state with
            | .posted => 1
            | .granted => 2
            | .committed => 3
            | .running => 4
            | .tail => 5)
          + (if r.auto then 0x08#8 else 0x00#8)
          + (if r.markers.any Markers.overLimit then 0x10#8 else 0x00#8)
          + (if r.markers.any Markers.delayed then 0x20#8 else 0x00#8)
          + (if r.abortIndex.isSome then 0x40#8 else 0x00#8)
          + (if r.launch.isSome then 0x80#8 else 0x00#8),
          r.tag.setWidth 8, BitVec.ofNat 8 r.span, t.extractLsb' 0 8, t.extractLsb' 8 8,
          t.extractLsb' 16 8, t.extractLsb' 24 8, BitVec.ofNat 8 (r.abortIndex.getD 0 % 256),
          BitVec.ofNat 8 (r.abortIndex.getD 0 / 256)]
    (page.getLsbD 0 = false → exec (.bayInspect b page) s = .next (answered
      ([0x00#8, BitVec.ofNat 8 b.val,
        match l.state with
          | .absent => 0
          | .detected => 1
          | .ready => 2
          | .fault => 3,
        BitVec.ofNat 8 l.bad, if l.caps.isSome then 1 else 0, caps.protocol,
        BitVec.ofNat 8 caps.maxBurst, BitVec.ofNat 8 caps.maxLead]
      ++ sample caps.identity
      ++ [match l.lastExpired with
          | none => 0xFF#8
          | some tag => tag.setWidth 8,
        BitVec.ofNat 8 l.queue.length,
        match u.state with
          | .off => 0
          | .starting => 1
          | .running => 2
          | .draining => 3,
        BitVec.ofNat 8 u.burstLen, BitVec.ofNat 8 u.lead, if u.coverage.isSome then 1 else 0]
      ++ sample cov.first ++ sample cov.last ++ [BitVec.ofNat 8 u.delivery.length])))
    ∧ (page.getLsbD 0 = true → exec (.bayInspect b page) s = .next (answered
      ([0x00#8, BitVec.ofNat 8 b.val + 0x10#8] ++ summary (s.seekAt b 0) ++ summary (s.seekAt b 1)
        ++ summary (s.seekAt b 2) ++ summary (s.seekAt b 3))))

/-- HUB WRITE: a divisor that differs from the one in force is BUSY on a live seek or a stream not OFF and
else pending; the one in force cancels a pending change; another epoch length restarts the counter. -/
def Obligations.HubWriteTakesDivisorAndEpoch : Prop :=
  ∀ (s : State) (divisor : BitVec 16) (code : Byte), s.portTakes = true →
    let d := max 500 (min 2000 divisor.toNat)
    let e : EpochLength := if code = 0 then .slots64 else if code = 1 then .slots128
      else if code = 2 then .slots256 else .slots512
    let busy := d ≠ s.time.divisor ∧ ((∃ b p, s.seekAt b p ≠ none) ∨ ∃ b, (s.stream b).state ≠ .off)
    let u := (s.setTime { s.time with
        pendingDivisor := if d = s.time.divisor then none else some d }).setStore { s.store with
        epochLength := e
        epochCount := if e = s.store.epochLength then s.store.epochCount else 0 }
    (busy → exec (.hubWrite divisor code) s
      = .next (s.setPort (s.port.answer 0xA3#8 (0x01#8 :: s.hubRecord))))
    ∧ (¬ busy → exec (.hubWrite divisor code) s
      = .next (u.setPort (s.port.answer 0xA3#8 (0x00#8 :: u.hubRecord))))

/-- FREEZE copies the active table into the snapshot and freezes the store; while frozen it is answered
FROZEN and changes nothing. -/
def Obligations.FreezeCopiesTheActiveTable : Prop :=
  ∀ s : State, s.portTakes = true →
    (s.store.frozen = false → TablesLawful s →
      exec .freeze s = .next ((s.setStore { s.store with
          snapshot := s.store.active, frozen := true, written := false }).setPort
        (s.port.answer 0xA4#8 [0x00#8, s.store.sequence.extractLsb' 0 8,
          s.store.sequence.extractLsb' 8 8])))
    ∧ (s.store.frozen = true → exec .freeze s = .next (s.setPort (s.port.answer 0xA4#8 [0x02#8])))

/-- POKE ROW, taken while frozen, writes the row's fifteen pairs into the snapshot, delays saturated to 7,
and answers with the row as it now stands; else it is answered NOT_FROZEN and changes nothing. -/
def Obligations.PokeRowWritesTheSnapshot : Prop :=
  ∀ (s : State) (b : Bay) (row : Tab 16 (Byte × Byte)), s.portTakes = true →
    (s.store.frozen = false → exec (.pokeRow b row) s
      = .next (s.setPort (s.port.answer 0xA7#8 [0x03#8])))
    ∧ (s.store.frozen = true → ∃ t bytes, exec (.pokeRow b row) s = .next t
      ∧ t = (s.setStore { s.store with snapshot := t.store.snapshot, written := true }).setPort
          (s.port.answer 0xA7#8 (0x00#8 :: BitVec.ofNat 8 b.val :: bytes))
      ∧ (∀ c, c ≠ b → t.store.snapshot.get c = s.store.snapshot.get c)
      ∧ bytes.length = 32
      ∧ ∀ src : Bay,
        let e := (t.store.snapshot.get b).get src
        e = (if src = b then ⟨0, 0⟩
          else ⟨(row.get src).1.toInt, min 7 (row.get src).2.toNat⟩)
        ∧ bytes[2 * src.val]? = some (BitVec.ofInt 8 e.c)
        ∧ bytes[2 * src.val + 1]? = some (BitVec.ofNat 8 e.d))

/-- THAW of a written snapshot loads it into the active and working tables, clears every accumulator,
counts the change and starts a rebuild in place of any; of an unwritten one it only ends the freeze; while
not frozen it is answered NOT_FROZEN and changes nothing. -/
def Obligations.ThawLoadsAWrittenSnapshot : Prop :=
  ∀ s : State, s.portTakes = true →
    (s.store.frozen = false → exec .thaw s = .next (s.setPort (s.port.answer 0xA5#8 [0x03#8])))
    ∧ (s.store.frozen = true → s.store.written = false →
      exec .thaw s = .next ((s.setStore { s.store with frozen := false }).setPort
        (s.port.answer 0xA5#8 [0x00#8, 0x00#8, s.store.sequence.extractLsb' 0 8,
          s.store.sequence.extractLsb' 8 8])))
    ∧ (s.store.frozen = true → s.store.written = true → TablesLawful s →
      exec .thaw s = .next ((((s.setStore { s.store with
          active := s.store.snapshot, working := s.store.snapshot, frozen := false, written := false
          sequence := s.store.sequence + 1 }).setAcc (Tab.fill 16 (Tab.fill 16 0))).setRebuild
          (some s.now)).setPort
        (s.port.answer 0xA5#8 [0x00#8, 0x01#8, (s.store.sequence + 1).extractLsb' 0 8,
          (s.store.sequence + 1).extractLsb' 8 8])))

/-- ATTENTION READ reports the lines, the three bytes and the eight sets; ATTENTION CLEAR clears the flags
and sets of the causes it names; ATTENTION CONFIGURE replaces masks and routes; nothing else changes. A
line is asserted exactly when some pending, unmasked cause is routed to it; while a reset is held both are
released. -/
def Obligations.AttentionFollowsTheCauses : Prop :=
  (∀ (s : State) (causes mask route : Byte), s.portTakes = true →
     let a := s.attention
     let set := fun (i : Fin 8) => [(a.sets.get i).extractLsb' 0 8, (a.sets.get i).extractLsb' 8 8]
     exec .attentionRead s = .next (s.setPort (s.port.answer 0xAB#8
       ([0x00#8, (if s.attnA then 1 else 0) + (if s.attnB then 2 else 0), a.pending, a.mask, a.route]
         ++ set 0 ++ set 1 ++ set 2 ++ set 3 ++ set 4 ++ set 5 ++ set 6 ++ set 7)))
     ∧ (∃ t, exec (.attentionClear causes) s = .next t
       ∧ t = (s.setAttention { a with pending := t.attention.pending, sets := t.attention.sets }).setPort
           (s.port.answer 0xAC#8 [0x00#8, t.attention.pending])
       ∧ ∀ c : Cause,
         (causes.getLsbD c.bit.val = true → t.attention.pending.getLsbD c.bit.val = false
           ∧ t.attention.sets.get c.bit = 0)
         ∧ (causes.getLsbD c.bit.val = false →
           t.attention.pending.getLsbD c.bit.val = a.pending.getLsbD c.bit.val
           ∧ t.attention.sets.get c.bit = a.sets.get c.bit))
     ∧ exec (.attentionConfigure mask route) s = .next
         ((s.setAttention { a with mask := mask, route := route }).setPort
           (s.port.answer 0xAD#8 [0x00#8, mask, route])))
    ∧ (∀ s : State,
         (s.attnA = true ↔ s.pins.resetHeld = false ∧ ∃ c : Cause,
           s.attention.pending.getLsbD c.bit.val = true ∧ s.attention.mask.getLsbD c.bit.val = false
             ∧ s.attention.route.getLsbD c.bit.val = false)
         ∧ (s.attnB = true ↔ s.pins.resetHeld = false ∧ ∃ c : Cause,
           s.attention.pending.getLsbD c.bit.val = true ∧ s.attention.mask.getLsbD c.bit.val = false
             ∧ s.attention.route.getLsbD c.bit.val = true))

/-- BAY RESET releases the bay, takes its lane out of READY or FAULT to DETECTED without capabilities,
clears its history and its row of the accumulators, and keeps its setting record, the Coefficient Store,
the Attention Unit and every other bay's lane, history and row. That the released seeks' forecast changes
go in the order of their positions, and that the search that follows comes after every other step, is the
model's choice (assumptions 21 and 12). -/
def Obligations.BayResetReleasesTheBay : Prop :=
  ∀ (s : State) (b : Bay), s.portTakes = true → QueueLawful s →
    ∃ t, exec (.bayReset b) s = .next t
      ∧ t = (((s.eventPart t).setHistory (s.history.upd b (Tab.fill 72 0))).setAcc
          (s.acc.upd b (Tab.fill 16 0))).setPort
            (s.port.answer 0xAE#8 [0x00#8, BitVec.ofNat 8 b.val])
      ∧ t.lane b = { s.lane b with
          state := if (s.lane b).state = .absent then .absent else .detected
          bad := 0, caps := none, queue := [], lastExpired := none }
      ∧ (∀ c, c ≠ b → t.lane c = s.lane c)
      ∧ t.attention = s.attention
      ∧ (t.stream b).burstLen = 4 ∧ (t.stream b).lead = min (s.setting b).lead 8
      ∧ BayReleased b s t

/-! ## Numbers and lines -/

/-- Quarter units are the nearest to U_raw / 4096, halves away from zero, and odd in U_raw; a saturated
quarter count is spread so that the four phases sum to it, each value in −127..+127 and within one unit,
the two dither orders differing at a half alone; so every correction value lies in −127..+127. Of a count
4 × H + f the phases that carry H + 1 are the first f, or, interleaved with f = 2, phases 0 and 2. A value
is formed so from the coupled sum: over every other bay, its coefficient times its torque at the sample
less the delay, then negated and multiplied by the gain, spread at the phase of the sample. The torque of
a bay is that of its records from now on, saturated, its history's in the 71 samples before, and 0
earlier; a record's is its profile value from its launch sample on, and 0 while POSTED. -/
def Obligations.CorrectionsCarryQuarterUnits : Prop :=
  (∀ u : Int, 2 * (4096 * quarterUnits u - u).natAbs ≤ 4096
      ∧ (2 * (4096 * quarterUnits u - u).natAbs = 4096 → u.natAbs < (4096 * quarterUnits u).natAbs)
      ∧ quarterUnits (-u) = -quarterUnits u)
    ∧ (∀ (o : Dither) (u : Int), -508 ≤ u → u ≤ 508 →
        spread o u 0 + spread o u 1 + spread o u 2 + spread o u 3 = u
        ∧ ∀ p, p < 4 → -127 ≤ spread o u p ∧ spread o u p ≤ 127
          ∧ (4 * spread o u p - u).natAbs < 4
          ∧ (u % 4 ≠ 2 → spread .sequential u p = spread .interleaved u p))
    ∧ (∀ (h : Int) (f p : Nat), f < 4 → p < 4 →
        spread .sequential (4 * h + f) p = (if p < f then h + 1 else h)
        ∧ spread .interleaved (4 * h + f) p
          = (if f = 2 then if p = 0 ∨ p = 2 then h + 1 else h else if p < f then h + 1 else h)
        ∧ (f = 2 → p = 1 ∨ p = 2 →
            spread .sequential (4 * h + f) p ≠ spread .interleaved (4 * h + f) p))
    ∧ (∀ (s : State) (b : Bay) (m : Sample),
        -127 ≤ s.correction b m ∧ s.correction b m ≤ 127
        ∧ let d : Int := (bays.map fun src => if src = b then 0
            else (s.coeff b src).c * s.torque src (m - BitVec.ofNat 32 (s.coeff b src).d)).sum
          s.correction b m = spread (s.setting b).dither
            (max (-508) (min 508 (quarterUnits (-(d * (s.setting b).gain))))) (m.toNat % 4))
    ∧ (∀ (s : State) (src : Bay) (m : Sample),
        ((s.now - m).toInt ≤ 0 → s.torque src m
          = max (-127) (min 127 ((s.liveSeeks src).map fun x => x.2.torqueAt m).sum))
        ∧ (∀ i : Fin 72, 1 ≤ i.val → (s.now - m).toInt = i.val →
            s.torque src m = (s.history.get src).get i)
        ∧ (72 ≤ (s.now - m).toInt → s.torque src m = 0))
    ∧ ∀ (r : Seek) (m : Sample),
        (r.state = .posted → r.torqueAt m = 0)
        ∧ (∀ l, r.launch = some l → r.state ≠ .posted →
            r.torqueAt m = r.valueAt (m - launchSample l).toInt)
        ∧ (∀ i : Int, i < 0 → r.valueAt i = 0)
        ∧ (∀ (i : Nat) (v : Int), (profileLevels r.segments)[i]? = some v → i < r.runEnd →
            r.valueAt i = v)
        ∧ (r.Compiled → ∀ i : Nat, r.runEnd + r.tailLen ≤ i → r.valueAt i = 0)

/-- The tail of a run: each value nearer to zero by its shifted magnitude, at least 1, with the sign of
the first; the first zero is not part of it; so it is shorter than the starting level's magnitude. -/
def Obligations.TailsDecayToZero : Prop :=
  ∀ (k : Nat) (v : Int), 1 ≤ k →
    (v = 0 → tailOf k v = [])
    ∧ (v ≠ 0 → (tailOf k v).length + 1 ≤ v.natAbs)
    ∧ (∀ (j : Nat) (x : Int), (v :: tailOf k v)[j]? = some x → x ≠ 0 →
        0 < x * v ∧
        (∀ y, (tailOf k v)[j]? = some y → y ≠ 0 ∧ y.natAbs = x.natAbs - max 1 (x.natAbs >>> k))
        ∧ ((tailOf k v)[j]? = none → x.natAbs = max 1 (x.natAbs >>> k)))

/-- What the check guards. A lane frame framed with its check is read back as its command, whichever it is
of the six; with another check it is a bad frame, and cut anywhere it is cut short; its characters, after
an idle line, bring exactly that command, unless the lane is ABSENT at one of them: then nothing. A
request framed with its check is read back as the command of its kind, or, with a wrong length, a bay of
16 or more or an unlisted kind, as the bad request it is, as is one with another check; cut anywhere it is
nothing. Each of the sixteen requests is written out field by field, and the check as its register; a
length above 40, a stop bit at the space level and two idle times before the check make their bad frames,
and what follows without two idle times brings nothing. That whole frames and requests are commands, and
how lines make them, is the model's choice (assumptions 11 and 19), as is the frame an ABSENT lane spoils
(assumption 23). -/
def Obligations.FramesAndRequestsReadBack : Prop :=
  (∀ (b : Bay) (kind : Byte) (payload : List Byte), payload.length ≤ 40 →
     laneFrameCommand b (framed 0x01#8 payload) = .hello b payload
     ∧ laneFrameCommand b (framed 0x02#8 payload) = .notice b payload
     ∧ laneFrameCommand b (framed 0x03#8 payload) = .commit b payload
     ∧ laneFrameCommand b (framed 0x04#8 payload) = .abort b payload
     ∧ laneFrameCommand b (framed 0x05#8 payload) = .residual b payload
     ∧ (kind = 0 ∨ 5 < kind.toNat →
         laneFrameCommand b (framed kind payload) = .unknownFrame b kind payload)
     ∧ (∀ check, check ≠ crc8 (kind :: BitVec.ofNat 8 payload.length :: payload) →
         laneFrameCommand b (kind :: BitVec.ofNat 8 payload.length :: payload ++ [check])
           = .badFrame b .checkMismatch)
     ∧ (∀ n, n < (framed kind payload).length →
         laneFrameCommand b ((framed kind payload).take n) = .badFrame b .cutShort)
     ∧ (∀ states : List LaneState, states.length = (framed kind payload).length →
         receiveLine b .waiting (states.zip ((framed kind payload).map fun x => .data x true))
           = if .absent ∈ states then [] else [laneFrameCommand b (framed kind payload)])
     ∧ readCharacter (characterBits kind) = .data kind true
     ∧ ∀ (x : LaneState) (len y : Byte) (more : List Byte), x ≠ .absent →
         let hear := fun (chars : List LineChar) => receiveLine b .waiting (chars.map fun ch => (x, ch))
         let good := fun (bytes : List Byte) => bytes.map fun z => LineChar.data z true
         hear (good (framed kind payload ++ more)) = [laneFrameCommand b (framed kind payload)]
         ∧ (40 < len.toNat → laneFrameCommand b (kind :: len :: more) = .badFrame b .lengthOver40
           ∧ hear (good (kind :: len :: more)) = [.badFrame b .lengthOver40])
         ∧ ∀ n, n < (framed kind payload).length →
           hear (good ((framed kind payload).take n) ++ .data y false :: good more)
             = [.badFrame b .stopBitSpace]
           ∧ (1 ≤ n → hear (good ((framed kind payload).take n) ++ [.idle, .idle])
             = [.badFrame b .cutShort]))
    ∧ (crc8 [] = 0xFF#8 ∧ ∀ (bytes : List Byte) (x : Byte), crc8 (bytes ++ [x])
        = (List.range 8).foldl (fun r _ => if r.getLsbD 7 then (r <<< 1) ^^^ 0x07#8 else r <<< 1)
            (crc8 bytes ^^^ x))
    ∧ (∀ (b : Bay) (x y burst lead gain lo hi shift rate deadband dither : Byte) (bytes : List Byte),
         let n : Byte := BitVec.ofNat 8 b.val
         let w : SettingFields :=
           { burst := burst, lead := lead, gain := gain, limit := hi ++ lo, shift := shift, rate := rate
             deadband := deadband, dither := dither }
         requestCommand (framed 0x20#8 [n]) = some (.settingRead b)
         ∧ requestCommand (framed 0x21#8
             [n, x, burst, lead, gain, lo, hi, shift, rate, deadband, dither])
           = some (if x.getLsbD 0 then .streamEnable b w else .streamDisable b w)
         ∧ requestCommand (framed 0x22#8 []) = some .hubRead
         ∧ requestCommand (framed 0x23#8 [lo, hi, x]) = some (.hubWrite (hi ++ lo) x)
         ∧ requestCommand (framed 0x24#8 []) = some .freeze
         ∧ requestCommand (framed 0x25#8 []) = some .thaw
         ∧ requestCommand (framed 0x26#8 [n]) = some (.peekRow b)
         ∧ (bytes.length = 32 → ∃ row,
             requestCommand (framed 0x27#8 (n :: bytes)) = some (.pokeRow b row)
             ∧ ∀ src : Bay, bytes[2 * src.val]? = some (row.get src).1
               ∧ bytes[2 * src.val + 1]? = some (row.get src).2)
         ∧ requestCommand (framed 0x28#8 [n]) = some (.activeRowRead b)
         ∧ requestCommand (framed 0x29#8 [n, x]) = some (.bayInspect b x)
         ∧ requestCommand (framed 0x2A#8 [n, x, y]) = some (.exposureRead b x y)
         ∧ requestCommand (framed 0x2B#8 []) = some .attentionRead
         ∧ requestCommand (framed 0x2C#8 [x]) = some (.attentionClear x)
         ∧ requestCommand (framed 0x2D#8 [x, y]) = some (.attentionConfigure x y)
         ∧ requestCommand (framed 0x2E#8 [n]) = some (.bayReset b)
         ∧ requestCommand (framed 0x2F#8 []) = some .hubReset)
    ∧ (∀ (k : RequestKind) (kind : Byte) (payload : List Byte), payload.length ≤ 40 →
         (payload.length = k.payloadLength → k.namesBay = true → ∀ b : Bay,
           payload.head? = some (BitVec.ofNat 8 b.val) →
           requestCommand (framed k.code payload) = some (requestFor k b payload))
         ∧ (payload.length = k.payloadLength → k.namesBay = false →
             requestCommand (framed k.code payload) = some (requestFor k 0 payload))
         ∧ (payload.length = k.payloadLength → k.namesBay = true → ∀ x : Byte, payload.head? = some x →
             16 ≤ x.toNat → requestCommand (framed k.code payload) = some (.badRequest (.badBay k)))
         ∧ (payload.length ≠ k.payloadLength →
             requestCommand (framed k.code payload) = some (.badRequest (.wrongLength k)))
         ∧ (kind.toNat < 0x20 ∨ 0x2F < kind.toNat →
             requestCommand (framed kind payload) = some (.badRequest .unknownKind))
         ∧ (∀ check, check ≠ crc8 (kind :: BitVec.ofNat 8 payload.length :: payload) →
             requestCommand (kind :: BitVec.ofNat 8 payload.length :: payload ++ [check])
               = some (.badRequest .checkMismatch))
         ∧ ∀ n, n < (framed kind payload).length → requestCommand ((framed kind payload).take n) = none)

/-! ## Laws that every step keeps -/

/-- Every law of Safety.lean holds right after reset. -/
def Obligations.ResetIsLawful : Prop :=
  TablesLawful State.reset ∧ AccumulatorsLawful State.reset ∧ EngineEager State.reset
    ∧ LaneStreamLawful State.reset ∧ TagsLawful State.reset ∧ TimeLawful State.reset
    ∧ RebuiltSetEmpty State.reset ∧ RevisionsRead State.reset ∧ WorkBounded State.reset
    ∧ SpacingLawful State.reset
    ∧ DeliveryListsLawful State.reset

/-- Every step keeps the coefficients of all three tables and the accumulators in their ranges. -/
def Obligations.StepKeepsTablesAndAccumulators : Prop :=
  ∀ s t : State, step s = .next t →
    (TablesLawful s → TablesLawful t) ∧ (AccumulatorsLawful s → AccumulatorsLawful t)

/-- Every step keeps the queue exactly the POSTED seeks, the engine at work on one of them, and, with the
engine IDLE and no rebuild in progress, every entry held. -/
def Obligations.StepKeepsAdmission : Prop :=
  ∀ s t : State, step s = .next t →
    (QueueLawful s → QueueLawful t) ∧ (EngineEager s → EngineEager t)

/-- Every step keeps the laws of the lanes and the streams. -/
def Obligations.StepKeepsLanesAndStreams : Prop :=
  ∀ s t : State, step s = .next t → LaneStreamLawful s → LaneStreamLawful t

/-- Every step keeps the setting records, the clock and the epoch counter in their ranges, REBUILT's set
empty, every revision with its values (assumption 15), a rebuild, a burst and a revision within their
bounds as assumption 5 has it, a part whose reset is held at its reset values
(assumption 1), and the tags of a bay's live seeks distinct from one another and from the last-expired
tag. -/
def Obligations.StepKeepsRecordsAndTags : Prop :=
  (∀ s t : State, step s = .next t →
     (SettingsLawful s → SettingsLawful t) ∧ (TimeLawful s → TimeLawful t)
     ∧ (RebuiltSetEmpty s → RebuiltSetEmpty t) ∧ (RevisionsRead s → RevisionsRead t)
     ∧ (WorkBounded s → WorkBounded t)
     ∧ (HeldAtReset s → HeldAtReset t))
    ∧ (∀ s t : State, step s = .next t → TagsLawful s → TagsLawful t)

/-- Every step keeps the exposure table in agreement with the calendar whenever no rebuild is in progress,
with the laws of the records and of the search that this rests on. The search's bound of eight boundaries
is kept as assumption 5 keeps it. -/
def Obligations.StepKeepsTheCalendar : Prop :=
  ∀ s t : State, step s = .next t → CalendarLawful s → CalendarLawful t

/-- Every step keeps the runs of one bay's granted seeks apart, as long as no POSTED seek has waited a
quarter of the range of slot numbers (assumptions 5 and 14). -/
def Obligations.StepKeepsRunsApart : Prop :=
  ∀ s t : State, step s = .next t → Fresh s → SpacingLawful s → SpacingLawful t

/-- Every step keeps each delivery list a run of consecutive bursts of at most 17 records, none held past
its last sample, that ends with the burst of the latest burst boundary. A burst completes by the
boundary after its own as assumption 5 has it. -/
def Obligations.StepKeepsDeliveryLists : Prop :=
  ∀ s t : State, step s = .next t → DeliveryListsLawful s → DeliveryListsLawful t

/-! ## Overflow inside a rule -/

/-- A frame handed to a READY lane's queue of 32 frames is lost, the rule's other steps are taken all the
same, and then the lane goes to FAULT and its bay is released (assumption 13): the completion of a search,
of a burst and of a revision, a reply to COMMIT, a HELLO on a lane not yet READY, a disable, and the
expiry that is the first duty of its slot start. What the other steps did to the bay itself its release
takes back; what they did elsewhere stays. That the released seeks' forecast changes go in the order of
their positions, and that the search that follows comes after every other step, is the model's choice too
(assumptions 21 and 12). -/
def Obligations.OverflowTakesTheOtherSteps : Prop :=
  (∀ (s : State) (sr : Search) (r : Seek) (c : Slot) (o : Bool),
     s.engine = some sr → s.seekAt sr.bay sr.pos = some r → chooseSlot sr = some (c, o) →
     atOrBefore (s.slot + 2) c = true → (s.lane sr.bay).state = .ready →
     (s.lane sr.bay).queue.length = 32 → QueueLawful s →
     let late := earlier r.latest c
     let g : Seek := { r with
       state := if r.auto then .committed else .granted
       launch := some c
       markers := some ⟨o, late⟩ }
     ∃ u t, exec .searchComplete s = .next t ∧ LaneFaulted sr.bay u t
       ∧ exec .searchStart (((u.setQueue (s.queue.filter fun e =>
           (e.bay, e.pos) ≠ (sr.bay, sr.pos))).setEngine none)) = .next u
       ∧ u = ((((((s.putSeek sr.bay sr.pos (some g)).setExposure u.exposure).setQueue u.queue).setEngine
           u.engine).setStreams (forecastChange sr.bay (launchSample c)
             (launchSample c + BitVec.ofNat 32 (r.runEnd + r.tailLen) - 1) s).streams).setAttention
           (if o || late then
             { s.attention with
               pending := s.attention.pending ||| 0x08#8
               sets := s.attention.sets.upd Cause.forcedGrant.bit
                 (s.attention.sets.get Cause.forcedGrant.bit ||| BitVec.twoPow 16 sr.bay.val) }
           else s.attention))
       ∧ ∀ (b : Bay) (p : Fin 64), u.exposureAt b p =
           if s.rebuild.isSome then s.exposureAt b p
           else s.exposureAt b p + s.loadOn sr.bay g b (slotAt s.slot p))
    ∧ (∀ (s : State) (b : Bay), (s.lane b).state = .ready → (s.lane b).queue.length = 32 →
         QueueLawful s →
         ((s.stream b).burst ≠ none →
           ∃ t, exec (.burstComplete b) s = .next t ∧ LaneFaulted b s t)
         ∧ (∀ v ∈ (s.stream b).revisions,
             ∃ t, exec (.revisionComplete b v.record) s = .next t ∧ LaneFaulted b s t)
         ∧ (∀ x : Byte, ∃ t, exec (.commit b [x]) s = .next t ∧ LaneFaulted b s t)
         ∧ (∀ w : SettingFields, s.portTakes = true →
             let x : Setting := { takeSetting true w with enable := false }
             let old := s.setting b
             let v := ((s.setSettings (s.settings.upd b x)).setAcc
                 (if x.rate = old.rate then s.acc else s.acc.upd b (Tab.fill 16 0))).setPort
               (s.port.answer 0xA1#8 (0x00#8 :: BitVec.ofNat 8 b.val :: x.bytes))
             x.burst = old.burst → x.lead = old.lead →
             ((s.stream b).state = .starting
                 ∨ (s.stream b).state = .running ∧ (s.stream b).delivery ≠ [] →
               ∃ t, exec (.streamDisable b w) s = .next t
                 ∧ LaneFaulted b (v.putStream b { s.stream b with
                     burstLen := effectiveBurst x (s.lane b).caps
                     lead := effectiveStreamLead x (s.lane b).caps }) t)
             ∧ ((s.stream b).state = .running → (s.stream b).delivery = [] →
               ∃ t, exec (.streamDisable b w) s = .next t
                 ∧ LaneFaulted b ((v.putStream b { s.stream b with
                     burstLen := effectiveBurst x (s.lane b).caps
                     lead := effectiveStreamLead x (s.lane b).caps }).setAttention
                   { s.attention with
                     pending := s.attention.pending ||| 0x20#8
                     sets := s.attention.sets.upd Cause.streamStopped.bit
                       (s.attention.sets.get Cause.streamStopped.bit
                         ||| BitVec.twoPow 16 b.val) }) t)))
    ∧ (∀ (s : State) (b : Bay) (mb ml i0 i1 i2 i3 : Byte),
         (s.lane b).state = .detected ∨ (s.lane b).state = .fault →
         (s.lane b).queue.length = 32 → QueueLawful s →
         let caps : Caps :=
           { protocol := 1, maxBurst := if mb = 8 then 8 else 4, maxLead := max 8 (min 64 ml.toNat)
             identity := i3 ++ i2 ++ i1 ++ i0 }
         ∃ t, exec (.hello b [1, mb, ml, i0, i1, i2, i3]) s = .next t
           ∧ LaneFaulted b ((s.putLane b { s.lane b with
               state := .ready, caps := some caps }).putStream b { s.stream b with
               burstLen := if (s.setting b).burst = 8 ∧ mb = 8 then 8 else 4
               lead := min (s.setting b).lead caps.maxLead }) t)
    ∧ ∀ (s : State) (order : List Duty) (b : Bay) (p : Pos) (r : Seek),
         s.pins.resetHeld = false → NothingOverdue s → s.slotStartNext = true →
         (s.lane b).state = .ready → (s.lane b).queue.length = 32 →
         s.seekAt b p = some r → r.state = .granted → r.launch = some (slotOf (s.now + 1)) →
         (∀ q x, q ≠ p → s.seekAt b q = some x → x.launch ≠ some (slotOf (s.now + 1))) →
         ∃ t, exec (.slotStart (.seek b :: order)) s = .next t
           ∧ t.lane b = { s.lane b with
               state := .fault, bad := 0, queue := [], lastExpired := none }
           ∧ (∀ q, t.seekAt b q = none)
           ∧ ((t.stream b).state = .off ∧ (t.stream b).delivery = [] ∧ (t.stream b).coverage = none
             ∧ (t.stream b).burst = none ∧ (t.stream b).revisions = [])
           ∧ (t.attention.pending.getLsbD 4 = true
             ∧ (t.attention.sets.get Cause.expiry.bit).getLsbD b.val = true)
           ∧ t.attention.pending.getLsbD 2 = true
           ∧ (t.attention.sets.get Cause.laneFault.bit).getLsbD b.val = true
end

