-- ==== Sys2Proof/Laws/State.lean ====
section
/-! SUPPORT. What each field update of the state does to each field, true by rfl. -/

namespace Sys2Proof.Machine.State

/-! ## `setTime` -/

section

variable (s : State) (x y : TimeBase)

@[simp] theorem setTime_time : (s.setTime x).time = x := rfl
@[simp] theorem setTime_lanes : (s.setTime x).lanes = s.lanes := rfl
@[simp] theorem setTime_receivers : (s.setTime x).receivers = s.receivers := rfl
@[simp] theorem setTime_seeks : (s.setTime x).seeks = s.seeks := rfl
@[simp] theorem setTime_history : (s.setTime x).history = s.history := rfl
@[simp] theorem setTime_exposure : (s.setTime x).exposure = s.exposure := rfl
@[simp] theorem setTime_rebuild : (s.setTime x).rebuild = s.rebuild := rfl
@[simp] theorem setTime_queue : (s.setTime x).queue = s.queue := rfl
@[simp] theorem setTime_engine : (s.setTime x).engine = s.engine := rfl
@[simp] theorem setTime_streams : (s.setTime x).streams = s.streams := rfl
@[simp] theorem setTime_settings : (s.setTime x).settings = s.settings := rfl
@[simp] theorem setTime_store : (s.setTime x).store = s.store := rfl
@[simp] theorem setTime_acc : (s.setTime x).acc = s.acc := rfl
@[simp] theorem setTime_attention : (s.setTime x).attention = s.attention := rfl
@[simp] theorem setTime_port : (s.setTime x).port = s.port := rfl
@[simp] theorem setTime_pins : (s.setTime x).pins = s.pins := rfl
@[simp] theorem setTime_pending : (s.setTime x).pending = s.pending := rfl
@[simp] theorem setTime_twice : (s.setTime x).setTime y = s.setTime y := rfl
@[simp] theorem setTime_same : s.setTime s.time = s := rfl

end

/-! ## `setLanes` -/

section

variable (s : State) (x y : Tab 16 Lane)

@[simp] theorem setLanes_time : (s.setLanes x).time = s.time := rfl
@[simp] theorem setLanes_lanes : (s.setLanes x).lanes = x := rfl
@[simp] theorem setLanes_receivers : (s.setLanes x).receivers = s.receivers := rfl
@[simp] theorem setLanes_seeks : (s.setLanes x).seeks = s.seeks := rfl
@[simp] theorem setLanes_history : (s.setLanes x).history = s.history := rfl
@[simp] theorem setLanes_exposure : (s.setLanes x).exposure = s.exposure := rfl
@[simp] theorem setLanes_rebuild : (s.setLanes x).rebuild = s.rebuild := rfl
@[simp] theorem setLanes_queue : (s.setLanes x).queue = s.queue := rfl
@[simp] theorem setLanes_engine : (s.setLanes x).engine = s.engine := rfl
@[simp] theorem setLanes_streams : (s.setLanes x).streams = s.streams := rfl
@[simp] theorem setLanes_settings : (s.setLanes x).settings = s.settings := rfl
@[simp] theorem setLanes_store : (s.setLanes x).store = s.store := rfl
@[simp] theorem setLanes_acc : (s.setLanes x).acc = s.acc := rfl
@[simp] theorem setLanes_attention : (s.setLanes x).attention = s.attention := rfl
@[simp] theorem setLanes_port : (s.setLanes x).port = s.port := rfl
@[simp] theorem setLanes_pins : (s.setLanes x).pins = s.pins := rfl
@[simp] theorem setLanes_pending : (s.setLanes x).pending = s.pending := rfl
@[simp] theorem setLanes_twice : (s.setLanes x).setLanes y = s.setLanes y := rfl
@[simp] theorem setLanes_same : s.setLanes s.lanes = s := rfl

end

/-! ## `setReceivers` -/

section

variable (s : State) (x y : Tab 16 Receiver)

@[simp] theorem setReceivers_time : (s.setReceivers x).time = s.time := rfl
@[simp] theorem setReceivers_lanes : (s.setReceivers x).lanes = s.lanes := rfl
@[simp] theorem setReceivers_receivers : (s.setReceivers x).receivers = x := rfl
@[simp] theorem setReceivers_seeks : (s.setReceivers x).seeks = s.seeks := rfl
@[simp] theorem setReceivers_history : (s.setReceivers x).history = s.history := rfl
@[simp] theorem setReceivers_exposure : (s.setReceivers x).exposure = s.exposure := rfl
@[simp] theorem setReceivers_rebuild : (s.setReceivers x).rebuild = s.rebuild := rfl
@[simp] theorem setReceivers_queue : (s.setReceivers x).queue = s.queue := rfl
@[simp] theorem setReceivers_engine : (s.setReceivers x).engine = s.engine := rfl
@[simp] theorem setReceivers_streams : (s.setReceivers x).streams = s.streams := rfl
@[simp] theorem setReceivers_settings : (s.setReceivers x).settings = s.settings := rfl
@[simp] theorem setReceivers_store : (s.setReceivers x).store = s.store := rfl
@[simp] theorem setReceivers_acc : (s.setReceivers x).acc = s.acc := rfl
@[simp] theorem setReceivers_attention : (s.setReceivers x).attention = s.attention := rfl
@[simp] theorem setReceivers_port : (s.setReceivers x).port = s.port := rfl
@[simp] theorem setReceivers_pins : (s.setReceivers x).pins = s.pins := rfl
@[simp] theorem setReceivers_pending : (s.setReceivers x).pending = s.pending := rfl
@[simp] theorem setReceivers_twice : (s.setReceivers x).setReceivers y = s.setReceivers y := rfl
@[simp] theorem setReceivers_same : s.setReceivers s.receivers = s := rfl

end

/-! ## `setSeeks` -/

section

variable (s : State) (x y : Tab 16 (Tab 4 (Option Seek)))

@[simp] theorem setSeeks_time : (s.setSeeks x).time = s.time := rfl
@[simp] theorem setSeeks_lanes : (s.setSeeks x).lanes = s.lanes := rfl
@[simp] theorem setSeeks_receivers : (s.setSeeks x).receivers = s.receivers := rfl
@[simp] theorem setSeeks_seeks : (s.setSeeks x).seeks = x := rfl
@[simp] theorem setSeeks_history : (s.setSeeks x).history = s.history := rfl
@[simp] theorem setSeeks_exposure : (s.setSeeks x).exposure = s.exposure := rfl
@[simp] theorem setSeeks_rebuild : (s.setSeeks x).rebuild = s.rebuild := rfl
@[simp] theorem setSeeks_queue : (s.setSeeks x).queue = s.queue := rfl
@[simp] theorem setSeeks_engine : (s.setSeeks x).engine = s.engine := rfl
@[simp] theorem setSeeks_streams : (s.setSeeks x).streams = s.streams := rfl
@[simp] theorem setSeeks_settings : (s.setSeeks x).settings = s.settings := rfl
@[simp] theorem setSeeks_store : (s.setSeeks x).store = s.store := rfl
@[simp] theorem setSeeks_acc : (s.setSeeks x).acc = s.acc := rfl
@[simp] theorem setSeeks_attention : (s.setSeeks x).attention = s.attention := rfl
@[simp] theorem setSeeks_port : (s.setSeeks x).port = s.port := rfl
@[simp] theorem setSeeks_pins : (s.setSeeks x).pins = s.pins := rfl
@[simp] theorem setSeeks_pending : (s.setSeeks x).pending = s.pending := rfl
@[simp] theorem setSeeks_twice : (s.setSeeks x).setSeeks y = s.setSeeks y := rfl
@[simp] theorem setSeeks_same : s.setSeeks s.seeks = s := rfl

end

/-! ## `setHistory` -/

section

variable (s : State) (x y : Tab 16 (Tab 72 Int))

@[simp] theorem setHistory_time : (s.setHistory x).time = s.time := rfl
@[simp] theorem setHistory_lanes : (s.setHistory x).lanes = s.lanes := rfl
@[simp] theorem setHistory_receivers : (s.setHistory x).receivers = s.receivers := rfl
@[simp] theorem setHistory_seeks : (s.setHistory x).seeks = s.seeks := rfl
@[simp] theorem setHistory_history : (s.setHistory x).history = x := rfl
@[simp] theorem setHistory_exposure : (s.setHistory x).exposure = s.exposure := rfl
@[simp] theorem setHistory_rebuild : (s.setHistory x).rebuild = s.rebuild := rfl
@[simp] theorem setHistory_queue : (s.setHistory x).queue = s.queue := rfl
@[simp] theorem setHistory_engine : (s.setHistory x).engine = s.engine := rfl
@[simp] theorem setHistory_streams : (s.setHistory x).streams = s.streams := rfl
@[simp] theorem setHistory_settings : (s.setHistory x).settings = s.settings := rfl
@[simp] theorem setHistory_store : (s.setHistory x).store = s.store := rfl
@[simp] theorem setHistory_acc : (s.setHistory x).acc = s.acc := rfl
@[simp] theorem setHistory_attention : (s.setHistory x).attention = s.attention := rfl
@[simp] theorem setHistory_port : (s.setHistory x).port = s.port := rfl
@[simp] theorem setHistory_pins : (s.setHistory x).pins = s.pins := rfl
@[simp] theorem setHistory_pending : (s.setHistory x).pending = s.pending := rfl
@[simp] theorem setHistory_twice : (s.setHistory x).setHistory y = s.setHistory y := rfl
@[simp] theorem setHistory_same : s.setHistory s.history = s := rfl

end

/-! ## `setExposure` -/

section

variable (s : State) (x y : Tab 16 (Tab 64 Nat))

@[simp] theorem setExposure_time : (s.setExposure x).time = s.time := rfl
@[simp] theorem setExposure_lanes : (s.setExposure x).lanes = s.lanes := rfl
@[simp] theorem setExposure_receivers : (s.setExposure x).receivers = s.receivers := rfl
@[simp] theorem setExposure_seeks : (s.setExposure x).seeks = s.seeks := rfl
@[simp] theorem setExposure_history : (s.setExposure x).history = s.history := rfl
@[simp] theorem setExposure_exposure : (s.setExposure x).exposure = x := rfl
@[simp] theorem setExposure_rebuild : (s.setExposure x).rebuild = s.rebuild := rfl
@[simp] theorem setExposure_queue : (s.setExposure x).queue = s.queue := rfl
@[simp] theorem setExposure_engine : (s.setExposure x).engine = s.engine := rfl
@[simp] theorem setExposure_streams : (s.setExposure x).streams = s.streams := rfl
@[simp] theorem setExposure_settings : (s.setExposure x).settings = s.settings := rfl
@[simp] theorem setExposure_store : (s.setExposure x).store = s.store := rfl
@[simp] theorem setExposure_acc : (s.setExposure x).acc = s.acc := rfl
@[simp] theorem setExposure_attention : (s.setExposure x).attention = s.attention := rfl
@[simp] theorem setExposure_port : (s.setExposure x).port = s.port := rfl
@[simp] theorem setExposure_pins : (s.setExposure x).pins = s.pins := rfl
@[simp] theorem setExposure_pending : (s.setExposure x).pending = s.pending := rfl
@[simp] theorem setExposure_twice : (s.setExposure x).setExposure y = s.setExposure y := rfl
@[simp] theorem setExposure_same : s.setExposure s.exposure = s := rfl

end

/-! ## `setRebuild` -/

section

variable (s : State) (x y : Option Sample)

@[simp] theorem setRebuild_time : (s.setRebuild x).time = s.time := rfl
@[simp] theorem setRebuild_lanes : (s.setRebuild x).lanes = s.lanes := rfl
@[simp] theorem setRebuild_receivers : (s.setRebuild x).receivers = s.receivers := rfl
@[simp] theorem setRebuild_seeks : (s.setRebuild x).seeks = s.seeks := rfl
@[simp] theorem setRebuild_history : (s.setRebuild x).history = s.history := rfl
@[simp] theorem setRebuild_exposure : (s.setRebuild x).exposure = s.exposure := rfl
@[simp] theorem setRebuild_rebuild : (s.setRebuild x).rebuild = x := rfl
@[simp] theorem setRebuild_queue : (s.setRebuild x).queue = s.queue := rfl
@[simp] theorem setRebuild_engine : (s.setRebuild x).engine = s.engine := rfl
@[simp] theorem setRebuild_streams : (s.setRebuild x).streams = s.streams := rfl
@[simp] theorem setRebuild_settings : (s.setRebuild x).settings = s.settings := rfl
@[simp] theorem setRebuild_store : (s.setRebuild x).store = s.store := rfl
@[simp] theorem setRebuild_acc : (s.setRebuild x).acc = s.acc := rfl
@[simp] theorem setRebuild_attention : (s.setRebuild x).attention = s.attention := rfl
@[simp] theorem setRebuild_port : (s.setRebuild x).port = s.port := rfl
@[simp] theorem setRebuild_pins : (s.setRebuild x).pins = s.pins := rfl
@[simp] theorem setRebuild_pending : (s.setRebuild x).pending = s.pending := rfl
@[simp] theorem setRebuild_twice : (s.setRebuild x).setRebuild y = s.setRebuild y := rfl
@[simp] theorem setRebuild_same : s.setRebuild s.rebuild = s := rfl

end

/-! ## `setQueue` -/

section

variable (s : State) (x y : List QueueEntry)

@[simp] theorem setQueue_time : (s.setQueue x).time = s.time := rfl
@[simp] theorem setQueue_lanes : (s.setQueue x).lanes = s.lanes := rfl
@[simp] theorem setQueue_receivers : (s.setQueue x).receivers = s.receivers := rfl
@[simp] theorem setQueue_seeks : (s.setQueue x).seeks = s.seeks := rfl
@[simp] theorem setQueue_history : (s.setQueue x).history = s.history := rfl
@[simp] theorem setQueue_exposure : (s.setQueue x).exposure = s.exposure := rfl
@[simp] theorem setQueue_rebuild : (s.setQueue x).rebuild = s.rebuild := rfl
@[simp] theorem setQueue_queue : (s.setQueue x).queue = x := rfl
@[simp] theorem setQueue_engine : (s.setQueue x).engine = s.engine := rfl
@[simp] theorem setQueue_streams : (s.setQueue x).streams = s.streams := rfl
@[simp] theorem setQueue_settings : (s.setQueue x).settings = s.settings := rfl
@[simp] theorem setQueue_store : (s.setQueue x).store = s.store := rfl
@[simp] theorem setQueue_acc : (s.setQueue x).acc = s.acc := rfl
@[simp] theorem setQueue_attention : (s.setQueue x).attention = s.attention := rfl
@[simp] theorem setQueue_port : (s.setQueue x).port = s.port := rfl
@[simp] theorem setQueue_pins : (s.setQueue x).pins = s.pins := rfl
@[simp] theorem setQueue_pending : (s.setQueue x).pending = s.pending := rfl
@[simp] theorem setQueue_twice : (s.setQueue x).setQueue y = s.setQueue y := rfl
@[simp] theorem setQueue_same : s.setQueue s.queue = s := rfl

end

/-! ## `setEngine` -/

section

variable (s : State) (x y : Option Search)

@[simp] theorem setEngine_time : (s.setEngine x).time = s.time := rfl
@[simp] theorem setEngine_lanes : (s.setEngine x).lanes = s.lanes := rfl
@[simp] theorem setEngine_receivers : (s.setEngine x).receivers = s.receivers := rfl
@[simp] theorem setEngine_seeks : (s.setEngine x).seeks = s.seeks := rfl
@[simp] theorem setEngine_history : (s.setEngine x).history = s.history := rfl
@[simp] theorem setEngine_exposure : (s.setEngine x).exposure = s.exposure := rfl
@[simp] theorem setEngine_rebuild : (s.setEngine x).rebuild = s.rebuild := rfl
@[simp] theorem setEngine_queue : (s.setEngine x).queue = s.queue := rfl
@[simp] theorem setEngine_engine : (s.setEngine x).engine = x := rfl
@[simp] theorem setEngine_streams : (s.setEngine x).streams = s.streams := rfl
@[simp] theorem setEngine_settings : (s.setEngine x).settings = s.settings := rfl
@[simp] theorem setEngine_store : (s.setEngine x).store = s.store := rfl
@[simp] theorem setEngine_acc : (s.setEngine x).acc = s.acc := rfl
@[simp] theorem setEngine_attention : (s.setEngine x).attention = s.attention := rfl
@[simp] theorem setEngine_port : (s.setEngine x).port = s.port := rfl
@[simp] theorem setEngine_pins : (s.setEngine x).pins = s.pins := rfl
@[simp] theorem setEngine_pending : (s.setEngine x).pending = s.pending := rfl
@[simp] theorem setEngine_twice : (s.setEngine x).setEngine y = s.setEngine y := rfl
@[simp] theorem setEngine_same : s.setEngine s.engine = s := rfl

end

/-! ## `setStreams` -/

section

variable (s : State) (x y : Tab 16 Stream)

@[simp] theorem setStreams_time : (s.setStreams x).time = s.time := rfl
@[simp] theorem setStreams_lanes : (s.setStreams x).lanes = s.lanes := rfl
@[simp] theorem setStreams_receivers : (s.setStreams x).receivers = s.receivers := rfl
@[simp] theorem setStreams_seeks : (s.setStreams x).seeks = s.seeks := rfl
@[simp] theorem setStreams_history : (s.setStreams x).history = s.history := rfl
@[simp] theorem setStreams_exposure : (s.setStreams x).exposure = s.exposure := rfl
@[simp] theorem setStreams_rebuild : (s.setStreams x).rebuild = s.rebuild := rfl
@[simp] theorem setStreams_queue : (s.setStreams x).queue = s.queue := rfl
@[simp] theorem setStreams_engine : (s.setStreams x).engine = s.engine := rfl
@[simp] theorem setStreams_streams : (s.setStreams x).streams = x := rfl
@[simp] theorem setStreams_settings : (s.setStreams x).settings = s.settings := rfl
@[simp] theorem setStreams_store : (s.setStreams x).store = s.store := rfl
@[simp] theorem setStreams_acc : (s.setStreams x).acc = s.acc := rfl
@[simp] theorem setStreams_attention : (s.setStreams x).attention = s.attention := rfl
@[simp] theorem setStreams_port : (s.setStreams x).port = s.port := rfl
@[simp] theorem setStreams_pins : (s.setStreams x).pins = s.pins := rfl
@[simp] theorem setStreams_pending : (s.setStreams x).pending = s.pending := rfl
@[simp] theorem setStreams_twice : (s.setStreams x).setStreams y = s.setStreams y := rfl
@[simp] theorem setStreams_same : s.setStreams s.streams = s := rfl

end

/-! ## `setSettings` -/

section

variable (s : State) (x y : Tab 16 Setting)

@[simp] theorem setSettings_time : (s.setSettings x).time = s.time := rfl
@[simp] theorem setSettings_lanes : (s.setSettings x).lanes = s.lanes := rfl
@[simp] theorem setSettings_receivers : (s.setSettings x).receivers = s.receivers := rfl
@[simp] theorem setSettings_seeks : (s.setSettings x).seeks = s.seeks := rfl
@[simp] theorem setSettings_history : (s.setSettings x).history = s.history := rfl
@[simp] theorem setSettings_exposure : (s.setSettings x).exposure = s.exposure := rfl
@[simp] theorem setSettings_rebuild : (s.setSettings x).rebuild = s.rebuild := rfl
@[simp] theorem setSettings_queue : (s.setSettings x).queue = s.queue := rfl
@[simp] theorem setSettings_engine : (s.setSettings x).engine = s.engine := rfl
@[simp] theorem setSettings_streams : (s.setSettings x).streams = s.streams := rfl
@[simp] theorem setSettings_settings : (s.setSettings x).settings = x := rfl
@[simp] theorem setSettings_store : (s.setSettings x).store = s.store := rfl
@[simp] theorem setSettings_acc : (s.setSettings x).acc = s.acc := rfl
@[simp] theorem setSettings_attention : (s.setSettings x).attention = s.attention := rfl
@[simp] theorem setSettings_port : (s.setSettings x).port = s.port := rfl
@[simp] theorem setSettings_pins : (s.setSettings x).pins = s.pins := rfl
@[simp] theorem setSettings_pending : (s.setSettings x).pending = s.pending := rfl
@[simp] theorem setSettings_twice : (s.setSettings x).setSettings y = s.setSettings y := rfl
@[simp] theorem setSettings_same : s.setSettings s.settings = s := rfl

end

/-! ## `setStore` -/

section

variable (s : State) (x y : Store)

@[simp] theorem setStore_time : (s.setStore x).time = s.time := rfl
@[simp] theorem setStore_lanes : (s.setStore x).lanes = s.lanes := rfl
@[simp] theorem setStore_receivers : (s.setStore x).receivers = s.receivers := rfl
@[simp] theorem setStore_seeks : (s.setStore x).seeks = s.seeks := rfl
@[simp] theorem setStore_history : (s.setStore x).history = s.history := rfl
@[simp] theorem setStore_exposure : (s.setStore x).exposure = s.exposure := rfl
@[simp] theorem setStore_rebuild : (s.setStore x).rebuild = s.rebuild := rfl
@[simp] theorem setStore_queue : (s.setStore x).queue = s.queue := rfl
@[simp] theorem setStore_engine : (s.setStore x).engine = s.engine := rfl
@[simp] theorem setStore_streams : (s.setStore x).streams = s.streams := rfl
@[simp] theorem setStore_settings : (s.setStore x).settings = s.settings := rfl
@[simp] theorem setStore_store : (s.setStore x).store = x := rfl
@[simp] theorem setStore_acc : (s.setStore x).acc = s.acc := rfl
@[simp] theorem setStore_attention : (s.setStore x).attention = s.attention := rfl
@[simp] theorem setStore_port : (s.setStore x).port = s.port := rfl
@[simp] theorem setStore_pins : (s.setStore x).pins = s.pins := rfl
@[simp] theorem setStore_pending : (s.setStore x).pending = s.pending := rfl
@[simp] theorem setStore_twice : (s.setStore x).setStore y = s.setStore y := rfl
@[simp] theorem setStore_same : s.setStore s.store = s := rfl

end

/-! ## `setAcc` -/

section

variable (s : State) (x y : Tab 16 (Tab 16 Int))

@[simp] theorem setAcc_time : (s.setAcc x).time = s.time := rfl
@[simp] theorem setAcc_lanes : (s.setAcc x).lanes = s.lanes := rfl
@[simp] theorem setAcc_receivers : (s.setAcc x).receivers = s.receivers := rfl
@[simp] theorem setAcc_seeks : (s.setAcc x).seeks = s.seeks := rfl
@[simp] theorem setAcc_history : (s.setAcc x).history = s.history := rfl
@[simp] theorem setAcc_exposure : (s.setAcc x).exposure = s.exposure := rfl
@[simp] theorem setAcc_rebuild : (s.setAcc x).rebuild = s.rebuild := rfl
@[simp] theorem setAcc_queue : (s.setAcc x).queue = s.queue := rfl
@[simp] theorem setAcc_engine : (s.setAcc x).engine = s.engine := rfl
@[simp] theorem setAcc_streams : (s.setAcc x).streams = s.streams := rfl
@[simp] theorem setAcc_settings : (s.setAcc x).settings = s.settings := rfl
@[simp] theorem setAcc_store : (s.setAcc x).store = s.store := rfl
@[simp] theorem setAcc_acc : (s.setAcc x).acc = x := rfl
@[simp] theorem setAcc_attention : (s.setAcc x).attention = s.attention := rfl
@[simp] theorem setAcc_port : (s.setAcc x).port = s.port := rfl
@[simp] theorem setAcc_pins : (s.setAcc x).pins = s.pins := rfl
@[simp] theorem setAcc_pending : (s.setAcc x).pending = s.pending := rfl
@[simp] theorem setAcc_twice : (s.setAcc x).setAcc y = s.setAcc y := rfl
@[simp] theorem setAcc_same : s.setAcc s.acc = s := rfl

end

/-! ## `setAttention` -/

section

variable (s : State) (x y : Attention)

@[simp] theorem setAttention_time : (s.setAttention x).time = s.time := rfl
@[simp] theorem setAttention_lanes : (s.setAttention x).lanes = s.lanes := rfl
@[simp] theorem setAttention_receivers : (s.setAttention x).receivers = s.receivers := rfl
@[simp] theorem setAttention_seeks : (s.setAttention x).seeks = s.seeks := rfl
@[simp] theorem setAttention_history : (s.setAttention x).history = s.history := rfl
@[simp] theorem setAttention_exposure : (s.setAttention x).exposure = s.exposure := rfl
@[simp] theorem setAttention_rebuild : (s.setAttention x).rebuild = s.rebuild := rfl
@[simp] theorem setAttention_queue : (s.setAttention x).queue = s.queue := rfl
@[simp] theorem setAttention_engine : (s.setAttention x).engine = s.engine := rfl
@[simp] theorem setAttention_streams : (s.setAttention x).streams = s.streams := rfl
@[simp] theorem setAttention_settings : (s.setAttention x).settings = s.settings := rfl
@[simp] theorem setAttention_store : (s.setAttention x).store = s.store := rfl
@[simp] theorem setAttention_acc : (s.setAttention x).acc = s.acc := rfl
@[simp] theorem setAttention_attention : (s.setAttention x).attention = x := rfl
@[simp] theorem setAttention_port : (s.setAttention x).port = s.port := rfl
@[simp] theorem setAttention_pins : (s.setAttention x).pins = s.pins := rfl
@[simp] theorem setAttention_pending : (s.setAttention x).pending = s.pending := rfl
@[simp] theorem setAttention_twice : (s.setAttention x).setAttention y = s.setAttention y := rfl
@[simp] theorem setAttention_same : s.setAttention s.attention = s := rfl

end

/-! ## `setPort` -/

section

variable (s : State) (x y : Port)

@[simp] theorem setPort_time : (s.setPort x).time = s.time := rfl
@[simp] theorem setPort_lanes : (s.setPort x).lanes = s.lanes := rfl
@[simp] theorem setPort_receivers : (s.setPort x).receivers = s.receivers := rfl
@[simp] theorem setPort_seeks : (s.setPort x).seeks = s.seeks := rfl
@[simp] theorem setPort_history : (s.setPort x).history = s.history := rfl
@[simp] theorem setPort_exposure : (s.setPort x).exposure = s.exposure := rfl
@[simp] theorem setPort_rebuild : (s.setPort x).rebuild = s.rebuild := rfl
@[simp] theorem setPort_queue : (s.setPort x).queue = s.queue := rfl
@[simp] theorem setPort_engine : (s.setPort x).engine = s.engine := rfl
@[simp] theorem setPort_streams : (s.setPort x).streams = s.streams := rfl
@[simp] theorem setPort_settings : (s.setPort x).settings = s.settings := rfl
@[simp] theorem setPort_store : (s.setPort x).store = s.store := rfl
@[simp] theorem setPort_acc : (s.setPort x).acc = s.acc := rfl
@[simp] theorem setPort_attention : (s.setPort x).attention = s.attention := rfl
@[simp] theorem setPort_port : (s.setPort x).port = x := rfl
@[simp] theorem setPort_pins : (s.setPort x).pins = s.pins := rfl
@[simp] theorem setPort_pending : (s.setPort x).pending = s.pending := rfl
@[simp] theorem setPort_twice : (s.setPort x).setPort y = s.setPort y := rfl
@[simp] theorem setPort_same : s.setPort s.port = s := rfl

end

/-! ## `setPins` -/

section

variable (s : State) (x y : Pins)

@[simp] theorem setPins_time : (s.setPins x).time = s.time := rfl
@[simp] theorem setPins_lanes : (s.setPins x).lanes = s.lanes := rfl
@[simp] theorem setPins_receivers : (s.setPins x).receivers = s.receivers := rfl
@[simp] theorem setPins_seeks : (s.setPins x).seeks = s.seeks := rfl
@[simp] theorem setPins_history : (s.setPins x).history = s.history := rfl
@[simp] theorem setPins_exposure : (s.setPins x).exposure = s.exposure := rfl
@[simp] theorem setPins_rebuild : (s.setPins x).rebuild = s.rebuild := rfl
@[simp] theorem setPins_queue : (s.setPins x).queue = s.queue := rfl
@[simp] theorem setPins_engine : (s.setPins x).engine = s.engine := rfl
@[simp] theorem setPins_streams : (s.setPins x).streams = s.streams := rfl
@[simp] theorem setPins_settings : (s.setPins x).settings = s.settings := rfl
@[simp] theorem setPins_store : (s.setPins x).store = s.store := rfl
@[simp] theorem setPins_acc : (s.setPins x).acc = s.acc := rfl
@[simp] theorem setPins_attention : (s.setPins x).attention = s.attention := rfl
@[simp] theorem setPins_port : (s.setPins x).port = s.port := rfl
@[simp] theorem setPins_pins : (s.setPins x).pins = x := rfl
@[simp] theorem setPins_pending : (s.setPins x).pending = s.pending := rfl
@[simp] theorem setPins_twice : (s.setPins x).setPins y = s.setPins y := rfl
@[simp] theorem setPins_same : s.setPins s.pins = s := rfl

end

/-! ## `setPending` -/

section

variable (s : State) (x y : List Instr)

@[simp] theorem setPending_time : (s.setPending x).time = s.time := rfl
@[simp] theorem setPending_lanes : (s.setPending x).lanes = s.lanes := rfl
@[simp] theorem setPending_receivers : (s.setPending x).receivers = s.receivers := rfl
@[simp] theorem setPending_seeks : (s.setPending x).seeks = s.seeks := rfl
@[simp] theorem setPending_history : (s.setPending x).history = s.history := rfl
@[simp] theorem setPending_exposure : (s.setPending x).exposure = s.exposure := rfl
@[simp] theorem setPending_rebuild : (s.setPending x).rebuild = s.rebuild := rfl
@[simp] theorem setPending_queue : (s.setPending x).queue = s.queue := rfl
@[simp] theorem setPending_engine : (s.setPending x).engine = s.engine := rfl
@[simp] theorem setPending_streams : (s.setPending x).streams = s.streams := rfl
@[simp] theorem setPending_settings : (s.setPending x).settings = s.settings := rfl
@[simp] theorem setPending_store : (s.setPending x).store = s.store := rfl
@[simp] theorem setPending_acc : (s.setPending x).acc = s.acc := rfl
@[simp] theorem setPending_attention : (s.setPending x).attention = s.attention := rfl
@[simp] theorem setPending_port : (s.setPending x).port = s.port := rfl
@[simp] theorem setPending_pins : (s.setPending x).pins = s.pins := rfl
@[simp] theorem setPending_pending : (s.setPending x).pending = x := rfl
@[simp] theorem setPending_twice : (s.setPending x).setPending y = s.setPending y := rfl
@[simp] theorem setPending_same : s.setPending s.pending = s := rfl

end

end Sys2Proof.Machine.State
end

