-- ==== Sys2Proof/Laws/Reads.lean ====
section
/-! SUPPORT. What the field updates and the one-bay updates leave of every derived reading: a reading is
unchanged by an update of a field it does not read. True by rfl. -/

namespace Sys2Proof.Machine.State

/-! ## `setTime` -/

@[simp] theorem setTime_lane (s : State) (x) (b : Bay) : (s.setTime x).lane b = s.lane b := rfl
@[simp] theorem setTime_isReady (s : State) (x) (b : Bay) : (s.setTime x).isReady b = s.isReady b := rfl
@[simp] theorem setTime_stream (s : State) (x) (b : Bay) : (s.setTime x).stream b = s.stream b := rfl
@[simp] theorem setTime_setting (s : State) (x) (b : Bay) : (s.setTime x).setting b = s.setting b := rfl
@[simp] theorem setTime_seekAt (s : State) (x) (b : Bay) (p : Pos) : (s.setTime x).seekAt b p = s.seekAt b p := rfl
@[simp] theorem setTime_liveSeeks (s : State) (x) (b : Bay) : (s.setTime x).liveSeeks b = s.liveSeeks b := rfl
@[simp] theorem setTime_coeff (s : State) (x) (b src : Bay) : (s.setTime x).coeff b src = s.coeff b src := rfl
@[simp] theorem setTime_exposureAt (s : State) (x) (b : Bay) (p : Fin 64) : (s.setTime x).exposureAt b p = s.exposureAt b p := rfl
@[simp] theorem setTime_accAt (s : State) (x) (b src : Bay) : (s.setTime x).accAt b src = s.accAt b src := rfl
@[simp] theorem setTime_workingAt (s : State) (x) (b src : Bay) : (s.setTime x).workingAt b src = s.workingAt b src := rfl
@[simp] theorem setTime_recordTorque (s : State) (x) (b : Bay) (m : Sample) : (s.setTime x).recordTorque b m = s.recordTorque b m := rfl
@[simp] theorem setTime_calendarLoad (s : State) (x) (b : Bay) (t : Slot) : (s.setTime x).calendarLoad b t = s.calendarLoad b t := rfl
@[simp] theorem setTime_portTakes (s : State) (x) : (s.setTime x).portTakes = s.portTakes := rfl

/-! ## `setLanes` -/

@[simp] theorem setLanes_now (s : State) (x) : (s.setLanes x).now = s.now := rfl
@[simp] theorem setLanes_slot (s : State) (x) : (s.setLanes x).slot = s.slot := rfl
@[simp] theorem setLanes_slotStartNext (s : State) (x) : (s.setLanes x).slotStartNext = s.slotStartNext := rfl
@[simp] theorem setLanes_stream (s : State) (x) (b : Bay) : (s.setLanes x).stream b = s.stream b := rfl
@[simp] theorem setLanes_setting (s : State) (x) (b : Bay) : (s.setLanes x).setting b = s.setting b := rfl
@[simp] theorem setLanes_seekAt (s : State) (x) (b : Bay) (p : Pos) : (s.setLanes x).seekAt b p = s.seekAt b p := rfl
@[simp] theorem setLanes_liveSeeks (s : State) (x) (b : Bay) : (s.setLanes x).liveSeeks b = s.liveSeeks b := rfl
@[simp] theorem setLanes_coeff (s : State) (x) (b src : Bay) : (s.setLanes x).coeff b src = s.coeff b src := rfl
@[simp] theorem setLanes_exposureAt (s : State) (x) (b : Bay) (p : Fin 64) : (s.setLanes x).exposureAt b p = s.exposureAt b p := rfl
@[simp] theorem setLanes_accAt (s : State) (x) (b src : Bay) : (s.setLanes x).accAt b src = s.accAt b src := rfl
@[simp] theorem setLanes_workingAt (s : State) (x) (b src : Bay) : (s.setLanes x).workingAt b src = s.workingAt b src := rfl
@[simp] theorem setLanes_recordTorque (s : State) (x) (b : Bay) (m : Sample) : (s.setLanes x).recordTorque b m = s.recordTorque b m := rfl
@[simp] theorem setLanes_torque (s : State) (x) (b : Bay) (m : Sample) : (s.setLanes x).torque b m = s.torque b m := rfl
@[simp] theorem setLanes_predict (s : State) (x) (b : Bay) (m : Sample) (n : Nat) : (s.setLanes x).predict b m n = s.predict b m n := rfl
@[simp] theorem setLanes_calendarLoad (s : State) (x) (b : Bay) (t : Slot) : (s.setLanes x).calendarLoad b t = s.calendarLoad b t := rfl
@[simp] theorem setLanes_portTakes (s : State) (x) : (s.setLanes x).portTakes = s.portTakes := rfl

/-! ## `setSeeks` -/

@[simp] theorem setSeeks_now (s : State) (x) : (s.setSeeks x).now = s.now := rfl
@[simp] theorem setSeeks_slot (s : State) (x) : (s.setSeeks x).slot = s.slot := rfl
@[simp] theorem setSeeks_slotStartNext (s : State) (x) : (s.setSeeks x).slotStartNext = s.slotStartNext := rfl
@[simp] theorem setSeeks_lane (s : State) (x) (b : Bay) : (s.setSeeks x).lane b = s.lane b := rfl
@[simp] theorem setSeeks_isReady (s : State) (x) (b : Bay) : (s.setSeeks x).isReady b = s.isReady b := rfl
@[simp] theorem setSeeks_stream (s : State) (x) (b : Bay) : (s.setSeeks x).stream b = s.stream b := rfl
@[simp] theorem setSeeks_setting (s : State) (x) (b : Bay) : (s.setSeeks x).setting b = s.setting b := rfl
@[simp] theorem setSeeks_coeff (s : State) (x) (b src : Bay) : (s.setSeeks x).coeff b src = s.coeff b src := rfl
@[simp] theorem setSeeks_exposureAt (s : State) (x) (b : Bay) (p : Fin 64) : (s.setSeeks x).exposureAt b p = s.exposureAt b p := rfl
@[simp] theorem setSeeks_accAt (s : State) (x) (b src : Bay) : (s.setSeeks x).accAt b src = s.accAt b src := rfl
@[simp] theorem setSeeks_workingAt (s : State) (x) (b src : Bay) : (s.setSeeks x).workingAt b src = s.workingAt b src := rfl
@[simp] theorem setSeeks_portTakes (s : State) (x) : (s.setSeeks x).portTakes = s.portTakes := rfl

/-! ## `setHistory` -/

@[simp] theorem setHistory_now (s : State) (x) : (s.setHistory x).now = s.now := rfl
@[simp] theorem setHistory_slot (s : State) (x) : (s.setHistory x).slot = s.slot := rfl
@[simp] theorem setHistory_slotStartNext (s : State) (x) : (s.setHistory x).slotStartNext = s.slotStartNext := rfl
@[simp] theorem setHistory_lane (s : State) (x) (b : Bay) : (s.setHistory x).lane b = s.lane b := rfl
@[simp] theorem setHistory_isReady (s : State) (x) (b : Bay) : (s.setHistory x).isReady b = s.isReady b := rfl
@[simp] theorem setHistory_stream (s : State) (x) (b : Bay) : (s.setHistory x).stream b = s.stream b := rfl
@[simp] theorem setHistory_setting (s : State) (x) (b : Bay) : (s.setHistory x).setting b = s.setting b := rfl
@[simp] theorem setHistory_seekAt (s : State) (x) (b : Bay) (p : Pos) : (s.setHistory x).seekAt b p = s.seekAt b p := rfl
@[simp] theorem setHistory_liveSeeks (s : State) (x) (b : Bay) : (s.setHistory x).liveSeeks b = s.liveSeeks b := rfl
@[simp] theorem setHistory_coeff (s : State) (x) (b src : Bay) : (s.setHistory x).coeff b src = s.coeff b src := rfl
@[simp] theorem setHistory_exposureAt (s : State) (x) (b : Bay) (p : Fin 64) : (s.setHistory x).exposureAt b p = s.exposureAt b p := rfl
@[simp] theorem setHistory_accAt (s : State) (x) (b src : Bay) : (s.setHistory x).accAt b src = s.accAt b src := rfl
@[simp] theorem setHistory_workingAt (s : State) (x) (b src : Bay) : (s.setHistory x).workingAt b src = s.workingAt b src := rfl
@[simp] theorem setHistory_recordTorque (s : State) (x) (b : Bay) (m : Sample) : (s.setHistory x).recordTorque b m = s.recordTorque b m := rfl
@[simp] theorem setHistory_calendarLoad (s : State) (x) (b : Bay) (t : Slot) : (s.setHistory x).calendarLoad b t = s.calendarLoad b t := rfl
@[simp] theorem setHistory_portTakes (s : State) (x) : (s.setHistory x).portTakes = s.portTakes := rfl

/-! ## `setExposure` -/

@[simp] theorem setExposure_now (s : State) (x) : (s.setExposure x).now = s.now := rfl
@[simp] theorem setExposure_slot (s : State) (x) : (s.setExposure x).slot = s.slot := rfl
@[simp] theorem setExposure_slotStartNext (s : State) (x) : (s.setExposure x).slotStartNext = s.slotStartNext := rfl
@[simp] theorem setExposure_lane (s : State) (x) (b : Bay) : (s.setExposure x).lane b = s.lane b := rfl
@[simp] theorem setExposure_isReady (s : State) (x) (b : Bay) : (s.setExposure x).isReady b = s.isReady b := rfl
@[simp] theorem setExposure_stream (s : State) (x) (b : Bay) : (s.setExposure x).stream b = s.stream b := rfl
@[simp] theorem setExposure_setting (s : State) (x) (b : Bay) : (s.setExposure x).setting b = s.setting b := rfl
@[simp] theorem setExposure_seekAt (s : State) (x) (b : Bay) (p : Pos) : (s.setExposure x).seekAt b p = s.seekAt b p := rfl
@[simp] theorem setExposure_liveSeeks (s : State) (x) (b : Bay) : (s.setExposure x).liveSeeks b = s.liveSeeks b := rfl
@[simp] theorem setExposure_coeff (s : State) (x) (b src : Bay) : (s.setExposure x).coeff b src = s.coeff b src := rfl
@[simp] theorem setExposure_accAt (s : State) (x) (b src : Bay) : (s.setExposure x).accAt b src = s.accAt b src := rfl
@[simp] theorem setExposure_workingAt (s : State) (x) (b src : Bay) : (s.setExposure x).workingAt b src = s.workingAt b src := rfl
@[simp] theorem setExposure_recordTorque (s : State) (x) (b : Bay) (m : Sample) : (s.setExposure x).recordTorque b m = s.recordTorque b m := rfl
@[simp] theorem setExposure_torque (s : State) (x) (b : Bay) (m : Sample) : (s.setExposure x).torque b m = s.torque b m := rfl
@[simp] theorem setExposure_predict (s : State) (x) (b : Bay) (m : Sample) (n : Nat) : (s.setExposure x).predict b m n = s.predict b m n := rfl
@[simp] theorem setExposure_calendarLoad (s : State) (x) (b : Bay) (t : Slot) : (s.setExposure x).calendarLoad b t = s.calendarLoad b t := rfl
@[simp] theorem setExposure_portTakes (s : State) (x) : (s.setExposure x).portTakes = s.portTakes := rfl

/-! ## `setRebuild` -/

@[simp] theorem setRebuild_now (s : State) (x) : (s.setRebuild x).now = s.now := rfl
@[simp] theorem setRebuild_slot (s : State) (x) : (s.setRebuild x).slot = s.slot := rfl
@[simp] theorem setRebuild_slotStartNext (s : State) (x) : (s.setRebuild x).slotStartNext = s.slotStartNext := rfl
@[simp] theorem setRebuild_lane (s : State) (x) (b : Bay) : (s.setRebuild x).lane b = s.lane b := rfl
@[simp] theorem setRebuild_isReady (s : State) (x) (b : Bay) : (s.setRebuild x).isReady b = s.isReady b := rfl
@[simp] theorem setRebuild_stream (s : State) (x) (b : Bay) : (s.setRebuild x).stream b = s.stream b := rfl
@[simp] theorem setRebuild_setting (s : State) (x) (b : Bay) : (s.setRebuild x).setting b = s.setting b := rfl
@[simp] theorem setRebuild_seekAt (s : State) (x) (b : Bay) (p : Pos) : (s.setRebuild x).seekAt b p = s.seekAt b p := rfl
@[simp] theorem setRebuild_liveSeeks (s : State) (x) (b : Bay) : (s.setRebuild x).liveSeeks b = s.liveSeeks b := rfl
@[simp] theorem setRebuild_coeff (s : State) (x) (b src : Bay) : (s.setRebuild x).coeff b src = s.coeff b src := rfl
@[simp] theorem setRebuild_exposureAt (s : State) (x) (b : Bay) (p : Fin 64) : (s.setRebuild x).exposureAt b p = s.exposureAt b p := rfl
@[simp] theorem setRebuild_accAt (s : State) (x) (b src : Bay) : (s.setRebuild x).accAt b src = s.accAt b src := rfl
@[simp] theorem setRebuild_workingAt (s : State) (x) (b src : Bay) : (s.setRebuild x).workingAt b src = s.workingAt b src := rfl
@[simp] theorem setRebuild_recordTorque (s : State) (x) (b : Bay) (m : Sample) : (s.setRebuild x).recordTorque b m = s.recordTorque b m := rfl
@[simp] theorem setRebuild_torque (s : State) (x) (b : Bay) (m : Sample) : (s.setRebuild x).torque b m = s.torque b m := rfl
@[simp] theorem setRebuild_predict (s : State) (x) (b : Bay) (m : Sample) (n : Nat) : (s.setRebuild x).predict b m n = s.predict b m n := rfl
@[simp] theorem setRebuild_calendarLoad (s : State) (x) (b : Bay) (t : Slot) : (s.setRebuild x).calendarLoad b t = s.calendarLoad b t := rfl
@[simp] theorem setRebuild_portTakes (s : State) (x) : (s.setRebuild x).portTakes = s.portTakes := rfl

/-! ## `setQueue` -/

@[simp] theorem setQueue_now (s : State) (x) : (s.setQueue x).now = s.now := rfl
@[simp] theorem setQueue_slot (s : State) (x) : (s.setQueue x).slot = s.slot := rfl
@[simp] theorem setQueue_slotStartNext (s : State) (x) : (s.setQueue x).slotStartNext = s.slotStartNext := rfl
@[simp] theorem setQueue_lane (s : State) (x) (b : Bay) : (s.setQueue x).lane b = s.lane b := rfl
@[simp] theorem setQueue_isReady (s : State) (x) (b : Bay) : (s.setQueue x).isReady b = s.isReady b := rfl
@[simp] theorem setQueue_stream (s : State) (x) (b : Bay) : (s.setQueue x).stream b = s.stream b := rfl
@[simp] theorem setQueue_setting (s : State) (x) (b : Bay) : (s.setQueue x).setting b = s.setting b := rfl
@[simp] theorem setQueue_seekAt (s : State) (x) (b : Bay) (p : Pos) : (s.setQueue x).seekAt b p = s.seekAt b p := rfl
@[simp] theorem setQueue_liveSeeks (s : State) (x) (b : Bay) : (s.setQueue x).liveSeeks b = s.liveSeeks b := rfl
@[simp] theorem setQueue_coeff (s : State) (x) (b src : Bay) : (s.setQueue x).coeff b src = s.coeff b src := rfl
@[simp] theorem setQueue_exposureAt (s : State) (x) (b : Bay) (p : Fin 64) : (s.setQueue x).exposureAt b p = s.exposureAt b p := rfl
@[simp] theorem setQueue_accAt (s : State) (x) (b src : Bay) : (s.setQueue x).accAt b src = s.accAt b src := rfl
@[simp] theorem setQueue_workingAt (s : State) (x) (b src : Bay) : (s.setQueue x).workingAt b src = s.workingAt b src := rfl
@[simp] theorem setQueue_recordTorque (s : State) (x) (b : Bay) (m : Sample) : (s.setQueue x).recordTorque b m = s.recordTorque b m := rfl
@[simp] theorem setQueue_torque (s : State) (x) (b : Bay) (m : Sample) : (s.setQueue x).torque b m = s.torque b m := rfl
@[simp] theorem setQueue_predict (s : State) (x) (b : Bay) (m : Sample) (n : Nat) : (s.setQueue x).predict b m n = s.predict b m n := rfl
@[simp] theorem setQueue_calendarLoad (s : State) (x) (b : Bay) (t : Slot) : (s.setQueue x).calendarLoad b t = s.calendarLoad b t := rfl
@[simp] theorem setQueue_portTakes (s : State) (x) : (s.setQueue x).portTakes = s.portTakes := rfl

/-! ## `setEngine` -/

@[simp] theorem setEngine_now (s : State) (x) : (s.setEngine x).now = s.now := rfl
@[simp] theorem setEngine_slot (s : State) (x) : (s.setEngine x).slot = s.slot := rfl
@[simp] theorem setEngine_slotStartNext (s : State) (x) : (s.setEngine x).slotStartNext = s.slotStartNext := rfl
@[simp] theorem setEngine_lane (s : State) (x) (b : Bay) : (s.setEngine x).lane b = s.lane b := rfl
@[simp] theorem setEngine_isReady (s : State) (x) (b : Bay) : (s.setEngine x).isReady b = s.isReady b := rfl
@[simp] theorem setEngine_stream (s : State) (x) (b : Bay) : (s.setEngine x).stream b = s.stream b := rfl
@[simp] theorem setEngine_setting (s : State) (x) (b : Bay) : (s.setEngine x).setting b = s.setting b := rfl
@[simp] theorem setEngine_seekAt (s : State) (x) (b : Bay) (p : Pos) : (s.setEngine x).seekAt b p = s.seekAt b p := rfl
@[simp] theorem setEngine_liveSeeks (s : State) (x) (b : Bay) : (s.setEngine x).liveSeeks b = s.liveSeeks b := rfl
@[simp] theorem setEngine_coeff (s : State) (x) (b src : Bay) : (s.setEngine x).coeff b src = s.coeff b src := rfl
@[simp] theorem setEngine_exposureAt (s : State) (x) (b : Bay) (p : Fin 64) : (s.setEngine x).exposureAt b p = s.exposureAt b p := rfl
@[simp] theorem setEngine_accAt (s : State) (x) (b src : Bay) : (s.setEngine x).accAt b src = s.accAt b src := rfl
@[simp] theorem setEngine_workingAt (s : State) (x) (b src : Bay) : (s.setEngine x).workingAt b src = s.workingAt b src := rfl
@[simp] theorem setEngine_recordTorque (s : State) (x) (b : Bay) (m : Sample) : (s.setEngine x).recordTorque b m = s.recordTorque b m := rfl
@[simp] theorem setEngine_torque (s : State) (x) (b : Bay) (m : Sample) : (s.setEngine x).torque b m = s.torque b m := rfl
@[simp] theorem setEngine_predict (s : State) (x) (b : Bay) (m : Sample) (n : Nat) : (s.setEngine x).predict b m n = s.predict b m n := rfl
@[simp] theorem setEngine_calendarLoad (s : State) (x) (b : Bay) (t : Slot) : (s.setEngine x).calendarLoad b t = s.calendarLoad b t := rfl
@[simp] theorem setEngine_portTakes (s : State) (x) : (s.setEngine x).portTakes = s.portTakes := rfl

/-! ## `setStreams` -/

@[simp] theorem setStreams_now (s : State) (x) : (s.setStreams x).now = s.now := rfl
@[simp] theorem setStreams_slot (s : State) (x) : (s.setStreams x).slot = s.slot := rfl
@[simp] theorem setStreams_slotStartNext (s : State) (x) : (s.setStreams x).slotStartNext = s.slotStartNext := rfl
@[simp] theorem setStreams_lane (s : State) (x) (b : Bay) : (s.setStreams x).lane b = s.lane b := rfl
@[simp] theorem setStreams_isReady (s : State) (x) (b : Bay) : (s.setStreams x).isReady b = s.isReady b := rfl
@[simp] theorem setStreams_setting (s : State) (x) (b : Bay) : (s.setStreams x).setting b = s.setting b := rfl
@[simp] theorem setStreams_seekAt (s : State) (x) (b : Bay) (p : Pos) : (s.setStreams x).seekAt b p = s.seekAt b p := rfl
@[simp] theorem setStreams_liveSeeks (s : State) (x) (b : Bay) : (s.setStreams x).liveSeeks b = s.liveSeeks b := rfl
@[simp] theorem setStreams_coeff (s : State) (x) (b src : Bay) : (s.setStreams x).coeff b src = s.coeff b src := rfl
@[simp] theorem setStreams_exposureAt (s : State) (x) (b : Bay) (p : Fin 64) : (s.setStreams x).exposureAt b p = s.exposureAt b p := rfl
@[simp] theorem setStreams_accAt (s : State) (x) (b src : Bay) : (s.setStreams x).accAt b src = s.accAt b src := rfl
@[simp] theorem setStreams_workingAt (s : State) (x) (b src : Bay) : (s.setStreams x).workingAt b src = s.workingAt b src := rfl
@[simp] theorem setStreams_recordTorque (s : State) (x) (b : Bay) (m : Sample) : (s.setStreams x).recordTorque b m = s.recordTorque b m := rfl
@[simp] theorem setStreams_torque (s : State) (x) (b : Bay) (m : Sample) : (s.setStreams x).torque b m = s.torque b m := rfl
@[simp] theorem setStreams_predict (s : State) (x) (b : Bay) (m : Sample) (n : Nat) : (s.setStreams x).predict b m n = s.predict b m n := rfl
@[simp] theorem setStreams_calendarLoad (s : State) (x) (b : Bay) (t : Slot) : (s.setStreams x).calendarLoad b t = s.calendarLoad b t := rfl
@[simp] theorem setStreams_portTakes (s : State) (x) : (s.setStreams x).portTakes = s.portTakes := rfl

/-! ## `setSettings` -/

@[simp] theorem setSettings_now (s : State) (x) : (s.setSettings x).now = s.now := rfl
@[simp] theorem setSettings_slot (s : State) (x) : (s.setSettings x).slot = s.slot := rfl
@[simp] theorem setSettings_slotStartNext (s : State) (x) : (s.setSettings x).slotStartNext = s.slotStartNext := rfl
@[simp] theorem setSettings_lane (s : State) (x) (b : Bay) : (s.setSettings x).lane b = s.lane b := rfl
@[simp] theorem setSettings_isReady (s : State) (x) (b : Bay) : (s.setSettings x).isReady b = s.isReady b := rfl
@[simp] theorem setSettings_stream (s : State) (x) (b : Bay) : (s.setSettings x).stream b = s.stream b := rfl
@[simp] theorem setSettings_seekAt (s : State) (x) (b : Bay) (p : Pos) : (s.setSettings x).seekAt b p = s.seekAt b p := rfl
@[simp] theorem setSettings_liveSeeks (s : State) (x) (b : Bay) : (s.setSettings x).liveSeeks b = s.liveSeeks b := rfl
@[simp] theorem setSettings_coeff (s : State) (x) (b src : Bay) : (s.setSettings x).coeff b src = s.coeff b src := rfl
@[simp] theorem setSettings_exposureAt (s : State) (x) (b : Bay) (p : Fin 64) : (s.setSettings x).exposureAt b p = s.exposureAt b p := rfl
@[simp] theorem setSettings_accAt (s : State) (x) (b src : Bay) : (s.setSettings x).accAt b src = s.accAt b src := rfl
@[simp] theorem setSettings_workingAt (s : State) (x) (b src : Bay) : (s.setSettings x).workingAt b src = s.workingAt b src := rfl
@[simp] theorem setSettings_recordTorque (s : State) (x) (b : Bay) (m : Sample) : (s.setSettings x).recordTorque b m = s.recordTorque b m := rfl
@[simp] theorem setSettings_torque (s : State) (x) (b : Bay) (m : Sample) : (s.setSettings x).torque b m = s.torque b m := rfl
@[simp] theorem setSettings_calendarLoad (s : State) (x) (b : Bay) (t : Slot) : (s.setSettings x).calendarLoad b t = s.calendarLoad b t := rfl
@[simp] theorem setSettings_portTakes (s : State) (x) : (s.setSettings x).portTakes = s.portTakes := rfl

/-! ## `setStore` -/

@[simp] theorem setStore_now (s : State) (x) : (s.setStore x).now = s.now := rfl
@[simp] theorem setStore_slot (s : State) (x) : (s.setStore x).slot = s.slot := rfl
@[simp] theorem setStore_slotStartNext (s : State) (x) : (s.setStore x).slotStartNext = s.slotStartNext := rfl
@[simp] theorem setStore_lane (s : State) (x) (b : Bay) : (s.setStore x).lane b = s.lane b := rfl
@[simp] theorem setStore_isReady (s : State) (x) (b : Bay) : (s.setStore x).isReady b = s.isReady b := rfl
@[simp] theorem setStore_stream (s : State) (x) (b : Bay) : (s.setStore x).stream b = s.stream b := rfl
@[simp] theorem setStore_setting (s : State) (x) (b : Bay) : (s.setStore x).setting b = s.setting b := rfl
@[simp] theorem setStore_seekAt (s : State) (x) (b : Bay) (p : Pos) : (s.setStore x).seekAt b p = s.seekAt b p := rfl
@[simp] theorem setStore_liveSeeks (s : State) (x) (b : Bay) : (s.setStore x).liveSeeks b = s.liveSeeks b := rfl
@[simp] theorem setStore_exposureAt (s : State) (x) (b : Bay) (p : Fin 64) : (s.setStore x).exposureAt b p = s.exposureAt b p := rfl
@[simp] theorem setStore_accAt (s : State) (x) (b src : Bay) : (s.setStore x).accAt b src = s.accAt b src := rfl
@[simp] theorem setStore_recordTorque (s : State) (x) (b : Bay) (m : Sample) : (s.setStore x).recordTorque b m = s.recordTorque b m := rfl
@[simp] theorem setStore_torque (s : State) (x) (b : Bay) (m : Sample) : (s.setStore x).torque b m = s.torque b m := rfl
@[simp] theorem setStore_portTakes (s : State) (x) : (s.setStore x).portTakes = s.portTakes := rfl

/-! ## `setAcc` -/

@[simp] theorem setAcc_now (s : State) (x) : (s.setAcc x).now = s.now := rfl
@[simp] theorem setAcc_slot (s : State) (x) : (s.setAcc x).slot = s.slot := rfl
@[simp] theorem setAcc_slotStartNext (s : State) (x) : (s.setAcc x).slotStartNext = s.slotStartNext := rfl
@[simp] theorem setAcc_lane (s : State) (x) (b : Bay) : (s.setAcc x).lane b = s.lane b := rfl
@[simp] theorem setAcc_isReady (s : State) (x) (b : Bay) : (s.setAcc x).isReady b = s.isReady b := rfl
@[simp] theorem setAcc_stream (s : State) (x) (b : Bay) : (s.setAcc x).stream b = s.stream b := rfl
@[simp] theorem setAcc_setting (s : State) (x) (b : Bay) : (s.setAcc x).setting b = s.setting b := rfl
@[simp] theorem setAcc_seekAt (s : State) (x) (b : Bay) (p : Pos) : (s.setAcc x).seekAt b p = s.seekAt b p := rfl
@[simp] theorem setAcc_liveSeeks (s : State) (x) (b : Bay) : (s.setAcc x).liveSeeks b = s.liveSeeks b := rfl
@[simp] theorem setAcc_coeff (s : State) (x) (b src : Bay) : (s.setAcc x).coeff b src = s.coeff b src := rfl
@[simp] theorem setAcc_exposureAt (s : State) (x) (b : Bay) (p : Fin 64) : (s.setAcc x).exposureAt b p = s.exposureAt b p := rfl
@[simp] theorem setAcc_workingAt (s : State) (x) (b src : Bay) : (s.setAcc x).workingAt b src = s.workingAt b src := rfl
@[simp] theorem setAcc_recordTorque (s : State) (x) (b : Bay) (m : Sample) : (s.setAcc x).recordTorque b m = s.recordTorque b m := rfl
@[simp] theorem setAcc_torque (s : State) (x) (b : Bay) (m : Sample) : (s.setAcc x).torque b m = s.torque b m := rfl
@[simp] theorem setAcc_predict (s : State) (x) (b : Bay) (m : Sample) (n : Nat) : (s.setAcc x).predict b m n = s.predict b m n := rfl
@[simp] theorem setAcc_calendarLoad (s : State) (x) (b : Bay) (t : Slot) : (s.setAcc x).calendarLoad b t = s.calendarLoad b t := rfl
@[simp] theorem setAcc_portTakes (s : State) (x) : (s.setAcc x).portTakes = s.portTakes := rfl

/-! ## `setAttention` -/

@[simp] theorem setAttention_now (s : State) (x) : (s.setAttention x).now = s.now := rfl
@[simp] theorem setAttention_slot (s : State) (x) : (s.setAttention x).slot = s.slot := rfl
@[simp] theorem setAttention_slotStartNext (s : State) (x) : (s.setAttention x).slotStartNext = s.slotStartNext := rfl
@[simp] theorem setAttention_lane (s : State) (x) (b : Bay) : (s.setAttention x).lane b = s.lane b := rfl
@[simp] theorem setAttention_isReady (s : State) (x) (b : Bay) : (s.setAttention x).isReady b = s.isReady b := rfl
@[simp] theorem setAttention_stream (s : State) (x) (b : Bay) : (s.setAttention x).stream b = s.stream b := rfl
@[simp] theorem setAttention_setting (s : State) (x) (b : Bay) : (s.setAttention x).setting b = s.setting b := rfl
@[simp] theorem setAttention_seekAt (s : State) (x) (b : Bay) (p : Pos) : (s.setAttention x).seekAt b p = s.seekAt b p := rfl
@[simp] theorem setAttention_liveSeeks (s : State) (x) (b : Bay) : (s.setAttention x).liveSeeks b = s.liveSeeks b := rfl
@[simp] theorem setAttention_coeff (s : State) (x) (b src : Bay) : (s.setAttention x).coeff b src = s.coeff b src := rfl
@[simp] theorem setAttention_exposureAt (s : State) (x) (b : Bay) (p : Fin 64) : (s.setAttention x).exposureAt b p = s.exposureAt b p := rfl
@[simp] theorem setAttention_accAt (s : State) (x) (b src : Bay) : (s.setAttention x).accAt b src = s.accAt b src := rfl
@[simp] theorem setAttention_workingAt (s : State) (x) (b src : Bay) : (s.setAttention x).workingAt b src = s.workingAt b src := rfl
@[simp] theorem setAttention_recordTorque (s : State) (x) (b : Bay) (m : Sample) : (s.setAttention x).recordTorque b m = s.recordTorque b m := rfl
@[simp] theorem setAttention_torque (s : State) (x) (b : Bay) (m : Sample) : (s.setAttention x).torque b m = s.torque b m := rfl
@[simp] theorem setAttention_predict (s : State) (x) (b : Bay) (m : Sample) (n : Nat) : (s.setAttention x).predict b m n = s.predict b m n := rfl
@[simp] theorem setAttention_calendarLoad (s : State) (x) (b : Bay) (t : Slot) : (s.setAttention x).calendarLoad b t = s.calendarLoad b t := rfl
@[simp] theorem setAttention_portTakes (s : State) (x) : (s.setAttention x).portTakes = s.portTakes := rfl

/-! ## `setPort` -/

@[simp] theorem setPort_now (s : State) (x) : (s.setPort x).now = s.now := rfl
@[simp] theorem setPort_slot (s : State) (x) : (s.setPort x).slot = s.slot := rfl
@[simp] theorem setPort_slotStartNext (s : State) (x) : (s.setPort x).slotStartNext = s.slotStartNext := rfl
@[simp] theorem setPort_lane (s : State) (x) (b : Bay) : (s.setPort x).lane b = s.lane b := rfl
@[simp] theorem setPort_isReady (s : State) (x) (b : Bay) : (s.setPort x).isReady b = s.isReady b := rfl
@[simp] theorem setPort_stream (s : State) (x) (b : Bay) : (s.setPort x).stream b = s.stream b := rfl
@[simp] theorem setPort_setting (s : State) (x) (b : Bay) : (s.setPort x).setting b = s.setting b := rfl
@[simp] theorem setPort_seekAt (s : State) (x) (b : Bay) (p : Pos) : (s.setPort x).seekAt b p = s.seekAt b p := rfl
@[simp] theorem setPort_liveSeeks (s : State) (x) (b : Bay) : (s.setPort x).liveSeeks b = s.liveSeeks b := rfl
@[simp] theorem setPort_coeff (s : State) (x) (b src : Bay) : (s.setPort x).coeff b src = s.coeff b src := rfl
@[simp] theorem setPort_exposureAt (s : State) (x) (b : Bay) (p : Fin 64) : (s.setPort x).exposureAt b p = s.exposureAt b p := rfl
@[simp] theorem setPort_accAt (s : State) (x) (b src : Bay) : (s.setPort x).accAt b src = s.accAt b src := rfl
@[simp] theorem setPort_workingAt (s : State) (x) (b src : Bay) : (s.setPort x).workingAt b src = s.workingAt b src := rfl
@[simp] theorem setPort_recordTorque (s : State) (x) (b : Bay) (m : Sample) : (s.setPort x).recordTorque b m = s.recordTorque b m := rfl
@[simp] theorem setPort_torque (s : State) (x) (b : Bay) (m : Sample) : (s.setPort x).torque b m = s.torque b m := rfl
@[simp] theorem setPort_predict (s : State) (x) (b : Bay) (m : Sample) (n : Nat) : (s.setPort x).predict b m n = s.predict b m n := rfl
@[simp] theorem setPort_calendarLoad (s : State) (x) (b : Bay) (t : Slot) : (s.setPort x).calendarLoad b t = s.calendarLoad b t := rfl

/-! ## `setPins` -/

@[simp] theorem setPins_now (s : State) (x) : (s.setPins x).now = s.now := rfl
@[simp] theorem setPins_slot (s : State) (x) : (s.setPins x).slot = s.slot := rfl
@[simp] theorem setPins_slotStartNext (s : State) (x) : (s.setPins x).slotStartNext = s.slotStartNext := rfl
@[simp] theorem setPins_lane (s : State) (x) (b : Bay) : (s.setPins x).lane b = s.lane b := rfl
@[simp] theorem setPins_isReady (s : State) (x) (b : Bay) : (s.setPins x).isReady b = s.isReady b := rfl
@[simp] theorem setPins_stream (s : State) (x) (b : Bay) : (s.setPins x).stream b = s.stream b := rfl
@[simp] theorem setPins_setting (s : State) (x) (b : Bay) : (s.setPins x).setting b = s.setting b := rfl
@[simp] theorem setPins_seekAt (s : State) (x) (b : Bay) (p : Pos) : (s.setPins x).seekAt b p = s.seekAt b p := rfl
@[simp] theorem setPins_liveSeeks (s : State) (x) (b : Bay) : (s.setPins x).liveSeeks b = s.liveSeeks b := rfl
@[simp] theorem setPins_coeff (s : State) (x) (b src : Bay) : (s.setPins x).coeff b src = s.coeff b src := rfl
@[simp] theorem setPins_exposureAt (s : State) (x) (b : Bay) (p : Fin 64) : (s.setPins x).exposureAt b p = s.exposureAt b p := rfl
@[simp] theorem setPins_accAt (s : State) (x) (b src : Bay) : (s.setPins x).accAt b src = s.accAt b src := rfl
@[simp] theorem setPins_workingAt (s : State) (x) (b src : Bay) : (s.setPins x).workingAt b src = s.workingAt b src := rfl
@[simp] theorem setPins_recordTorque (s : State) (x) (b : Bay) (m : Sample) : (s.setPins x).recordTorque b m = s.recordTorque b m := rfl
@[simp] theorem setPins_torque (s : State) (x) (b : Bay) (m : Sample) : (s.setPins x).torque b m = s.torque b m := rfl
@[simp] theorem setPins_predict (s : State) (x) (b : Bay) (m : Sample) (n : Nat) : (s.setPins x).predict b m n = s.predict b m n := rfl
@[simp] theorem setPins_calendarLoad (s : State) (x) (b : Bay) (t : Slot) : (s.setPins x).calendarLoad b t = s.calendarLoad b t := rfl

/-! ## `setReceivers` -/

@[simp] theorem setReceivers_now (s : State) (x) : (s.setReceivers x).now = s.now := rfl
@[simp] theorem setReceivers_slot (s : State) (x) : (s.setReceivers x).slot = s.slot := rfl
@[simp] theorem setReceivers_slotStartNext (s : State) (x) : (s.setReceivers x).slotStartNext = s.slotStartNext := rfl
@[simp] theorem setReceivers_lane (s : State) (x) (b : Bay) : (s.setReceivers x).lane b = s.lane b := rfl
@[simp] theorem setReceivers_isReady (s : State) (x) (b : Bay) : (s.setReceivers x).isReady b = s.isReady b := rfl
@[simp] theorem setReceivers_stream (s : State) (x) (b : Bay) : (s.setReceivers x).stream b = s.stream b := rfl
@[simp] theorem setReceivers_setting (s : State) (x) (b : Bay) : (s.setReceivers x).setting b = s.setting b := rfl
@[simp] theorem setReceivers_seekAt (s : State) (x) (b : Bay) (p : Pos) : (s.setReceivers x).seekAt b p = s.seekAt b p := rfl
@[simp] theorem setReceivers_liveSeeks (s : State) (x) (b : Bay) : (s.setReceivers x).liveSeeks b = s.liveSeeks b := rfl
@[simp] theorem setReceivers_coeff (s : State) (x) (b src : Bay) : (s.setReceivers x).coeff b src = s.coeff b src := rfl
@[simp] theorem setReceivers_exposureAt (s : State) (x) (b : Bay) (p : Fin 64) : (s.setReceivers x).exposureAt b p = s.exposureAt b p := rfl
@[simp] theorem setReceivers_accAt (s : State) (x) (b src : Bay) : (s.setReceivers x).accAt b src = s.accAt b src := rfl
@[simp] theorem setReceivers_workingAt (s : State) (x) (b src : Bay) : (s.setReceivers x).workingAt b src = s.workingAt b src := rfl
@[simp] theorem setReceivers_recordTorque (s : State) (x) (b : Bay) (m : Sample) : (s.setReceivers x).recordTorque b m = s.recordTorque b m := rfl
@[simp] theorem setReceivers_torque (s : State) (x) (b : Bay) (m : Sample) : (s.setReceivers x).torque b m = s.torque b m := rfl
@[simp] theorem setReceivers_predict (s : State) (x) (b : Bay) (m : Sample) (n : Nat) : (s.setReceivers x).predict b m n = s.predict b m n := rfl
@[simp] theorem setReceivers_calendarLoad (s : State) (x) (b : Bay) (t : Slot) : (s.setReceivers x).calendarLoad b t = s.calendarLoad b t := rfl
@[simp] theorem setReceivers_portTakes (s : State) (x) : (s.setReceivers x).portTakes = s.portTakes := rfl

/-! ## `setPending` -/

@[simp] theorem setPending_now (s : State) (x) : (s.setPending x).now = s.now := rfl
@[simp] theorem setPending_slot (s : State) (x) : (s.setPending x).slot = s.slot := rfl
@[simp] theorem setPending_slotStartNext (s : State) (x) : (s.setPending x).slotStartNext = s.slotStartNext := rfl
@[simp] theorem setPending_lane (s : State) (x) (b : Bay) : (s.setPending x).lane b = s.lane b := rfl
@[simp] theorem setPending_isReady (s : State) (x) (b : Bay) : (s.setPending x).isReady b = s.isReady b := rfl
@[simp] theorem setPending_stream (s : State) (x) (b : Bay) : (s.setPending x).stream b = s.stream b := rfl
@[simp] theorem setPending_setting (s : State) (x) (b : Bay) : (s.setPending x).setting b = s.setting b := rfl
@[simp] theorem setPending_seekAt (s : State) (x) (b : Bay) (p : Pos) : (s.setPending x).seekAt b p = s.seekAt b p := rfl
@[simp] theorem setPending_liveSeeks (s : State) (x) (b : Bay) : (s.setPending x).liveSeeks b = s.liveSeeks b := rfl
@[simp] theorem setPending_coeff (s : State) (x) (b src : Bay) : (s.setPending x).coeff b src = s.coeff b src := rfl
@[simp] theorem setPending_exposureAt (s : State) (x) (b : Bay) (p : Fin 64) : (s.setPending x).exposureAt b p = s.exposureAt b p := rfl
@[simp] theorem setPending_accAt (s : State) (x) (b src : Bay) : (s.setPending x).accAt b src = s.accAt b src := rfl
@[simp] theorem setPending_workingAt (s : State) (x) (b src : Bay) : (s.setPending x).workingAt b src = s.workingAt b src := rfl
@[simp] theorem setPending_recordTorque (s : State) (x) (b : Bay) (m : Sample) : (s.setPending x).recordTorque b m = s.recordTorque b m := rfl
@[simp] theorem setPending_torque (s : State) (x) (b : Bay) (m : Sample) : (s.setPending x).torque b m = s.torque b m := rfl
@[simp] theorem setPending_predict (s : State) (x) (b : Bay) (m : Sample) (n : Nat) : (s.setPending x).predict b m n = s.predict b m n := rfl
@[simp] theorem setPending_calendarLoad (s : State) (x) (b : Bay) (t : Slot) : (s.setPending x).calendarLoad b t = s.calendarLoad b t := rfl
@[simp] theorem setPending_portTakes (s : State) (x) : (s.setPending x).portTakes = s.portTakes := rfl

/-! ## `putLane` -/

@[simp] theorem putLane_time (s : State) (c : Bay) (x : Lane) : (s.putLane c x).time = s.time := rfl
@[simp] theorem putLane_receivers (s : State) (c : Bay) (x : Lane) :
    (s.putLane c x).receivers = s.receivers := rfl
@[simp] theorem putLane_seeks (s : State) (c : Bay) (x : Lane) : (s.putLane c x).seeks = s.seeks := rfl
@[simp] theorem putLane_history (s : State) (c : Bay) (x : Lane) : (s.putLane c x).history = s.history := rfl
@[simp] theorem putLane_exposure (s : State) (c : Bay) (x : Lane) : (s.putLane c x).exposure = s.exposure := rfl
@[simp] theorem putLane_rebuild (s : State) (c : Bay) (x : Lane) : (s.putLane c x).rebuild = s.rebuild := rfl
@[simp] theorem putLane_queue (s : State) (c : Bay) (x : Lane) : (s.putLane c x).queue = s.queue := rfl
@[simp] theorem putLane_engine (s : State) (c : Bay) (x : Lane) : (s.putLane c x).engine = s.engine := rfl
@[simp] theorem putLane_streams (s : State) (c : Bay) (x : Lane) : (s.putLane c x).streams = s.streams := rfl
@[simp] theorem putLane_settings (s : State) (c : Bay) (x : Lane) : (s.putLane c x).settings = s.settings := rfl
@[simp] theorem putLane_store (s : State) (c : Bay) (x : Lane) : (s.putLane c x).store = s.store := rfl
@[simp] theorem putLane_acc (s : State) (c : Bay) (x : Lane) : (s.putLane c x).acc = s.acc := rfl
@[simp] theorem putLane_attention (s : State) (c : Bay) (x : Lane) : (s.putLane c x).attention = s.attention := rfl
@[simp] theorem putLane_port (s : State) (c : Bay) (x : Lane) : (s.putLane c x).port = s.port := rfl
@[simp] theorem putLane_pins (s : State) (c : Bay) (x : Lane) : (s.putLane c x).pins = s.pins := rfl
@[simp] theorem putLane_pending (s : State) (c : Bay) (x : Lane) : (s.putLane c x).pending = s.pending := rfl
@[simp] theorem putLane_now (s : State) (c : Bay) (x : Lane) :
    (s.putLane c x).now = s.now := rfl
@[simp] theorem putLane_slot (s : State) (c : Bay) (x : Lane) :
    (s.putLane c x).slot = s.slot := rfl
@[simp] theorem putLane_slotStartNext (s : State) (c : Bay) (x : Lane) :
    (s.putLane c x).slotStartNext = s.slotStartNext := rfl
@[simp] theorem putLane_stream (s : State) (c : Bay) (x : Lane) (b : Bay) :
    (s.putLane c x).stream b = s.stream b := rfl
@[simp] theorem putLane_setting (s : State) (c : Bay) (x : Lane) (b : Bay) :
    (s.putLane c x).setting b = s.setting b := rfl
@[simp] theorem putLane_seekAt (s : State) (c : Bay) (x : Lane) (b : Bay) (p : Pos) :
    (s.putLane c x).seekAt b p = s.seekAt b p := rfl
@[simp] theorem putLane_liveSeeks (s : State) (c : Bay) (x : Lane) (b : Bay) :
    (s.putLane c x).liveSeeks b = s.liveSeeks b := rfl
@[simp] theorem putLane_coeff (s : State) (c : Bay) (x : Lane) (b src : Bay) :
    (s.putLane c x).coeff b src = s.coeff b src := rfl
@[simp] theorem putLane_exposureAt (s : State) (c : Bay) (x : Lane) (b : Bay) (p : Fin 64) :
    (s.putLane c x).exposureAt b p = s.exposureAt b p := rfl
@[simp] theorem putLane_accAt (s : State) (c : Bay) (x : Lane) (b src : Bay) :
    (s.putLane c x).accAt b src = s.accAt b src := rfl
@[simp] theorem putLane_workingAt (s : State) (c : Bay) (x : Lane) (b src : Bay) :
    (s.putLane c x).workingAt b src = s.workingAt b src := rfl
@[simp] theorem putLane_recordTorque (s : State) (c : Bay) (x : Lane) (b : Bay) (m : Sample) :
    (s.putLane c x).recordTorque b m = s.recordTorque b m := rfl
@[simp] theorem putLane_torque (s : State) (c : Bay) (x : Lane) (b : Bay) (m : Sample) :
    (s.putLane c x).torque b m = s.torque b m := rfl
@[simp] theorem putLane_predict (s : State) (c : Bay) (x : Lane) (b : Bay) (m : Sample) (n : Nat) :
    (s.putLane c x).predict b m n = s.predict b m n := rfl
@[simp] theorem putLane_calendarLoad (s : State) (c : Bay) (x : Lane) (b : Bay) (t : Slot) :
    (s.putLane c x).calendarLoad b t = s.calendarLoad b t := rfl
@[simp] theorem putLane_portTakes (s : State) (c : Bay) (x : Lane) :
    (s.putLane c x).portTakes = s.portTakes := rfl

/-! ## `putStream` -/

@[simp] theorem putStream_time (s : State) (c : Bay) (x : Stream) : (s.putStream c x).time = s.time := rfl
@[simp] theorem putStream_receivers (s : State) (c : Bay) (x : Stream) :
    (s.putStream c x).receivers = s.receivers := rfl
@[simp] theorem putStream_lanes (s : State) (c : Bay) (x : Stream) : (s.putStream c x).lanes = s.lanes := rfl
@[simp] theorem putStream_seeks (s : State) (c : Bay) (x : Stream) : (s.putStream c x).seeks = s.seeks := rfl
@[simp] theorem putStream_history (s : State) (c : Bay) (x : Stream) : (s.putStream c x).history = s.history := rfl
@[simp] theorem putStream_exposure (s : State) (c : Bay) (x : Stream) : (s.putStream c x).exposure = s.exposure := rfl
@[simp] theorem putStream_rebuild (s : State) (c : Bay) (x : Stream) : (s.putStream c x).rebuild = s.rebuild := rfl
@[simp] theorem putStream_queue (s : State) (c : Bay) (x : Stream) : (s.putStream c x).queue = s.queue := rfl
@[simp] theorem putStream_engine (s : State) (c : Bay) (x : Stream) : (s.putStream c x).engine = s.engine := rfl
@[simp] theorem putStream_settings (s : State) (c : Bay) (x : Stream) : (s.putStream c x).settings = s.settings := rfl
@[simp] theorem putStream_store (s : State) (c : Bay) (x : Stream) : (s.putStream c x).store = s.store := rfl
@[simp] theorem putStream_acc (s : State) (c : Bay) (x : Stream) : (s.putStream c x).acc = s.acc := rfl
@[simp] theorem putStream_attention (s : State) (c : Bay) (x : Stream) : (s.putStream c x).attention = s.attention := rfl
@[simp] theorem putStream_port (s : State) (c : Bay) (x : Stream) : (s.putStream c x).port = s.port := rfl
@[simp] theorem putStream_pins (s : State) (c : Bay) (x : Stream) : (s.putStream c x).pins = s.pins := rfl
@[simp] theorem putStream_pending (s : State) (c : Bay) (x : Stream) : (s.putStream c x).pending = s.pending := rfl
@[simp] theorem putStream_now (s : State) (c : Bay) (x : Stream) :
    (s.putStream c x).now = s.now := rfl
@[simp] theorem putStream_slot (s : State) (c : Bay) (x : Stream) :
    (s.putStream c x).slot = s.slot := rfl
@[simp] theorem putStream_slotStartNext (s : State) (c : Bay) (x : Stream) :
    (s.putStream c x).slotStartNext = s.slotStartNext := rfl
@[simp] theorem putStream_lane (s : State) (c : Bay) (x : Stream) (b : Bay) :
    (s.putStream c x).lane b = s.lane b := rfl
@[simp] theorem putStream_isReady (s : State) (c : Bay) (x : Stream) (b : Bay) :
    (s.putStream c x).isReady b = s.isReady b := rfl
@[simp] theorem putStream_setting (s : State) (c : Bay) (x : Stream) (b : Bay) :
    (s.putStream c x).setting b = s.setting b := rfl
@[simp] theorem putStream_seekAt (s : State) (c : Bay) (x : Stream) (b : Bay) (p : Pos) :
    (s.putStream c x).seekAt b p = s.seekAt b p := rfl
@[simp] theorem putStream_liveSeeks (s : State) (c : Bay) (x : Stream) (b : Bay) :
    (s.putStream c x).liveSeeks b = s.liveSeeks b := rfl
@[simp] theorem putStream_coeff (s : State) (c : Bay) (x : Stream) (b src : Bay) :
    (s.putStream c x).coeff b src = s.coeff b src := rfl
@[simp] theorem putStream_exposureAt (s : State) (c : Bay) (x : Stream) (b : Bay) (p : Fin 64) :
    (s.putStream c x).exposureAt b p = s.exposureAt b p := rfl
@[simp] theorem putStream_accAt (s : State) (c : Bay) (x : Stream) (b src : Bay) :
    (s.putStream c x).accAt b src = s.accAt b src := rfl
@[simp] theorem putStream_workingAt (s : State) (c : Bay) (x : Stream) (b src : Bay) :
    (s.putStream c x).workingAt b src = s.workingAt b src := rfl
@[simp] theorem putStream_recordTorque (s : State) (c : Bay) (x : Stream) (b : Bay) (m : Sample) :
    (s.putStream c x).recordTorque b m = s.recordTorque b m := rfl
@[simp] theorem putStream_torque (s : State) (c : Bay) (x : Stream) (b : Bay) (m : Sample) :
    (s.putStream c x).torque b m = s.torque b m := rfl
@[simp] theorem putStream_predict (s : State) (c : Bay) (x : Stream) (b : Bay) (m : Sample) (n : Nat) :
    (s.putStream c x).predict b m n = s.predict b m n := rfl
@[simp] theorem putStream_calendarLoad (s : State) (c : Bay) (x : Stream) (b : Bay) (t : Slot) :
    (s.putStream c x).calendarLoad b t = s.calendarLoad b t := rfl
@[simp] theorem putStream_portTakes (s : State) (c : Bay) (x : Stream) :
    (s.putStream c x).portTakes = s.portTakes := rfl

/-! ## `putSeek` -/

@[simp] theorem putSeek_time (s : State) (c : Bay) (q : Pos) (x : Option Seek) : (s.putSeek c q x).time = s.time := rfl
@[simp] theorem putSeek_receivers (s : State) (c : Bay) (q : Pos) (x : Option Seek) :
    (s.putSeek c q x).receivers = s.receivers := rfl
@[simp] theorem putSeek_lanes (s : State) (c : Bay) (q : Pos) (x : Option Seek) : (s.putSeek c q x).lanes = s.lanes := rfl
@[simp] theorem putSeek_history (s : State) (c : Bay) (q : Pos) (x : Option Seek) : (s.putSeek c q x).history = s.history := rfl
@[simp] theorem putSeek_exposure (s : State) (c : Bay) (q : Pos) (x : Option Seek) : (s.putSeek c q x).exposure = s.exposure := rfl
@[simp] theorem putSeek_rebuild (s : State) (c : Bay) (q : Pos) (x : Option Seek) : (s.putSeek c q x).rebuild = s.rebuild := rfl
@[simp] theorem putSeek_queue (s : State) (c : Bay) (q : Pos) (x : Option Seek) : (s.putSeek c q x).queue = s.queue := rfl
@[simp] theorem putSeek_engine (s : State) (c : Bay) (q : Pos) (x : Option Seek) : (s.putSeek c q x).engine = s.engine := rfl
@[simp] theorem putSeek_streams (s : State) (c : Bay) (q : Pos) (x : Option Seek) : (s.putSeek c q x).streams = s.streams := rfl
@[simp] theorem putSeek_settings (s : State) (c : Bay) (q : Pos) (x : Option Seek) : (s.putSeek c q x).settings = s.settings := rfl
@[simp] theorem putSeek_store (s : State) (c : Bay) (q : Pos) (x : Option Seek) : (s.putSeek c q x).store = s.store := rfl
@[simp] theorem putSeek_acc (s : State) (c : Bay) (q : Pos) (x : Option Seek) : (s.putSeek c q x).acc = s.acc := rfl
@[simp] theorem putSeek_attention (s : State) (c : Bay) (q : Pos) (x : Option Seek) : (s.putSeek c q x).attention = s.attention := rfl
@[simp] theorem putSeek_port (s : State) (c : Bay) (q : Pos) (x : Option Seek) : (s.putSeek c q x).port = s.port := rfl
@[simp] theorem putSeek_pins (s : State) (c : Bay) (q : Pos) (x : Option Seek) : (s.putSeek c q x).pins = s.pins := rfl
@[simp] theorem putSeek_pending (s : State) (c : Bay) (q : Pos) (x : Option Seek) : (s.putSeek c q x).pending = s.pending := rfl
@[simp] theorem putSeek_now (s : State) (c : Bay) (q : Pos) (x : Option Seek) :
    (s.putSeek c q x).now = s.now := rfl
@[simp] theorem putSeek_slot (s : State) (c : Bay) (q : Pos) (x : Option Seek) :
    (s.putSeek c q x).slot = s.slot := rfl
@[simp] theorem putSeek_slotStartNext (s : State) (c : Bay) (q : Pos) (x : Option Seek) :
    (s.putSeek c q x).slotStartNext = s.slotStartNext := rfl
@[simp] theorem putSeek_lane (s : State) (c : Bay) (q : Pos) (x : Option Seek) (b : Bay) :
    (s.putSeek c q x).lane b = s.lane b := rfl
@[simp] theorem putSeek_isReady (s : State) (c : Bay) (q : Pos) (x : Option Seek) (b : Bay) :
    (s.putSeek c q x).isReady b = s.isReady b := rfl
@[simp] theorem putSeek_stream (s : State) (c : Bay) (q : Pos) (x : Option Seek) (b : Bay) :
    (s.putSeek c q x).stream b = s.stream b := rfl
@[simp] theorem putSeek_setting (s : State) (c : Bay) (q : Pos) (x : Option Seek) (b : Bay) :
    (s.putSeek c q x).setting b = s.setting b := rfl
@[simp] theorem putSeek_coeff (s : State) (c : Bay) (q : Pos) (x : Option Seek) (b src : Bay) :
    (s.putSeek c q x).coeff b src = s.coeff b src := rfl
@[simp] theorem putSeek_exposureAt (s : State) (c : Bay) (q : Pos) (x : Option Seek) (b : Bay) (p : Fin 64) :
    (s.putSeek c q x).exposureAt b p = s.exposureAt b p := rfl
@[simp] theorem putSeek_accAt (s : State) (c : Bay) (q : Pos) (x : Option Seek) (b src : Bay) :
    (s.putSeek c q x).accAt b src = s.accAt b src := rfl
@[simp] theorem putSeek_workingAt (s : State) (c : Bay) (q : Pos) (x : Option Seek) (b src : Bay) :
    (s.putSeek c q x).workingAt b src = s.workingAt b src := rfl
@[simp] theorem putSeek_portTakes (s : State) (c : Bay) (q : Pos) (x : Option Seek) :
    (s.putSeek c q x).portTakes = s.portTakes := rfl

/-! ## `putAcc` -/

@[simp] theorem putAcc_time (s : State) (c d : Bay) (x : Int) : (s.putAcc c d x).time = s.time := rfl
@[simp] theorem putAcc_receivers (s : State) (c d : Bay) (x : Int) :
    (s.putAcc c d x).receivers = s.receivers := rfl
@[simp] theorem putAcc_lanes (s : State) (c d : Bay) (x : Int) : (s.putAcc c d x).lanes = s.lanes := rfl
@[simp] theorem putAcc_seeks (s : State) (c d : Bay) (x : Int) : (s.putAcc c d x).seeks = s.seeks := rfl
@[simp] theorem putAcc_history (s : State) (c d : Bay) (x : Int) : (s.putAcc c d x).history = s.history := rfl
@[simp] theorem putAcc_exposure (s : State) (c d : Bay) (x : Int) : (s.putAcc c d x).exposure = s.exposure := rfl
@[simp] theorem putAcc_rebuild (s : State) (c d : Bay) (x : Int) : (s.putAcc c d x).rebuild = s.rebuild := rfl
@[simp] theorem putAcc_queue (s : State) (c d : Bay) (x : Int) : (s.putAcc c d x).queue = s.queue := rfl
@[simp] theorem putAcc_engine (s : State) (c d : Bay) (x : Int) : (s.putAcc c d x).engine = s.engine := rfl
@[simp] theorem putAcc_streams (s : State) (c d : Bay) (x : Int) : (s.putAcc c d x).streams = s.streams := rfl
@[simp] theorem putAcc_settings (s : State) (c d : Bay) (x : Int) : (s.putAcc c d x).settings = s.settings := rfl
@[simp] theorem putAcc_store (s : State) (c d : Bay) (x : Int) : (s.putAcc c d x).store = s.store := rfl
@[simp] theorem putAcc_attention (s : State) (c d : Bay) (x : Int) : (s.putAcc c d x).attention = s.attention := rfl
@[simp] theorem putAcc_port (s : State) (c d : Bay) (x : Int) : (s.putAcc c d x).port = s.port := rfl
@[simp] theorem putAcc_pins (s : State) (c d : Bay) (x : Int) : (s.putAcc c d x).pins = s.pins := rfl
@[simp] theorem putAcc_pending (s : State) (c d : Bay) (x : Int) : (s.putAcc c d x).pending = s.pending := rfl
@[simp] theorem putAcc_now (s : State) (c d : Bay) (x : Int) :
    (s.putAcc c d x).now = s.now := rfl
@[simp] theorem putAcc_slot (s : State) (c d : Bay) (x : Int) :
    (s.putAcc c d x).slot = s.slot := rfl
@[simp] theorem putAcc_slotStartNext (s : State) (c d : Bay) (x : Int) :
    (s.putAcc c d x).slotStartNext = s.slotStartNext := rfl
@[simp] theorem putAcc_lane (s : State) (c d : Bay) (x : Int) (b : Bay) :
    (s.putAcc c d x).lane b = s.lane b := rfl
@[simp] theorem putAcc_isReady (s : State) (c d : Bay) (x : Int) (b : Bay) :
    (s.putAcc c d x).isReady b = s.isReady b := rfl
@[simp] theorem putAcc_stream (s : State) (c d : Bay) (x : Int) (b : Bay) :
    (s.putAcc c d x).stream b = s.stream b := rfl
@[simp] theorem putAcc_setting (s : State) (c d : Bay) (x : Int) (b : Bay) :
    (s.putAcc c d x).setting b = s.setting b := rfl
@[simp] theorem putAcc_seekAt (s : State) (c d : Bay) (x : Int) (b : Bay) (p : Pos) :
    (s.putAcc c d x).seekAt b p = s.seekAt b p := rfl
@[simp] theorem putAcc_liveSeeks (s : State) (c d : Bay) (x : Int) (b : Bay) :
    (s.putAcc c d x).liveSeeks b = s.liveSeeks b := rfl
@[simp] theorem putAcc_coeff (s : State) (c d : Bay) (x : Int) (b src : Bay) :
    (s.putAcc c d x).coeff b src = s.coeff b src := rfl
@[simp] theorem putAcc_exposureAt (s : State) (c d : Bay) (x : Int) (b : Bay) (p : Fin 64) :
    (s.putAcc c d x).exposureAt b p = s.exposureAt b p := rfl
@[simp] theorem putAcc_workingAt (s : State) (c d : Bay) (x : Int) (b src : Bay) :
    (s.putAcc c d x).workingAt b src = s.workingAt b src := rfl
@[simp] theorem putAcc_recordTorque (s : State) (c d : Bay) (x : Int) (b : Bay) (m : Sample) :
    (s.putAcc c d x).recordTorque b m = s.recordTorque b m := rfl
@[simp] theorem putAcc_torque (s : State) (c d : Bay) (x : Int) (b : Bay) (m : Sample) :
    (s.putAcc c d x).torque b m = s.torque b m := rfl
@[simp] theorem putAcc_predict (s : State) (c d : Bay) (x : Int) (b : Bay) (m : Sample) (n : Nat) :
    (s.putAcc c d x).predict b m n = s.predict b m n := rfl
@[simp] theorem putAcc_calendarLoad (s : State) (c d : Bay) (x : Int) (b : Bay) (t : Slot) :
    (s.putAcc c d x).calendarLoad b t = s.calendarLoad b t := rfl
@[simp] theorem putAcc_portTakes (s : State) (c d : Bay) (x : Int) :
    (s.putAcc c d x).portTakes = s.portTakes := rfl

/-! ## `putWorking` -/

@[simp] theorem putWorking_time (s : State) (c d : Bay) (x : Int) : (s.putWorking c d x).time = s.time := rfl
@[simp] theorem putWorking_receivers (s : State) (c d : Bay) (x : Int) :
    (s.putWorking c d x).receivers = s.receivers := rfl
@[simp] theorem putWorking_lanes (s : State) (c d : Bay) (x : Int) : (s.putWorking c d x).lanes = s.lanes := rfl
@[simp] theorem putWorking_seeks (s : State) (c d : Bay) (x : Int) : (s.putWorking c d x).seeks = s.seeks := rfl
@[simp] theorem putWorking_history (s : State) (c d : Bay) (x : Int) : (s.putWorking c d x).history = s.history := rfl
@[simp] theorem putWorking_exposure (s : State) (c d : Bay) (x : Int) : (s.putWorking c d x).exposure = s.exposure := rfl
@[simp] theorem putWorking_rebuild (s : State) (c d : Bay) (x : Int) : (s.putWorking c d x).rebuild = s.rebuild := rfl
@[simp] theorem putWorking_queue (s : State) (c d : Bay) (x : Int) : (s.putWorking c d x).queue = s.queue := rfl
@[simp] theorem putWorking_engine (s : State) (c d : Bay) (x : Int) : (s.putWorking c d x).engine = s.engine := rfl
@[simp] theorem putWorking_streams (s : State) (c d : Bay) (x : Int) : (s.putWorking c d x).streams = s.streams := rfl
@[simp] theorem putWorking_settings (s : State) (c d : Bay) (x : Int) : (s.putWorking c d x).settings = s.settings := rfl
@[simp] theorem putWorking_acc (s : State) (c d : Bay) (x : Int) : (s.putWorking c d x).acc = s.acc := rfl
@[simp] theorem putWorking_attention (s : State) (c d : Bay) (x : Int) : (s.putWorking c d x).attention = s.attention := rfl
@[simp] theorem putWorking_port (s : State) (c d : Bay) (x : Int) : (s.putWorking c d x).port = s.port := rfl
@[simp] theorem putWorking_pins (s : State) (c d : Bay) (x : Int) : (s.putWorking c d x).pins = s.pins := rfl
@[simp] theorem putWorking_pending (s : State) (c d : Bay) (x : Int) : (s.putWorking c d x).pending = s.pending := rfl
@[simp] theorem putWorking_now (s : State) (c d : Bay) (x : Int) :
    (s.putWorking c d x).now = s.now := rfl
@[simp] theorem putWorking_slot (s : State) (c d : Bay) (x : Int) :
    (s.putWorking c d x).slot = s.slot := rfl
@[simp] theorem putWorking_slotStartNext (s : State) (c d : Bay) (x : Int) :
    (s.putWorking c d x).slotStartNext = s.slotStartNext := rfl
@[simp] theorem putWorking_lane (s : State) (c d : Bay) (x : Int) (b : Bay) :
    (s.putWorking c d x).lane b = s.lane b := rfl
@[simp] theorem putWorking_isReady (s : State) (c d : Bay) (x : Int) (b : Bay) :
    (s.putWorking c d x).isReady b = s.isReady b := rfl
@[simp] theorem putWorking_stream (s : State) (c d : Bay) (x : Int) (b : Bay) :
    (s.putWorking c d x).stream b = s.stream b := rfl
@[simp] theorem putWorking_setting (s : State) (c d : Bay) (x : Int) (b : Bay) :
    (s.putWorking c d x).setting b = s.setting b := rfl
@[simp] theorem putWorking_seekAt (s : State) (c d : Bay) (x : Int) (b : Bay) (p : Pos) :
    (s.putWorking c d x).seekAt b p = s.seekAt b p := rfl
@[simp] theorem putWorking_liveSeeks (s : State) (c d : Bay) (x : Int) (b : Bay) :
    (s.putWorking c d x).liveSeeks b = s.liveSeeks b := rfl
@[simp] theorem putWorking_coeff (s : State) (c d : Bay) (x : Int) (b src : Bay) :
    (s.putWorking c d x).coeff b src = s.coeff b src := rfl
@[simp] theorem putWorking_exposureAt (s : State) (c d : Bay) (x : Int) (b : Bay) (p : Fin 64) :
    (s.putWorking c d x).exposureAt b p = s.exposureAt b p := rfl
@[simp] theorem putWorking_accAt (s : State) (c d : Bay) (x : Int) (b src : Bay) :
    (s.putWorking c d x).accAt b src = s.accAt b src := rfl
@[simp] theorem putWorking_recordTorque (s : State) (c d : Bay) (x : Int) (b : Bay) (m : Sample) :
    (s.putWorking c d x).recordTorque b m = s.recordTorque b m := rfl
@[simp] theorem putWorking_torque (s : State) (c d : Bay) (x : Int) (b : Bay) (m : Sample) :
    (s.putWorking c d x).torque b m = s.torque b m := rfl
@[simp] theorem putWorking_predict (s : State) (c d : Bay) (x : Int) (b : Bay) (m : Sample) (n : Nat) :
    (s.putWorking c d x).predict b m n = s.predict b m n := rfl
@[simp] theorem putWorking_calendarLoad (s : State) (c d : Bay) (x : Int) (b : Bay) (t : Slot) :
    (s.putWorking c d x).calendarLoad b t = s.calendarLoad b t := rfl
@[simp] theorem putWorking_portTakes (s : State) (c d : Bay) (x : Int) :
    (s.putWorking c d x).portTakes = s.portTakes := rfl

/-! ## The one-bay updates at their own bay and at another -/

theorem lane_putLane (s : State) (c b : Bay) (x : Lane) :
    (s.putLane c x).lane b = if c = b then x else s.lane b :=
  Tab.get_upd ..

@[simp] theorem lane_putLane_self (s : State) (b : Bay) (x : Lane) : (s.putLane b x).lane b = x :=
  Tab.get_upd_self ..

theorem lane_putLane_ne (s : State) {c b : Bay} (x : Lane) (h : c ≠ b) :
    (s.putLane c x).lane b = s.lane b :=
  Tab.get_upd_ne _ _ h

theorem stream_putStream (s : State) (c b : Bay) (x : Stream) :
    (s.putStream c x).stream b = if c = b then x else s.stream b :=
  Tab.get_upd ..

@[simp] theorem stream_putStream_self (s : State) (b : Bay) (x : Stream) :
    (s.putStream b x).stream b = x :=
  Tab.get_upd_self ..

theorem stream_putStream_ne (s : State) {c b : Bay} (x : Stream) (h : c ≠ b) :
    (s.putStream c x).stream b = s.stream b :=
  Tab.get_upd_ne _ _ h

theorem seekAt_putSeek (s : State) (c b : Bay) (q p : Pos) (x : Option Seek) :
    (s.putSeek c q x).seekAt b p = if c = b ∧ q = p then x else s.seekAt b p := by
  unfold State.seekAt State.putSeek
  by_cases h : c = b
  · subst h
    by_cases h' : q = p <;> simp [State.setSeeks, Tab.get_upd, h']
  · simp [State.setSeeks, Tab.get_upd, h]

@[simp] theorem seekAt_putSeek_self (s : State) (b : Bay) (p : Pos) (x : Option Seek) :
    (s.putSeek b p x).seekAt b p = x := by
  simp [seekAt_putSeek]

theorem accAt_putAcc (s : State) (c d b src : Bay) (x : Int) :
    (s.putAcc c d x).accAt b src = if c = b ∧ d = src then x else s.accAt b src := by
  unfold State.accAt State.putAcc
  by_cases h : c = b
  · subst h
    by_cases h' : d = src <;> simp [State.setAcc, Tab.get_upd, h']
  · simp [State.setAcc, Tab.get_upd, h]

end Sys2Proof.Machine.State
end

