-- ==== Sys2Proof/Laws/Blocks.lean ====
section
/-! SUPPORT. One law per shared operation of the blocks: everything the operation can do, so that it is
cited and not unfolded. -/

namespace Sys2Proof.Machine

/-! ## What no lane event, search, burst or revision changes -/

/-- `t` differs from `s` at most in lanes, seeks, exposure, queue, engine, streams and attention. -/
structure KeepsSetup (s t : State) : Prop where
  time : t.time = s.time
  receivers : t.receivers = s.receivers
  history : t.history = s.history
  rebuild : t.rebuild = s.rebuild
  settings : t.settings = s.settings
  store : t.store = s.store
  acc : t.acc = s.acc
  port : t.port = s.port
  pins : t.pins = s.pins
  pending : t.pending = s.pending

theorem KeepsSetup.refl (s : State) : KeepsSetup s s := by
  constructor <;> rfl

theorem KeepsSetup.trans {s t u : State} (h : KeepsSetup s t) (k : KeepsSetup t u) :
    KeepsSetup s u where
  time := k.time.trans h.time
  receivers := k.receivers.trans h.receivers
  history := k.history.trans h.history
  rebuild := k.rebuild.trans h.rebuild
  settings := k.settings.trans h.settings
  store := k.store.trans h.store
  acc := k.acc.trans h.acc
  port := k.port.trans h.port
  pins := k.pins.trans h.pins
  pending := k.pending.trans h.pending

/-- An operation folded along a list keeps what each of its steps keeps. -/
theorem KeepsSetup.foldl {α : Type} {f : State → α → State} (h : ∀ s x, KeepsSetup s (f s x))
    (xs : List α) (s : State) : KeepsSetup s (xs.foldl f s) := by
  induction xs generalizing s with
  | nil => exact .refl s
  | cons x xs ih => exact (h s x).trans (ih _)

theorem KeepsSetup.ite {p : Prop} [Decidable p] {s t u : State} (h : KeepsSetup s t)
    (k : KeepsSetup s u) : KeepsSetup s (if p then t else u) := by
  split <;> assumption

/-! ## Attention -/

/-- A raised cause changes the Attention Unit alone. -/
theorem raiseCause_eq (c : Cause) (b : Bay) (s : State) :
    raiseCause c b s = s.setAttention (raiseCause c b s).attention :=
  rfl

theorem raiseCause_keeps (c : Cause) (b : Bay) (s : State) : KeepsSetup s (raiseCause c b s) := by
  constructor <;> rfl

/-- A raised cause is pending, and every cause pending before it still is. -/
theorem raiseCause_pending (c d : Cause) (b : Bay) (s : State) :
    (raiseCause c b s).attention.pending.getLsbD d.bit.val
      = (s.attention.pending.getLsbD d.bit.val || decide (c = d)) := by
  cases c <;> cases d <;> simp [raiseCause, markPending, addBay, Cause.bit]

/-! ## Exposure -/

theorem mapExposure_at (s : State) (f : Bay → Fin 64 → Nat → Nat) (b : Bay) (p : Fin 64) :
    (s.mapExposure f).exposureAt b p = f b p (s.exposureAt b p) := by
  simp [State.mapExposure, State.exposureAt]

/-- A change of the table is made at every entry, or, while a rebuild is in progress, at none. -/
theorem changeExposure_at (s : State) (f : Bay → Fin 64 → Nat → Nat) (b : Bay) (p : Fin 64) :
    (s.changeExposure f).exposureAt b p
      = if s.rebuild.isSome then s.exposureAt b p else f b p (s.exposureAt b p) := by
  unfold State.changeExposure
  split <;> simp [mapExposure_at]

/-- A change of the table changes the table alone. -/
theorem changeExposure_eq (s : State) (f : Bay → Fin 64 → Nat → Nat) :
    s.changeExposure f = s.setExposure (s.changeExposure f).exposure := by
  unfold State.changeExposure
  split <;> rfl

theorem changeExposure_keeps (s : State) (f : Bay → Fin 64 → Nat → Nat) :
    KeepsSetup s (s.changeExposure f) := by
  rw [changeExposure_eq]
  constructor <;> rfl

theorem addExposure_keeps (b : Bay) (r : Seek) (s : State) : KeepsSetup s (addExposure b r s) :=
  changeExposure_keeps ..

theorem removeExposure_keeps (b : Bay) (r : Seek) (s : State) : KeepsSetup s (removeExposure b r s) :=
  changeExposure_keeps ..

theorem replaceExposure_keeps (b : Bay) (r x : Seek) (s : State) :
    KeepsSetup s (replaceExposure b r x s) :=
  changeExposure_keeps ..

theorem recycleExposure_keeps (s : State) : KeepsSetup s (recycleExposure s) :=
  changeExposure_keeps ..

/-! ## Streams -/

theorem forecastChange_keeps (b : Bay) (a z : Sample) (s : State) :
    KeepsSetup s (forecastChange b a z s) := by
  constructor <;> rfl

/-- What a forecast change does to each stream: it reaches the running and draining streams of the
coupled bays, and no other. -/
theorem forecastChange_stream (src b : Bay) (a z : Sample) (s : State) :
    (forecastChange src a z s).stream b
      = if b ≠ src ∧ ((s.stream b).state = .running ∨ (s.stream b).state = .draining)
          ∧ (s.coeff b src).c ≠ 0 then
          takeChange s.now (a + BitVec.ofNat 32 (s.coeff b src).d)
            (z + BitVec.ofNat 32 (s.coeff b src).d) (s.stream b)
        else s.stream b := by
  simp [forecastChange, State.stream]

theorem readRevisions_keeps (s : State) : KeepsSetup s (readRevisions s) := by
  constructor <;> rfl

/-- Where every revision has read its values, reading them changes nothing. -/
theorem readRevisions_of_read {s : State} (h : RevisionsRead s) : readRevisions s = s := by
  have key : (Tab.gen 16 fun b =>
      { s.stream b with revisions := (s.stream b).revisions.map (readRevision s b) }) = s.streams := by
    apply Tab.ext_get
    intro b
    have hm : (s.stream b).revisions.map (readRevision s b) = (s.stream b).revisions := by
      conv_rhs => rw [← List.map_id (s.stream b).revisions]
      apply List.map_congr_left
      intro v hv
      simp [readRevision, h b v hv]
    simp only [Tab.get_gen, hm]
    rfl
  simp [readRevisions, key]

/-- After the reading every revision has read its values. -/
theorem readRevisions_read (s : State) : RevisionsRead (readRevisions s) := by
  intro b v hv
  simp only [readRevisions, State.stream, State.setStreams_streams, Tab.get_gen, List.mem_map] at hv
  obtain ⟨x, -, rfl⟩ := hv
  unfold readRevision
  split
  · simp [State.predict, List.range_succ]
  · assumption

theorem stopStream_keeps (b : Bay) (s : State) : KeepsSetup s (stopStream b s) := by
  constructor <;> rfl

theorem refreshStream_keeps (b : Bay) (s : State) : KeepsSetup s (refreshStream b s) := by
  constructor <;> rfl

theorem burstDuty_keeps (b : Bay) (s : State) : KeepsSetup s (burstDuty b s) := by
  unfold burstDuty
  exact .ite (by constructor <;> rfl) (.refl s)

/-! ## Admission -/

/-- The scan keeps the entries and their order, and sets hold flags only. -/
theorem scanQueue_places (s : State) (q : List QueueEntry) :
    (scanQueue s q).1.map (fun e => (e.bay, e.pos)) = q.map fun e => (e.bay, e.pos) := by
  induction q with
  | nil => rfl
  | cons e rest ih =>
    unfold scanQueue
    split
    · simp [ih]
    · split <;> simp [ih]

/-- Where the scan takes no search, every entry is held. -/
theorem scanQueue_none (s : State) (q : List QueueEntry) (h : (scanQueue s q).2 = none) :
    ∀ e ∈ (scanQueue s q).1, e.held = true := by
  induction q with
  | nil => simp [scanQueue]
  | cons e rest ih =>
    unfold scanQueue at h ⊢
    split
    · next hh =>
      rw [if_pos hh] at h
      simpa [hh] using ih h
    · next hh =>
      rw [if_neg hh] at h
      split
      · next hs => rw [hs] at h; cases h
      · next hs =>
        rw [hs] at h
        simpa using ih h

/-- A search the scan takes is on an entry of the queue. -/
theorem scanQueue_some (s : State) (q : List QueueEntry) (sr : Search)
    (h : (scanQueue s q).2 = some sr) :
    ∃ e ∈ q, e.held = false ∧ trySeek s e.bay e.pos = some sr := by
  induction q with
  | nil => simp [scanQueue] at h
  | cons e rest ih =>
    unfold scanQueue at h
    split at h
    · obtain ⟨x, hx, hy⟩ := ih h
      exact ⟨x, .tail _ hx, hy⟩
    · next hh =>
      split at h
      · next hs => exact ⟨e, .head _, by simpa using hh, by rw [hs]; exact h⟩
      · obtain ⟨x, hx, hy⟩ := ih h
        exact ⟨x, .tail _ hx, hy⟩

/-- What a search holds: it is the preparation on the record at its place, with a candidate left. -/
theorem trySeek_some {s : State} {b : Bay} {p : Pos} {sr : Search} (h : trySeek s b p = some sr) :
    ∃ r, s.seekAt b p = some r ∧ sr = prepareSearch s b p r ∧ sr.candidates ≠ [] := by
  unfold trySeek at h
  split at h
  · cases h
  · next r hr =>
    simp only at h
    split at h
    · cases h
    · next hc => cases h; exact ⟨r, hr, rfl, hc⟩

/-- A search start changes the queue and the engine alone. -/
theorem searchStart_eq (s : State) :
    searchStart s = (s.setQueue (searchStart s).queue).setEngine (searchStart s).engine := by
  unfold searchStart
  split <;> rfl

theorem searchStart_keeps (s : State) : KeepsSetup s (searchStart s) := by
  rw [searchStart_eq]
  constructor <;> rfl

theorem abandonSearch_keeps (b : Bay) (p : Pos) (s : State) : KeepsSetup s (abandonSearch b p s) := by
  unfold abandonSearch
  split
  · exact .ite (by constructor <;> rfl) (.refl s)
  · exact .refl s

theorem rerunSearch_keeps (b : Bay) (p : Pos) (s : State) : KeepsSetup s (rerunSearch b p s) := by
  unfold rerunSearch
  split
  · constructor <;> rfl
  · split
    · constructor <;> rfl
    · exact KeepsSetup.trans (by constructor <;> rfl) (searchStart_keeps _)

/-! ## Lanes -/

theorem freeSeek_keeps (b : Bay) (s : State) (p : Pos) : KeepsSetup s (freeSeek b s p) := by
  unfold freeSeek
  split
  · exact .refl s
  · next r _ =>
    have h : KeepsSetup s (s.putSeek b p none) := by constructor <;> rfl
    simp only
    split
    · exact (h.trans (by constructor <;> rfl)).trans (abandonSearch_keeps ..)
    · exact (h.trans (removeExposure_keeps b r _)).trans (forecastChange_keeps ..)

theorem freeBay_keeps (b : Bay) (s : State) : KeepsSetup s (freeBay b s) :=
  .foldl (freeSeek_keeps b) _ _

theorem releaseBay_keeps (b : Bay) (s : State) : KeepsSetup s (releaseBay b s) :=
  ((freeBay_keeps b s).trans (stopStream_keeps ..)).trans (searchStart_keeps _)

theorem faultLane_keeps (b : Bay) (s : State) : KeepsSetup s (faultLane b s) :=
  KeepsSetup.trans (by constructor <;> rfl)
    ((raiseCause_keeps .laneFault b _).trans (releaseBay_keeps b _))

theorem handFrame_keeps (b : Bay) (f : Frame) (s : State) : KeepsSetup s (handFrame b f s) :=
  .ite (.refl s) (by constructor <;> rfl)

/-- With room in the queue the frame joins its tail and the rule's further steps are taken. -/
theorem handThen_of_room {b : Bay} {f : Frame} {rest : State → State} {s : State}
    (h : (s.lane b).queue.length < 32) :
    handThen b f rest s
      = rest (s.putLane b { s.lane b with queue := (s.lane b).queue ++ [f] }) := by
  simp [handThen, handFrame, queueFull, Nat.not_le.mpr h]

/-- On a READY lane with a full queue the frame is lost and the lane faults after the further steps. -/
theorem handThen_of_full {b : Bay} {f : Frame} {rest : State → State} {s : State}
    (h : 32 ≤ (s.lane b).queue.length) (hr : (s.lane b).state = .ready) :
    handThen b f rest s = faultLane b (rest s) := by
  simp [handThen, queueFull, State.isReady, h, hr]

/-- On another lane with a full queue the frame alone is lost. -/
theorem handThen_of_full_unready {b : Bay} {f : Frame} {rest : State → State} {s : State}
    (h : 32 ≤ (s.lane b).queue.length) (hr : (s.lane b).state ≠ .ready) :
    handThen b f rest s = rest s := by
  simp [handThen, handFrame, queueFull, State.isReady, h, hr]

theorem handThen_keeps (b : Bay) (f : Frame) {rest : State → State} (h : ∀ s, KeepsSetup s (rest s))
    (s : State) : KeepsSetup s (handThen b f rest s) := by
  unfold handThen
  exact .ite ((h s).trans (faultLane_keeps ..)) ((handFrame_keeps ..).trans (h _))

theorem sendFrame_keeps (b : Bay) (f : Frame) (s : State) : KeepsSetup s (sendFrame b f s) :=
  handThen_keeps b f .refl s

theorem refuse_keeps (b : Bay) (tag : Option Tag) (why : Reason) (kind : Byte) (s : State) :
    KeepsSetup s (refuse b tag why kind s) :=
  sendFrame_keeps ..

/-! ## The Coefficient Store -/

/-- A commit changes the active table, the sequence and the rebuild, or nothing. -/
theorem takeCommit_cases (s : State) :
    (s.store.working = s.store.active ∧ takeCommit s = s)
      ∨ (s.store.working ≠ s.store.active
        ∧ takeCommit s = (s.setStore { s.store with
            active := s.store.working
            sequence := s.store.sequence + 1 }).setRebuild (some s.now)) := by
  unfold takeCommit
  by_cases h : s.store.working = s.store.active <;> simp [h]

/-! ## Completions -/

theorem grantSteps_keeps (b : Bay) (p : Pos) (r : Seek) (s : State) :
    KeepsSetup s (grantSteps b p r s) := by
  unfold grantSteps
  have h1 : KeepsSetup s ((dequeue b p (s.putSeek b p (some r))).setEngine none) := by
    constructor <;> rfl
  have h2 := (h1.trans (addExposure_keeps b r _)).trans (forecastChange_keeps b r.launchAt
    (lastOf r.launchAt r.tailEnd) _)
  exact KeepsSetup.trans (.ite (h2.trans (raiseCause_keeps ..)) h2) (searchStart_keeps _)

theorem completeSearch_keeps (s : State) : KeepsSetup s (completeSearch s) := by
  unfold completeSearch
  split
  · exact .refl s
  · split
    · exact .ite ((handThen_keeps _ _ (grantSteps_keeps _ _ _) s).trans (readRevisions_keeps _))
        (rerunSearch_keeps ..)
    · exact KeepsSetup.trans (by constructor <;> rfl) (searchStart_keeps _)

theorem completeBurst_keeps (b : Bay) (s : State) : KeepsSetup s (completeBurst b s) := by
  unfold completeBurst
  split
  · exact .refl s
  · exact (handThen_keeps _ _ (fun u => by constructor <;> rfl) s).trans (readRevisions_keeps _)

theorem completeRevision_keeps (b : Bay) (m : Sample) (s : State) :
    KeepsSetup s (completeRevision b m s) := by
  unfold completeRevision
  split
  · exact .refl s
  · exact (handThen_keeps _ _ (fun u => by constructor <;> rfl) s).trans (readRevisions_keeps _)

theorem completeDrain_keeps (b : Bay) (s : State) : KeepsSetup s (completeDrain b s) := by
  unfold completeDrain
  simp only
  exact .ite (KeepsSetup.trans (by constructor <;> rfl) (raiseCause_keeps ..)) (.refl s)

theorem launchOrExpire_keeps (b : Bay) (s : State) (p : Pos) :
    KeepsSetup s (launchOrExpire b s p) := by
  unfold launchOrExpire
  split
  · exact .refl s
  · next r _ =>
    refine .ite (by constructor <;> rfl) (.ite ?_ (.refl s))
    refine handThen_keeps _ _ (fun u => ?_) s
    have h : KeepsSetup u ((u.putSeek b p none).putLane b
        { u.lane b with lastExpired := some r.tag }) := by constructor <;> rfl
    exact ((h.trans (removeExposure_keeps b r _)).trans (forecastChange_keeps ..)).trans
      (raiseCause_keeps ..)

/-! ## The duties of a boundary -/

theorem mem_firstOccurrences {d : Duty} {seen ds : List Duty} :
    d ∈ firstOccurrences seen ds ↔ d ∈ ds ∧ d ∉ seen := by
  induction ds generalizing seen with
  | nil => simp [firstOccurrences]
  | cons e rest ih =>
    by_cases h : e ∈ seen
    · have hx : d ∉ seen → d ≠ e := fun hd he => hd (he ▸ h)
      simp [firstOccurrences, h, ih]
      tauto
    · by_cases hd : d = e
      · subst hd
        simp [firstOccurrences, h]
      · simp [firstOccurrences, h, ih, hd]

theorem firstOccurrences_nodup (seen ds : List Duty) : (firstOccurrences seen ds).Nodup := by
  induction ds generalizing seen with
  | nil => simp [firstOccurrences]
  | cons e rest ih =>
    unfold firstOccurrences
    split
    · exact ih seen
    · exact List.nodup_cons.mpr ⟨by simp [mem_firstOccurrences], ih _⟩

theorem mem_allDuties (d : Duty) : d ∈ allDuties := by
  cases d <;> simp [allDuties, bays]

/-- Whatever order is named, every duty is taken. -/
theorem mem_dutyOrder (order : List Duty) (d : Duty) : d ∈ dutyOrder order := by
  simp [dutyOrder, mem_firstOccurrences, mem_allDuties]

/-- Whatever order is named, no duty is taken twice. -/
theorem dutyOrder_nodup (order : List Duty) : (dutyOrder order).Nodup :=
  firstOccurrences_nodup ..

end Sys2Proof.Machine
end

