-- ==== Sys2Proof/Laws/Wire.lean ====
section
/-! SUPPORT. What a character on a lane, and an edge or a byte of a select period, can do (R147, R151,
R163, R164). -/

namespace Sys2Proof.Machine

/-! ## Characters -/

/-- A character on an ABSENT lane brings no command (R151). -/
theorem receiveChar_absent (b : Bay) (r : Receiver) (ch : LineChar) :
    receiveChar b .absent r ch = (discardChar r ch, []) := by
  simp [receiveChar]

/-- A byte on an ABSENT lane leaves the receiver to wait for two idle times. -/
theorem discardChar_data (r : Receiver) (x : Byte) (m : Bool) :
    discardChar r (.data x m) = .settling 0 := by
  cases r <;> rfl

/-- A receiver that waits for idle times takes no byte, whatever the lane's state. -/
theorem receiveChar_settling_data (b : Bay) (x : LaneState) (n : Nat) (y : Byte) (m : Bool) :
    receiveChar b x (.settling n) (.data y m) = (.settling 0, []) := by
  unfold receiveChar
  split <;> rfl

/-- A receiver that waits for idle times takes nothing from a run of bytes. -/
theorem receiveLine_settling (b : Bay) (n : Nat) (l : List (LaneState × Byte × Bool)) :
    receiveLine b (.settling n) (l.map fun x => (x.1, .data x.2.1 x.2.2)) = [] := by
  induction l generalizing n with
  | nil => rfl
  | cons x l ih =>
    rw [List.map_cons, receiveLine]
    simp only [receiveChar_settling_data, List.nil_append]
    exact ih 0

/-! ## The select period -/

@[simp] theorem State.inPhase_port (s : State) (x : SelectPhase) :
    (s.inPhase x).port = { s.port with select := x, shift := [] } := rfl

@[simp] theorem State.inPhase_inPhase (s : State) (x y : SelectPhase) :
    (s.inPhase x).inPhase y = s.inPhase y := rfl

/-- Putting the port in another phase changes nothing but the select period. -/
theorem State.inPhase_eq (s : State) (x : SelectPhase) :
    s.inPhase x = s.setPort { s.port with select := x, shift := [] } := rfl

@[simp] theorem deselect_port (s : State) :
    (deselect s).port = { s.port with
      select := .idle, shift := [], miso := true, response := none } := rfl

@[simp] theorem csnFall_port (s : State) :
    (csnFall s).port = { s.port with
      select := if s.pins.resetHeld then .over else .request [], shift := [], miso := true
      response := none } := rfl

/-- A select period that is over stays over, whatever is clocked (R163, R164). -/
theorem clockByte_over {s : State} (h : s.port.select = .over) (x : Byte) :
    clockByte x s = s.inPhase .over := by
  simp [clockByte, h]

/-- A byte after the request is ignored (R163). -/
theorem clockByte_answered {s : State} {n : Nat} (h : s.port.select = .answered n) (x : Byte) :
    clockByte x s = s.inPhase (.answered (n + 1)) := by
  simp [clockByte, h]

/-- A byte of an unfinished request is kept (R163). -/
theorem clockByte_request {s : State} {mosi : List Byte} (h : s.port.select = .request mosi) {x : Byte}
    (h1 : frameOverlong (mosi ++ [x]) = false) (h2 : frameWhole (mosi ++ [x]) = false) :
    clockByte x s = s.inPhase (.request (mosi ++ [x])) := by
  simp [clockByte, h, h1, h2]

/-- The first seven bits of a byte are kept (R163). -/
theorem sckRise_shift {s : State} (h : s.port.select ≠ .idle) (h1 : s.port.shift.length < 7) (v : Bool) :
    sckRise v s = s.setPort { s.port with shift := s.port.shift ++ [v] } := by
  unfold sckRise
  split
  · next e => exact absurd e h
  · rw [if_pos h1]

/-- The eighth bit completes the byte (R163). -/
theorem sckRise_byte {s : State} (h : s.port.select ≠ .idle) (h1 : s.port.shift.length = 7) (v : Bool) :
    sckRise v s = clockByte (portByte (s.port.shift ++ [v])) s := by
  unfold sckRise
  split
  · next e => exact absurd e h
  · rw [if_neg (by omega)]

/-- A falling edge of SCK changes the level of MISO alone (R163). -/
theorem sckFall_eq {s : State} (h : s.port.select ≠ .idle) :
    sckFall s
      = s.setPort { s.port with miso := s.misoByte.getLsbD (7 - s.port.shift.length) } := by
  unfold sckFall
  split
  · next e => exact absurd e h
  · rfl

@[simp] theorem sckFall_misoByte (s : State) : (sckFall s).misoByte = s.misoByte := by
  unfold sckFall
  split <;> rfl

/-- A request taken in the select period being clocked is its only one (R163). -/
theorem Port.answer_takes {p : Port} {mosi : List Byte} (h : p.select = .request mosi) (kind : Byte)
    (payload : List Byte) : (p.answer kind payload).select.takes = false := by
  simp [Port.answer, h, SelectPhase.taken, SelectPhase.takes]

@[simp] theorem Port.answer_response (p : Port) (kind : Byte) (payload : List Byte) :
    (p.answer kind payload).response = some ⟨kind, payload⟩ := rfl

@[simp] theorem Port.answer_resetArmed (p : Port) (kind : Byte) (payload : List Byte) :
    (p.answer kind payload).resetArmed = p.resetArmed := rfl

@[simp] theorem Port.answer_cause (p : Port) (kind : Byte) (payload : List Byte) :
    (p.answer kind payload).cause = p.cause := rfl

@[simp] theorem Port.answer_miso (p : Port) (kind : Byte) (payload : List Byte) :
    (p.answer kind payload).miso = p.miso := rfl

/-- With no response MISO reads FFh (R163, R164). -/
theorem State.misoByte_of_none {s : State} (h : s.port.response = none) : s.misoByte = 0xFF#8 := by
  unfold State.misoByte
  split
  · next e => simp [h] at e
  · rfl

end Sys2Proof.Machine
end

