-- ==== Sys2Proof/Tests/Slice0.lean ====
section
/-! SUPPORT. Tests of single commands, the refusals of `Instr.wellFormed`, and witnesses that the
hypotheses of each obligation can be met together. Expected values are the spec's worked examples and
tables, or are worked out by hand from its rules; the source stands before each test. -/

open Sys2Proof Sys2Proof.Machine

namespace Sys2Proof.Tests

set_option Elab.async false

/-! ## Small states -/

/-- A part out of reset in sample `m`, every bay occupied, every lane ABSENT. -/
def awake (m : Sample) : State :=
  (State.reset.setTime { State.reset.time with sample := m }).setPins
    { present := Tab.fill 16 true, resetHeld := false }

/-- A READY lane whose drive takes bursts of 8 and leads of up to 64. -/
def readyLane : Lane :=
  { Lane.reset with state := .ready, caps := some ⟨1#8, 8, 64, 0x12345678#32⟩ }

/-- A stream with burst length 8 and lead 32 in state `x`. -/
def stream8 (x : StreamState) : Stream :=
  { Stream.reset with state := x, burstLen := 8, lead := 32 }

/-- `s` with bay `b`'s lane READY. -/
def withReady (b : Bay) (s : State) : State :=
  (s.putLane b readyLane).putStream b (stream8 .off)

/-- A part in sample `m` with bay `b`'s lane READY. -/
def drive (b : Bay) (m : Sample) : State :=
  withReady b (awake m)

/-- `s` with the active entry of a pair set. -/
def couple (b src : Bay) (c : Int) (d : Nat) (s : State) : State :=
  s.setStore { s.store with active := s.store.active.upd b ((s.store.active.get b).upd src ⟨c, d⟩) }

/-- `s` with a record at a position. -/
def place (b : Bay) (p : Pos) (r : Seek) (s : State) : State :=
  s.putSeek b p (some r)

/-- `s` with position `p` of bay `b` alone in the admission queue. -/
def queued (b : Bay) (p : Pos) (s : State) : State :=
  s.setQueue [{ bay := b, pos := p, held := false }]

/-- A record of tag 0 compiled from `segs` with release shift `k` in slot `t`: lead 2, window 0. -/
def posted (segs : List Segment) (k : Nat) (t : Slot) : Seek :=
  compileSeek 0 false 2 0 segs k t

/-- A record granted slot `l`, in state `x`. -/
def launched (r : Seek) (x : SeekState) (l : Slot) : Seek :=
  { r with state := x, launch := some l, markers := some ⟨false, false⟩ }

/-- The command is taken and the state after it has the property. -/
def after (s : State) (c : Instr) (f : State → Bool) : Bool :=
  match exec c s with
  | .next t => f t
  | _ => false

/-- `s` with bay `b`'s transmit queue full. -/
def full (b : Bay) (s : State) : State :=
  s.putLane b { s.lane b with queue := List.replicate 32 (.mark 0) }

/-- `s` with a hub reset armed. -/
def armed (s : State) : State :=
  s.setPort { s.port with resetArmed := true }

/-- Setting fields as carried that ask for the values of the reset record. -/
def defaultFields : SettingFields :=
  { burst := 8, lead := 32, gain := 128, limit := 4095, shift := 4, rate := 0, deadband := 2, dither := 0 }

/-! ## Ill-formed commands -/

/-- A payload of 41 bytes. -/
def overlong : List Byte :=
  List.replicate 41 0#8

theorem test_ill_formed_hello : (Instr.hello 0 overlong).wellFormed = false := by decide +kernel
theorem test_ill_formed_notice : (Instr.notice 0 overlong).wellFormed = false := by decide +kernel
theorem test_ill_formed_commit : (Instr.commit 0 overlong).wellFormed = false := by decide +kernel
theorem test_ill_formed_abort : (Instr.abort 0 overlong).wellFormed = false := by decide +kernel
theorem test_ill_formed_residual : (Instr.residual 0 overlong).wellFormed = false := by decide +kernel
theorem test_ill_formed_unknown_length :
    (Instr.unknownFrame 0 0x81#8 overlong).wellFormed = false := by decide +kernel
theorem test_ill_formed_unknown_kind :
    (Instr.unknownFrame 0 0x02#8 []).wellFormed = false := by decide +kernel
theorem test_ill_formed_bad_bay :
    (Instr.badRequest (.badBay .hubRead)).wellFormed = false := by decide +kernel
theorem test_well_formed_at_the_bounds :
    (Instr.hello 0 (List.replicate 40 0#8)).wellFormed = true
      ∧ (Instr.unknownFrame 0 0x06#8 []).wellFormed = true
      ∧ (Instr.badRequest (.badBay .bayReset)).wellFormed = true := by decide +kernel

/-! ## Profiles: the worked compilations of 01_seek_profiles.md -/

/-- Example 1. -/
def example1 : Seek :=
  compileSeek 9 false 4 10 [⟨90, 40⟩, ⟨0, 24⟩, ⟨-90, 40⟩] 3 1000

theorem test_compile_example_1 :
    example1.length = 104 ∧ example1.tailLen = 29 ∧ example1.span = 17
      ∧ example1.mags = [90, 90, 90, 90, 90, 0, 0, 0, 90, 90, 90, 90, 90, 79, 30, 13, 5]
      ∧ example1.earliest = 1004 ∧ example1.latest = 1014 := by decide +kernel

theorem test_tail_example_1 :
    tailOf 3 (-90) = [-79, -70, -62, -55, -49, -43, -38, -34, -30, -27, -24, -21, -19, -17, -15, -14,
      -13, -12, -11, -10, -9, -8, -7, -6, -5, -4, -3, -2, -1] := by decide +kernel

/-- Example 2, its level and duration as carried. -/
theorem test_compile_example_2 :
    (readNotice [0x00#8, 63, 31, 0x80#8, 0x00#8, 0x01#8]).map (fun n =>
        (compileSeek n.tag n.auto n.lead n.window n.segments 7 100).mags.drop 31)
      = some [127, 126, 118, 110, 102, 94, 86, 78, 70, 62, 54, 46, 38, 30, 22, 14, 6]
    ∧ (readNotice [0x00#8, 63, 31, 0x80#8, 0x00#8, 0x01#8]).map (fun n =>
        let r := compileSeek n.tag n.auto n.lead n.window n.segments 7 100;
        (r.length, r.tailLen, r.span, r.earliest, r.latest))
      = some (256, 126, 48, 116, 116) := by decide +kernel

/-- Example 3. -/
theorem test_compile_example_3 :
    (let r := compileSeek 0 false 0 31 [⟨60, 12⟩, ⟨-20, 6⟩] 1 50;
      (r.length, r.tailLen, r.span, r.mags, r.earliest, r.latest))
      = (18, 5, 3, [60, 60, 20], 52, 83) := by decide +kernel

/-- Example 4: before and after the cut at index 8. -/
theorem test_cut_example_4 :
    (let r := posted [⟨127, 8⟩, ⟨0, 8⟩] 4 1998;
      (r.tailLen, r.span, r.mags)) = (0, 2, [127, 0])
    ∧ (let r := recompileCut (launched (posted [⟨127, 8⟩, ⟨0, 8⟩] 4 1998) .running 2000) 8;
      (r.tailLen, r.span, r.mags)) = (55, 8, [127, 120, 75, 48, 31, 23, 15, 7]) := by decide +kernel

/-! ## Predictions: the worked cases of 05_the_disturbance_predictor.md -/

/-- Worked prediction: two sources, and its mirror image. -/
theorem test_spread_two_sources :
    quarterUnits (gainProduct 2400 200) = -117
      ∧ (List.range 4).map (spread .sequential (-117)) = [-29, -29, -29, -30]
      ∧ (List.range 4).map (spread .interleaved 117) = [30, 29, 29, 29]
      ∧ (List.range 4).map (spread .sequential (-118)) = [-29, -29, -30, -30]
      ∧ (List.range 4).map (spread .interleaved (-118)) = [-29, -30, -29, -30] := by decide +kernel

/-- Full saturation, one source near the bound, and the halfway case. -/
theorem test_quarters_at_the_limits :
    quarterUnits (gainProduct 241935 255) = -15062
      ∧ saturatedQuarters (gainProduct 241935 255) = -508
      ∧ saturatedQuarters (gainProduct (-243840) 255) = 508
      ∧ saturatedQuarters (gainProduct 16129 128) = -504
      ∧ saturatedQuarters (gainProduct 16129 130) = -508
      ∧ quarterUnits (gainProduct 16 128) = -1 ∧ quarterUnits (gainProduct (-16) 128) = 1
      ∧ quarterUnits (gainProduct 16 127) = 0
      ∧ (List.range 4).map (spread .sequential (-1)) = [0, 0, 0, -1] := by decide +kernel

/-- The state of the worked burst in sample `m`, with the record `r4` of bay 4. -/
def coupled (r4 : Seek) (m : Sample) : State :=
  let s := couple 5 7 (-20) 7 (couple 5 6 40 1 (couple 5 4 48 2 (drive 5 m)))
  place 7 0 (launched (posted [⟨80, 7⟩, ⟨40, 1⟩, ⟨0, 1⟩] 2 1900) .granted 1999)
    (place 6 0 (launched (posted [⟨-60, 256⟩] 2 1900) .running 1990)
      (place 4 0 r4 (s.setSettings (s.settings.upd 5 { Setting.reset with gain := 200 }))))

/-- The record of bay 4 in the worked burst. -/
def seek4 : Seek :=
  launched (posted [⟨100, 16⟩, ⟨-100, 16⟩] 2 1990) .running 2000

/-- Worked burst: a launch inside the burst. -/
theorem test_predict_worked_burst :
    (coupled seek4 15968).predict 5 16000 8 = [49, 49, -10, -10, -9, -10, -20, -30] := by
  decide +kernel

/-- Worked revision: an abort that reaches into the history. -/
theorem test_predict_worked_revision :
    (let s := coupled (recompileCut seek4 3) 16002;
      (s.setHistory (s.history.upd 7
        ((((Tab.fill 72 0).upd 5 80).upd 4 80).upd 3 40))).predict 5 16004 4) = [-9, 5, 6, 4] := by
  decide +kernel

/-! ## Frames -/

/-- Worked check: a TARDY frame (09_bay_lanes.md). -/
theorem test_check_of_tardy :
    (Frame.tardy 6).bytes = [0x86#8, 0x01#8, 0x06#8, 0x5A#8]
      ∧ crc8 [0x86#8, 0x01#8, 0x06#8, 0x5A#8] = 0 := by decide +kernel

/-- WELCOME, GRANT, REFUSE without a tag, CORRECT and both HALTs, written out from R150's layouts. -/
theorem test_frame_payloads :
    (Frame.welcome 3 1000 0x01020304 8 32).payload
        = [0x03#8, 0xE8#8, 0x03#8, 0x04#8, 0x03#8, 0x02#8, 0x01#8, 0x08#8, 0x20#8]
      ∧ (Frame.grant 9 840 3 true false true).payload
        = [0x09#8, 0x48#8, 0x03#8, 0x00#8, 0x00#8, 0x03#8, 0x05#8]
      ∧ (Frame.refuse none .malformed 0x02).payload = [0xFF#8, 0x04#8, 0x02#8]
      ∧ (Frame.correct 16000 [49, -10, -30, 0]).payload
        = [0x80#8, 0x3E#8, 0x00#8, 0x00#8, 0x31#8, 0xF6#8, 0xE2#8, 0x00#8]
      ∧ (Frame.halt (some 16087)).payload = [0x00#8, 0xD7#8, 0x3E#8, 0x00#8, 0x00#8]
      ∧ (Frame.halt none).payload = [0x01#8, 0x00#8, 0x00#8, 0x00#8, 0x00#8] := by decide +kernel

/-- A COMMIT of tag 6 on the line of bay 2, and the same with its check spoilt (R148, R150). -/
theorem test_lane_frames_read :
    laneFrameCommand 2 (framed 0x03#8 [0x06#8]) = .commit 2 [0x06#8]
      ∧ laneFrameCommand 2 [0x03#8, 0x01#8, 0x06#8, 0x00#8] = .badFrame 2 .checkMismatch
      ∧ laneFrameCommand 2 [0x03#8, 0x29#8] = .badFrame 2 .lengthOver40
      ∧ receiveLine 2 (.settling 0) (([LineChar.idle, .idle] ++ (framed 0x8A#8 []).map fun x => LineChar.data x true).map
          fun ch => (LaneState.ready, ch))
        = [.unknownFrame 2 0x8A#8 []] := by decide +kernel

/-- The request frame of the worked clamped setting write (10_management_port.md). -/
def clampedFields : SettingFields :=
  { burst := 5, lead := 80, gain := 160, limit := 5000, shift := 0, rate := 7, deadband := 20, dither := 1 }

theorem test_request_read :
    requestCommand (framed 0x21#8 [6, 0, 5, 80, 160, 0x88#8, 0x13#8, 0, 7, 20, 1])
        = some (.streamDisable 6 clampedFields)
      ∧ requestCommand (framed 0x2E#8 [16]) = some (.badRequest (.badBay .bayReset))
      ∧ requestCommand (framed 0x2E#8 []) = some (.badRequest (.wrongLength .bayReset))
      ∧ requestCommand (framed 0x30#8 []) = some (.badRequest .unknownKind) := by decide +kernel

/-! ## One command each: resets and the time base -/

/-- R131: power-on clears the tables; the cause reads POWER (R170). -/
theorem test_power_on :
    after (couple 3 1 64 2 (drive 3 800)) .powerOn (fun t =>
      t.store == Store.reset && t.port.cause == .power && t.now == 0) = true := by decide +kernel

/-- R132: a pin reset keeps the active table. -/
theorem test_pin_reset :
    after (couple 3 1 64 2 (drive 3 800)) .pinReset (fun t =>
      t.coeff 3 1 == ⟨64, 2⟩ && t.port.cause == .pin && (t.lane 3).state == .absent) = true := by
  decide +kernel

/-- R46, R159, R179: sample 0 is a slot start; a seated drive's lane is DETECTED with ARRIVE pending. -/
theorem test_reset_release :
    after (State.reset.setPins { State.reset.pins with present := (Tab.fill 16 false).upd 5 true })
      (.resetRelease []) (fun t =>
        t.now == 0 && t.store.epochCount == 1 && (t.lane 5).state == .detected
          && (t.lane 4).state == .absent && t.attention.pending == 0x01#8
          && t.attention.sets.get 0 == 0x0020#16 && !t.attnA) = true := by decide +kernel

/-- R44: after sample 2^32 − 1 the next boundary begins sample 0, a slot start. -/
theorem test_boundary_wraps :
    after (drive 3 0xFFFFFFFF) (.sampleBoundary []) (fun t =>
      t.now == 0 && (t.lane 3).queue == [.mark 0]) = true := by decide +kernel

/-- R101: with BL 8 a stream enabled during 15961 enters RUNNING at 15968, not at 15964, and its first
burst covers 16000 on. -/
theorem test_stream_runs_at_its_boundary :
    after ((drive 5 15967).putStream 5 (stream8 .starting)) (.sampleBoundary []) (fun t =>
      (t.stream 5).state == .running && (t.stream 5).burst.map Burst.first == some 16000) = true
    ∧ after ((drive 5 15963).putStream 5 (stream8 .starting)) (.sampleBoundary []) (fun t =>
      (t.stream 5).state == .starting) = true := by decide +kernel

/-- R23: a GRANTED seek expires at its launch slot start. -/
theorem test_slot_start_expires :
    after (place 3 1 (launched example1 .granted 1004) (drive 3 8031)) (.slotStart []) (fun t =>
      t.seekAt 3 1 == none && (t.lane 3).lastExpired == some 9
        && (t.lane 3).queue == [.expire 9 8032, .mark 8032] && t.attention.pending == 0x10#8) = true := by
  decide +kernel

/-- R22: a COMMITTED one is RUNNING. -/
theorem test_slot_start_launches :
    after (place 3 1 (launched example1 .committed 1004) (drive 3 8031)) (.slotStart []) (fun t =>
      (t.seekAt 3 1).map Seek.state == some .running && (t.history.get 3).get 0 == 90) = true := by
  decide +kernel

/-- R126: the 256th slot start commits a working table that differs. -/
theorem test_epoch_end_commits :
    (let s := drive 3 2047
      let x : Store := { s.store with
        epochCount := 255, working := CoeffTable.zero.upd 3 ((Tab.fill 16 ⟨0, 0⟩).upd 1 ⟨5, 0⟩) }
      after (s.setStore x) (.epochEnd []) (fun t =>
        t.coeff 3 1 == ⟨5, 0⟩ && t.store.sequence == 1 && t.store.epochCount == 0
          && t.rebuild == some 2048)) = true := by decide +kernel

/-- R59: load of a granted seek under the active coefficient, REBUILT pending. -/
theorem test_rebuild_completes :
    after ((place 1 0 (launched (posted [⟨90, 40⟩] 7 90) .granted 100)
        (couple 3 1 64 0 (awake 776))).setRebuild (some 770)) (.rebuildComplete false) (fun t =>
      t.rebuild == none && t.attention.pending == 0x40#8
        && t.exposureAt 3 (positionOf 100) == 90 && t.exposureAt 3 (positionOf 99) == 0
        && t.exposureAt 1 (positionOf 100) == 0) = true := by decide +kernel

/-! ## Admission: the worked first fit and forced grant of 04_admission.md -/

/-- The record of the worked admission, taken in slot 97. -/
def seekTag5 : Seek :=
  compileSeek 5 false 5 4 [⟨80, 12⟩, ⟨-40, 6⟩] 1 97

/-- The state of the worked admission with bay 3's limit at `limit`. -/
def admission (limit : Nat) : State :=
  let s := queued 2 0 (place 2 0 seekTag5 (couple 3 2 (-32) 0 (drive 2 776)))
  let row := (List.range 5).foldl
    (fun (r : Tab 64 Nat) i => r.upd (positionOf (BitVec.ofNat 29 (100 + i))) 90) (Tab.fill 64 0)
  (s.setSettings (s.settings.upd 3 { Setting.reset with limit := limit })).setExposure
    (s.exposure.upd 3 row)

theorem test_search_start :
    after (admission 100) .searchStart (fun t =>
      t.engine.map Search.candidates == some [102, 103, 104, 105, 106]) = true := by decide +kernel

theorem test_search_complete_first_fit :
    after (searchStart (admission 100)) .searchComplete (fun t =>
      (t.lane 2).queue == [.grant 5 840 3 false false false] && t.queue == []
        && [105, 106, 107, 104].map (fun x => t.exposureAt 3 (positionOf x)) == [40, 40, 20, 90]
        && t.attention.pending == 0) = true := by decide +kernel

theorem test_search_complete_forced :
    after (searchStart (admission 30)) .searchComplete (fun t =>
      (t.lane 2).queue == [.grant 5 840 3 true false false]
        && t.attention.pending == 0x08#8 && t.attention.sets.get 3 == 0x0004#16) = true := by
  decide +kernel

/-! ## Streams -/

/-- A burst for 16080 in computation and its completion (R103, R105). -/
def bursting : State :=
  (drive 5 16048).putStream 5 { stream8 .running with
    burst := some { first := 16080, pendingChange := false, start := 16048, values := [1, 2, 3, 4, 5, 6, 7, -8] } }

theorem test_burst_complete :
    after bursting (.burstComplete 5) (fun t =>
      (t.lane 5).queue == [.correct 16080 [1, 2, 3, 4, 5, 6, 7, -8]]
        && (t.stream 5).delivery == [⟨16080, 8, false⟩]
        && (t.stream 5).coverage == some ⟨16080, 16087⟩) = true := by decide +kernel

/-- The worked pending change: the burst for 16040, marked, completes during 16009 and is revised. -/
theorem test_burst_complete_pending :
    after ((drive 5 16009).putStream 5 { stream8 .running with
        burst := some { first := 16040, pendingChange := true, start := 16008, values := List.replicate 8 0 } })
      (.burstComplete 5) (fun t =>
        (t.stream 5).delivery == [⟨16040, 8, true⟩]
          && (t.stream 5).revisions == [⟨16040, 16009, [0, 0, 0, 0]⟩]) = true := by decide +kernel

/-- R109: REVISE of the second half. -/
theorem test_revision_complete :
    after ((drive 5 16003).putStream 5 { stream8 .running with
        delivery := [⟨16000, 8, true⟩], revisions := [⟨16000, 16002, [-9, 5, 6, 4]⟩] })
      (.revisionComplete 5 16000) (fun t =>
        (t.lane 5).queue == [.revise 16004 [-9, 5, 6, 4]] && (t.stream 5).revisions == []) = true := by
  decide +kernel

/-- R111. -/
theorem test_drain_complete :
    after ((drive 5 16088).putStream 5 { stream8 .draining with coverage := some ⟨16000, 16087⟩ })
      (.drainComplete 5) (fun t =>
        (t.stream 5).state == .off && (t.stream 5).coverage == some ⟨16000, 16087⟩
          && t.attention.pending == 0x20#8) = true := by decide +kernel

/-- The worked clamped setting write: the record as taken, and its response. -/
theorem test_stream_disable_clamps :
    after (awake 800) (.streamDisable 6 clampedFields) (fun t =>
      t.setting 6 == ⟨false, 4, 64, 160, 4095, 1, .off, 15, .interleaved⟩
        && t.port.response == some ⟨0xA1#8, [0, 6, 0, 4, 64, 160, 0xFF#8, 0x0F#8, 1, 0, 15, 1]⟩) = true := by
  decide +kernel

/-- The same with stream enable on while the lane is DETECTED: BUSY with the record as held. -/
theorem test_stream_enable_busy :
    after ((awake 800).putLane 6 { Lane.reset with state := .detected })
      (.streamEnable 6 clampedFields) (fun t =>
        t.setting 6 == Setting.reset
          && t.port.response == some ⟨0xA1#8, [1, 6, 0, 8, 32, 128, 0xFF#8, 0x0F#8, 4, 0, 2, 0]⟩) = true := by
  decide +kernel

/-- R99: an OFF stream on a READY lane is STARTING. -/
theorem test_stream_enable_starts :
    after (drive 6 800) (.streamEnable 6 defaultFields) (fun t =>
      (t.stream 6).state == .starting && (t.setting 6).enable) = true := by decide +kernel

/-! ## Lanes -/

/-- R158. -/
theorem test_lane_transmit :
    after ((awake 800).putLane 6 { readyLane with queue := [.tardy 6, .mark 800] }) (.laneTransmit 6)
      (fun t => (t.lane 6).line == [0x86#8, 0x01#8, 0x06#8, 0x5A#8] && (t.lane 6).queue == [.mark 800])
      = true := by decide +kernel

/-- R151. -/
theorem test_presence_rise :
    after ((awake 800).setPins { present := Tab.fill 16 false, resetHeld := false }) (.presenceRise 15)
      (fun t => (t.lane 15).state == .detected && t.attention.sets.get 0 == 0x8000#16) = true := by
  decide +kernel

/-- R151, R157: presence falling frees the bay's seeks. -/
theorem test_presence_fall :
    after (place 3 1 (launched example1 .granted 1004) (drive 3 8000)) (.presenceFall 3) (fun t =>
      (t.lane 3).state == .absent && (t.lane 3).caps == none && t.seekAt 3 1 == none
        && t.attention.pending == 0x02#8) = true := by decide +kernel

/-- R153: the fourth bad frame in a row, whatever made it bad. -/
theorem test_bad_frame_fourth :
    after ((awake 800).putLane 6 { readyLane with bad := 3 }) (.badFrame 6 .cutShort) (fun t =>
      (t.lane 6).state == .fault && (t.lane 6).bad == 0 && t.attention.pending == 0x04#8) = true := by
  decide +kernel

/-- R152: a part-to-drive kind is unknown; the refusal names it, and the count is cleared. -/
theorem test_unknown_frame :
    after ((awake 800).putLane 6 { readyLane with bad := 2 }) (.unknownFrame 6 0x8A#8 []) (fun t =>
      (t.lane 6).queue == [.refuse none .malformed 0x8A#8] && (t.lane 6).bad == 0) = true := by
  decide +kernel

/-- R154, R156: maximum burst 5 is taken as 4 and maximum lead 4 as 8. -/
theorem test_hello_admits :
    after ((awake 800).putLane 6 { Lane.reset with state := .detected })
      (.hello 6 [1, 5, 4, 0x78#8, 0x56#8, 0x34#8, 0x12#8]) (fun t =>
        (t.lane 6).state == .ready && (t.lane 6).caps == some ⟨1, 4, 8, 0x12345678⟩
          && (t.lane 6).queue == [.welcome 6 1000 800 4 8]) = true := by decide +kernel

/-- R154: another protocol level. -/
theorem test_hello_of_another_level :
    after ((awake 800).putLane 6 { Lane.reset with state := .detected })
      (.hello 6 [2, 8, 64, 0, 0, 0, 0]) (fun t =>
        (t.lane 6).state == .detected && (t.lane 6).queue == [.refuse none .malformed 0x01]) = true := by
  decide +kernel

/-- Example 1 of 01_seek_profiles.md as a frame: bay 7, release shift 3, slot 1000, position 1. -/
theorem test_notice_example_1 :
    (let s := place 7 2 { posted [⟨9, 9⟩] 4 998 with tag := 12 }
        (place 7 0 { posted [⟨9, 9⟩] 4 998 with tag := 3 } (drive 7 8000));
      after (s.setSettings (s.settings.upd 7 { Setting.reset with shift := 3 }))
        (.notice 7 [9, 4, 10, 90, 40, 0, 0, 24, 0, 0xA6#8, 40, 1]) (fun t =>
          t.seekAt 7 1 == some example1 && (t.lane 7).queue == [] && t.engine.isSome)) = true := by
  decide +kernel

/-- Example 5, first row: P = 336 is TOO_LONG. -/
theorem test_notice_too_long :
    after (drive 7 8000) (.notice 7 [4, 4, 10, 50, 0, 0, 0xCE#8, 80, 1]) (fun t =>
      (t.lane 7).queue == [.refuse (some 4) .tooLong 0x02] && t.queue == []) = true := by decide +kernel

/-- R20. -/
theorem test_commit_confirms :
    after (place 3 1 (launched example1 .granted 1004) (drive 3 8000)) (.commit 3 [9]) (fun t =>
      (t.seekAt 3 1).map Seek.state == some .committed
        && (t.lane 3).queue == [.confirm 9 8032]) = true := by decide +kernel

/-- R21: the last-expired tag draws TARDY. -/
theorem test_commit_tardy :
    after ((awake 800).putLane 6 { readyLane with lastExpired := some 6 }) (.commit 6 [0xF6#8]) (fun t =>
      (t.lane 6).queue == [.tardy 6]) = true := by decide +kernel

/-- Example 4: the ABORT taken during sample 16007 cuts at index 8. -/
theorem test_abort_example_4 :
    after (place 11 0 (launched (posted [⟨127, 8⟩, ⟨0, 8⟩] 4 1998) .running 2000) (drive 11 16007))
      (.abort 11 [0]) (fun t =>
        (t.seekAt 11 0).map (fun r => (r.abortIndex, r.tailLen, r.span, r.mags))
          == some (some 8, 55, 8, [127, 120, 75, 48, 31, 23, 15, 7])) = true := by decide +kernel

/-- R30: an ABORT in TAIL is ignored. -/
theorem test_abort_in_tail_ignored :
    after (place 11 0 (launched example1 .tail 2000) (drive 11 16110)) (.abort 11 [9])
      (fun t => t == place 11 0 (launched example1 .tail 2000) (drive 11 16110)) = true := by decide +kernel

/-- The worked adaptation at a coefficient's limit (08_adaptation.md): bay 12 at MEDIUM, source 13. -/
def atLimit (acc : Int) : State :=
  let s := drive 12 20070
  let t := s.putStream 12 { stream8 .running with coverage := some ⟨20000, 20095⟩ }
  let u := t.setSettings (t.settings.upd 12 { Setting.reset with rate := .medium })
  let v := (couple 12 13 127 0 u).putAcc 12 13 acc;
  (v.putWorking 12 13 127).setHistory (v.history.upd 13 ((Tab.fill 72 0).upd 30 95))

theorem test_residual_at_the_limit :
    after (atLimit 127) (.residual 12 [0x48#8, 0x4E#8, 0, 0, 1, 40]) (fun t =>
      t.accAt 12 13 == 0 && (t.workingAt 12 13).c == 127 && t.attention.pending == 0x80#8
        && t.attention.sets.get 7 == 0x1000#16) = true := by decide +kernel

/-- The same pair driven the other way: −128 lowers the coefficient to +126. -/
theorem test_residual_steps_down :
    after (atLimit (-127)) (.residual 12 [0x48#8, 0x4E#8, 0, 0, 1, 0xD8#8]) (fun t =>
      t.accAt 12 13 == 0 && (t.workingAt 12 13).c == 126 && t.attention.pending == 0) = true := by
  decide +kernel

/-! ## Requests -/

/-- R164, R165. -/
theorem test_bad_request :
    after (awake 800) (.badRequest (.badBay .bayReset)) (fun t =>
      t.port.response == some ⟨0xAE#8, [0x04]⟩) = true
    ∧ after (awake 800) (.badRequest .checkMismatch) (fun t =>
      t.port.response == some ⟨0x7F#8, [0x04]⟩) = true := by decide +kernel

/-- R167's defaults in R166's layout. -/
theorem test_setting_read :
    after (awake 800) (.settingRead 6) (fun t =>
      t.port.response == some ⟨0xA0#8, [0, 6, 0, 8, 32, 128, 0xFF#8, 0x0F#8, 4, 0, 2, 0]⟩) = true := by
  decide +kernel

/-- R166, R169: divisor 1000, epoch code 2, sample 0x01020304. -/
theorem test_hub_read :
    after (awake 0x01020304) .hubRead (fun t =>
      t.port.response == some ⟨0xA2#8, [0, 0xE8#8, 0x03#8, 2, 4, 3, 2, 1, 0, 0, 0, 0]⟩) = true := by
  decide +kernel

/-- R47, R49, R169: 100 is taken as 500 and code 9 as 3. -/
theorem test_hub_write :
    after (awake 800) (.hubWrite 100 9) (fun t =>
      t.time.pendingDivisor == some 500 && t.time.divisor == 1000
        && t.store.epochLength == .slots512) = true := by decide +kernel

/-- R47: a live seek makes a change of divisor BUSY. -/
theorem test_hub_write_busy :
    after (place 3 1 example1 (drive 3 8000)) (.hubWrite 500 2) (fun t =>
      t.time.pendingDivisor == none
        && t.port.response.map (fun r => r.payload.head?) == some (some 1)) = true := by decide +kernel

/-- A frozen store whose snapshot was written. -/
def frozenStore : Store :=
  { Store.reset with
    frozen := true, written := true, sequence := 0x0203
    snapshot := CoeffTable.zero.upd 5 ((Tab.fill 16 ⟨0, 0⟩).upd 4 ⟨-3, 2⟩) }

/-- R120. -/
theorem test_freeze :
    after (couple 3 1 64 2 (awake 800)) .freeze (fun t =>
      t.store.frozen && (t.store.snapshot.get 3).get 1 == ⟨64, 2⟩
        && t.port.response == some ⟨0xA4#8, [0, 0, 0]⟩) = true := by decide +kernel

/-- R123: a written snapshot is loaded and a rebuild starts. -/
theorem test_thaw :
    after ((awake 800).setStore frozenStore) .thaw (fun t =>
      t.coeff 5 4 == ⟨-3, 2⟩ && !t.store.frozen && t.rebuild == some 800
        && t.port.response == some ⟨0xA5#8, [0, 1, 0x04#8, 0x02#8]⟩) = true := by decide +kernel

/-- R121. -/
theorem test_peek_row :
    after ((awake 800).setStore frozenStore) (.peekRow 5) (fun t =>
      t.port.response == some ⟨0xA6#8, [0, 5, 0, 0, 0, 0, 0, 0, 0, 0, 0xFD#8, 2]
        ++ List.replicate 22 0⟩) = true
    ∧ after (awake 800) (.peekRow 5) (fun t => t.port.response == some ⟨0xA6#8, [3]⟩) = true := by
  decide +kernel

/-- R122, R172: the own diagonal is discarded and d saturates at 7. -/
theorem test_poke_row :
    after ((awake 800).setStore frozenStore) (.pokeRow 5 (Tab.fill 16 (0x80#8, 9))) (fun t =>
      (t.store.snapshot.get 5).get 5 == ⟨0, 0⟩ && (t.store.snapshot.get 5).get 15 == ⟨-128, 7⟩
        && t.store.written) = true := by decide +kernel

/-- R129. -/
theorem test_active_row_read :
    after (couple 15 0 (-1) 7 (awake 800)) (.activeRowRead 15) (fun t =>
      t.port.response == some ⟨0xA8#8, [0, 15, 0, 0, 0xFF#8, 7] ++ List.replicate 30 0⟩) = true := by
  decide +kernel

/-- R171: page 1 with one granted record in position 0. -/
theorem test_bay_inspect_page_1 :
    after (place 3 0 (launched example1 .granted 1004) (drive 3 8000)) (.bayInspect 3 1) (fun t =>
      t.port.response == some ⟨0xA9#8, [0, 0x13#8, 0x82#8, 9, 17, 0xEC#8, 0x03#8, 0, 0, 0, 0]
        ++ List.replicate 27 0⟩) = true := by decide +kernel

/-- R171: page 0 of a READY lane with its stream OFF. -/
theorem test_bay_inspect_page_0 :
    after (drive 3 8000) (.bayInspect 3 0) (fun t =>
      t.port.response == some ⟨0xA9#8, [0, 3, 2, 0, 1, 1, 8, 64, 0x78#8, 0x56#8, 0x34#8, 0x12#8,
        0xFF#8, 0, 0, 8, 32, 0, 0, 0, 0, 0, 0, 0, 0, 0, 0]⟩) = true := by decide +kernel

/-- R62: from slot 97 with offset 3, the entries of slots 100 and 101; rebuild clear. -/
theorem test_exposure_read :
    after (admission 100) (.exposureRead 3 3 2) (fun t =>
      t.port.response == some ⟨0xAA#8, [0, 3, 3, 2, 97, 0, 0, 0, 90, 0, 90, 0]⟩) = true := by decide +kernel

/-- An Attention Unit with ARRIVE pending for bay 5, unmasked and routed to ATTN_B. -/
def arrived : Attention :=
  { pending := 0x01#8, mask := 0xFE#8, route := 0x01#8, sets := (Tab.fill 8 0).upd 0 0x0020#16 }

/-- R178. -/
theorem test_attention_read :
    after ((awake 800).setAttention arrived) .attentionRead (fun t =>
      t.port.response == some ⟨0xAB#8, [0, 2, 1, 0xFE#8, 1, 0x20#8] ++ List.replicate 15 0⟩) = true := by
  decide +kernel

/-- R178. -/
theorem test_attention_clear :
    after ((awake 800).setAttention arrived) (.attentionClear 0xFF) (fun t =>
      t.attention.pending == 0 && t.attention.sets.get 0 == 0 && !t.attnB) = true := by decide +kernel

/-- R177: a pending cause moved to the other route. -/
theorem test_attention_configure :
    after ((awake 800).setAttention arrived) (.attentionConfigure 0xFE 0) (fun t =>
      t.attnA && !t.attnB) = true := by decide +kernel

/-- R42, R160, R173. -/
theorem test_bay_reset :
    after (place 3 1 (launched example1 .granted 1004) (drive 3 8000)) (.bayReset 3) (fun t =>
      (t.lane 3).state == .detected && t.seekAt 3 1 == none && (t.stream 3).burstLen == 4
        && t.port.response == some ⟨0xAE#8, [0, 3]⟩) = true := by decide +kernel

/-- R174: answered at its check; the reset waits for the rise of CSn. -/
theorem test_hub_reset :
    after (drive 3 8000) .hubReset (fun t =>
      t.port.resetArmed && t.now == 8000 && t.port.response == some ⟨0xAF#8, [0]⟩) = true := by
  decide +kernel

/-- R174, R170: then sample 0 begins, with cause COMMAND. -/
theorem test_hub_reset_at_csn_rise :
    after (armed (drive 3 8000)) .hubResetAtCsnRise (fun t =>
        t.now == 0 && t.port.cause == .command && (t.lane 3).state == .detected
          && t.store.epochCount == 1) = true := by decide +kernel

/-! ## The lines -/

/-- R151: a frame whose first character arrives in ABSENT is not taken; the next one, two idle times on,
is. -/
theorem test_absent_discards :
    (let chars := [0x02, 0x00, crc8 [0x02, 0x00]].map fun x => LineChar.data x true;
      receiveLine 3 .waiting ([.absent, .detected, .detected].zip chars)) = []
    ∧ (let chars := [0x02, 0x00, crc8 [0x02, 0x00]].map fun x => LineChar.data x true;
      receiveLine 3 .waiting ((.absent, .data 0x02 true) :: (.detected, .idle) :: (.detected, .idle)
        :: [.detected, .detected, .detected].zip chars)) = [.notice 3 []] := by decide +kernel

/-- R163: a HUB READ clocked in bit by bit is answered after four filler bytes; a length byte of 41 takes
nothing and MISO stays at FFh. -/
theorem test_select_period :
    (let s := (([0x22, 0x00, crc8 [0x22, 0x00], 0, 0, 0, 0].flatMap portBits).foldl
        (fun u v => sckRise v u) (csnFall (awake 8000)));
      s.misoByte = 0xA2#8 ∧ s.port.select = .answered 4 ∧ (csnRise s).misoByte = 0xFF#8)
    ∧ (let s := (([0x22, 41, 0, 0, 0, 0, 0].flatMap portBits).foldl (fun u v => sckRise v u)
        (csnFall (awake 8000)));
      s.misoByte = 0xFF#8 ∧ s.port.response = none) := by decide +kernel

/-- R163: with CSn low one request is taken, by a command as by the line, and its response follows on MISO
after four bytes, its bits changing at the falls of SCK (A0h, most significant bit first). -/
theorem test_one_request_a_period :
    after (csnFall (awake 8000)) (.settingRead 3) (fun s =>
      let u := [0x00, 0, 0, 0].flatMap portBits |>.foldl (fun u v => sckFall (sckRise v u)) s
      s.port.select == .answered 0 && after s (.attentionConfigure 1 1) (· == s)
        && u.misoBit && (sckRise false u).misoBit && !(sckFall (sckRise false u)).misoBit) = true := by
  decide +kernel

/-! ## What the witnesses share -/

theorem nothingOverdue_of_idle {s : State}
    (h1 : ∀ b : Bay, (s.stream b).burst = none ∧ (s.stream b).revisions = [])
    (h2 : s.engine = none) (h3 : s.rebuild = none) : NothingOverdue s := by
  refine ⟨fun b x h => ?_, fun b v h => ?_, fun sr h => ?_, fun m h => ?_⟩
  · simp [(h1 b).1] at h
  · simp [(h1 b).2] at h
  · simp [h2] at h
  · simp [h3] at h

theorem revisionsRead_of_none {s : State} (h : ∀ b : Bay, (s.stream b).revisions = []) :
    RevisionsRead s := by
  intro b v hv
  simp [h b] at hv

theorem queueLawful_of_idle {s : State}
    (h1 : (s.queue.map fun e => (e.bay, e.pos)).Nodup)
    (h2 : ∀ (b : Bay) (p : Pos),
      (b, p) ∈ (s.queue.map fun e => (e.bay, e.pos)) ↔ s.isPosted b p = true)
    (h3 : s.engine = none) : QueueLawful s :=
  ⟨h1, h2, fun sr h => by simp [h3] at h⟩

/-- A statement of every record of a state, from a check of each position. -/
theorem seekAt_all {s : State} {f : Bay → Pos → Seek → Bool}
    (h : ∀ (b : Bay) (p : Pos), (s.seekAt b p).all (f b p) = true) {b : Bay} {p : Pos} {r : Seek}
    (hr : s.seekAt b p = some r) : f b p r = true := by
  have := h b p
  rw [hr] at this
  exact this

theorem tagsLawful_of_check {s : State}
    (h : ∀ (b : Bay) (p : Pos), (s.seekAt b p).all (fun r =>
      decide ((s.lane b).lastExpired ≠ some r.tag)
        && positions.all fun q => decide (p = q) || (s.seekAt b q).all fun t => decide (r.tag ≠ t.tag))
      = true) : TagsLawful s := by
  refine fun b => ⟨fun p q r t hr ht he => ?_, fun p r hr => ?_⟩
  · have := seekAt_all (f := fun b p r => decide ((s.lane b).lastExpired ≠ some r.tag)
      && positions.all fun q => decide (p = q) || (s.seekAt b q).all fun t => decide (r.tag ≠ t.tag)) h hr
    simp only [Bool.and_eq_true, List.all_eq_true, Bool.or_eq_true, decide_eq_true_eq] at this
    have := this.2 q (List.mem_finRange q)
    rw [ht] at this
    rcases this with h | h
    · exact h
    · simp [he] at h
  · have := seekAt_all (f := fun b p r => decide ((s.lane b).lastExpired ≠ some r.tag)
      && positions.all fun q => decide (p = q) || (s.seekAt b q).all fun t => decide (r.tag ≠ t.tag)) h hr
    simp only [Bool.and_eq_true, decide_eq_true_eq] at this
    exact this.1

theorem tablesLawful_of_check {s : State}
    (h : ∀ b src : Bay, ∀ t ∈ [s.store.active, s.store.working, s.store.snapshot],
      (-128 ≤ ((t.get b).get src).c ∧ ((t.get b).get src).c ≤ 127 ∧ ((t.get b).get src).d ≤ 7)
        ∧ (b = src → (t.get b).get src = ⟨0, 0⟩)) : TablesLawful s :=
  ⟨fun b src => h b src _ (by simp), fun b src => h b src _ (by simp), fun b src => h b src _ (by simp)⟩

theorem accumulatorsLawful_of_check {s : State}
    (h : ∀ b src : Bay, ((match (s.setting b).rate.threshold with
      | none => decide (s.accAt b src = 0)
      | some n => decide (-(n : Int) < s.accAt b src) && decide (s.accAt b src < n))
      && (decide (b ≠ src) || decide (s.accAt b src = 0))) = true) : AccumulatorsLawful s := by
  intro b src
  have := h b src
  simp only [Bool.and_eq_true, Bool.or_eq_true, decide_eq_true_eq] at this
  refine ⟨?_, fun e => this.2.resolve_left (fun n => n e)⟩
  have h1 := this.1
  split at h1 <;> simp_all

/-- A bay with a granted seek due at the next slot start. -/
def dueSeek (x : SeekState) : State :=
  place 3 1 (launched example1 x 1004) (drive 3 8031)

theorem dueSeek_quiet (x : SeekState) : NothingOverdue (dueSeek x) :=
  nothingOverdue_of_idle (by cases x <;> decide +kernel) rfl rfl

/-! ## Witnesses: the step, the resets and the time base -/

theorem witness_StepTakesFrontOrCountsAPeriod :
    ((awake 0).setPending [.hubRead]).pending = [.hubRead]
    ∧ (State.reset.pending = [] ∧ State.reset.pins.resetHeld = true)
    ∧ ((awake 0).pending = [] ∧ (awake 0).pins.resetHeld = false
      ∧ (awake 0).time.divider + 1 < (awake 0).time.divisor)
    ∧ (let s := (awake 0).setTime { State.reset.time with divider := 999 }
      s.pending = [] ∧ s.pins.resetHeld = false ∧ s.time.divisor ≤ s.time.divider + 1) := by
  decide +kernel

theorem witness_ReleaseBeginsSampleZero :
    let s := State.reset.setPins { State.reset.pins with present := (Tab.fill 16 false).upd 5 true }
    HeldAtReset s ∧ s.pins.resetHeld = true :=
  ⟨fun _ => ⟨Store.reset, .power, rfl⟩, rfl⟩

theorem witness_HubResetIsPinResetByCommand :
    (∃ s t, s.port.resetArmed = true ∧ exec .pinReset s = .next t ∧ s.now = 8000)
    ∧ (drive 3 8000).port.resetArmed = false :=
  ⟨⟨armed (drive 3 8000), _, rfl, rfl, rfl⟩, rfl⟩

theorem witness_BoundaryAdvancesTheSample_welcome :
    let s := (drive 3 8031).setTime { (drive 3 8031).time with pendingDivisor := some 500 }
    s.pins.resetHeld = false ∧ NothingOverdue s ∧ NothingOverdue (drive 3 8031)
      ∧ s.time.pendingDivisor = some 500 ∧ (drive 3 8031).time.pendingDivisor = none
      ∧ ((s.lane 3).state = .ready ∧ s.hasRoom 3 6) ∧ (s.lane 4).state ≠ .ready :=
  ⟨rfl, nothingOverdue_of_idle (by decide +kernel) rfl rfl,
    nothingOverdue_of_idle (by decide +kernel) rfl rfl, rfl, rfl,
    ⟨by decide +kernel, by show (_ : Nat) ≤ _; decide +kernel⟩, by decide +kernel⟩

theorem witness_BoundaryAdvancesTheSample :
    (drive 3 8030).pins.resetHeld = false
    ∧ (drive 3 8031).slotStartNext = true ∧ (drive 3 8030).slotStartNext = false
    ∧ ((drive 3 2047).setStore { Store.reset with epochCount := 255 }).epochEndNext = true
    ∧ ((drive 3 2047).setStore { Store.reset with epochCount := 254 }).epochEndNext = false := by
  decide +kernel

theorem witness_HistoryGainsTheNewSample :
    (dueSeek .granted).pins.resetHeld = false ∧ NothingOverdue (dueSeek .granted) :=
  ⟨rfl, dueSeek_quiet _⟩

/-- A part in sample 8011: a run of 12 from 8000 about to end in bay 3, an empty DRAINING stream in bay
5. -/
def midSlot : State :=
  (place 3 1 (launched (posted [⟨60, 12⟩] 1 998) .running 1000) (drive 3 8011)).putStream 5
    (stream8 .draining)

theorem witness_MidSlotBoundary :
    midSlot.pins.resetHeld = false ∧ NothingOverdue midSlot ∧ RevisionsRead midSlot
      ∧ midSlot.slotStartNext = false ∧ midSlot.time.pendingDivisor = none
      ∧ (midSlot.seekAt 3 1).map (fun r => (r.state, r.launchAt + BitVec.ofNat 32 r.runEnd))
        = some (.running, midSlot.now + 1)
      ∧ (midSlot.stream 5).state = .draining
      ∧ ((midSlot.stream 5).delivery.filter fun x =>
          x.first + BitVec.ofNat 32 x.burst ≠ midSlot.now + 1) = [] :=
  ⟨rfl, nothingOverdue_of_idle (by decide +kernel) rfl rfl,
    revisionsRead_of_none (by decide +kernel), by decide +kernel, rfl, by decide +kernel,
    by decide +kernel, by decide +kernel⟩

theorem witness_LaunchSlotStartsOrExpiresTheSeek (x : SeekState) (hx : x = .committed ∨ x = .granted) :
    let s := dueSeek x
    let r := launched example1 x 1004
    s.pins.resetHeld = false ∧ NothingOverdue s ∧ s.slotStartNext = true ∧ s.hasRoom 3 6
      ∧ s.seekAt 3 1 = some r ∧ r.state = x ∧ r.launch = some (slotOf (s.now + 1))
      ∧ ∀ (q : Pos) (y : Seek), q ≠ 1 → s.seekAt 3 q = some y →
          y.launch ≠ some (slotOf (s.now + 1)) := by
  refine ⟨rfl, dueSeek_quiet x, ?_, ?_, ?_, rfl, ?_, fun q y hq hy => ?_⟩
  · rcases hx with rfl | rfl <;> decide +kernel
  · show (_ : Nat) ≤ _
    rcases hx with rfl | rfl <;> decide +kernel
  · rcases hx with rfl | rfl <;> decide +kernel
  · rcases hx with rfl | rfl <;> decide +kernel
  · have : ∀ q : Pos, q ≠ 1 → (dueSeek x).seekAt 3 q = none := by
      rcases hx with rfl | rfl <;> decide +kernel
    rw [this q hq] at hy
    cases hy

/-- The granted seek of `dueSeek`, with bay 5's RUNNING stream coupled to it and one record ahead. -/
def expiring : State :=
  (withReady 5 (couple 5 3 48 2 (dueSeek .granted))).putStream 5
    { stream8 .running with delivery := [⟨8040, 8, false⟩] }

theorem expiring_granted {c : Bay} {q : Pos} {x : Seek} (h : (c, q) ≠ (3, 1)) :
    expiring.seekAt c q ≠ some x := by
  have key : ∀ (c : Bay) (q : Pos), (c, q) ≠ (3, 1) → expiring.seekAt c q = none := by decide +kernel
  simp [key c q h]

theorem witness_LaunchSlotStartsOrExpiresTheSeek_streams :
    let s := expiring
    let r := launched example1 .granted 1004
    s.pins.resetHeld = false ∧ NothingOverdue s ∧ RevisionsRead s ∧ s.slotStartNext = true
      ∧ s.epochEndNext = false ∧ (∀ c, s.hasRoom c 6) ∧ s.seekAt 3 1 = some r ∧ s.rebuild = none
      ∧ r.state = .granted ∧ r.launch = some (slotOf (s.now + 1))
      ∧ (∀ (c : Bay) (q : Pos) (x : Seek), (c, q) ≠ (3, 1) → s.seekAt c q = some x →
          x.state = .granted → x.launch ≠ some (slotOf (s.now + 1)))
      ∧ (s.stream 5).state = .running ∧ (s.coeff 5 3).c ≠ 0 :=
  ⟨rfl, nothingOverdue_of_idle (by decide +kernel) rfl rfl, revisionsRead_of_none (by decide +kernel),
    by decide +kernel, by decide +kernel,
    (by decide +kernel : ∀ c : Bay, (expiring.lane c).queue.length + 6 ≤ 32), by decide +kernel, rfl,
    rfl, by decide +kernel, fun _ _ _ h hs => absurd hs (expiring_granted h), by decide +kernel,
    by decide +kernel⟩

theorem witness_SlotStartMarksAndRecycles_holds :
    let s := drive 3 8031
    NothingOverdue s ∧ s.epochEndNext = false ∧ (∀ c, s.hasRoom c 6)
      ∧ ∀ (c : Bay) (q : Pos) (x : Seek), s.seekAt c q ≠ some x :=
  ⟨nothingOverdue_of_idle (by decide +kernel) rfl rfl, by decide +kernel,
    (by decide +kernel : ∀ c : Bay, ((drive 3 8031).lane c).queue.length + 6 ≤ 32),
    fun c q x h => by
      have key : ∀ (c : Bay) (q : Pos), (drive 3 8031).seekAt c q = none := by decide +kernel
      rw [key c q] at h
      cases h⟩

theorem witness_SlotStartMarksAndRecycles :
    let s := drive 3 8031
    s.pins.resetHeld = false ∧ s.slotStartNext = true ∧ NothingOverdue s ∧ s.rebuild = none
      ∧ ((s.lane 3).state = .ready ∧ s.hasRoom 3 6) ∧ (s.lane 4).state ≠ .ready :=
  ⟨rfl, by decide +kernel, nothingOverdue_of_idle (by decide +kernel) rfl rfl, rfl,
    ⟨by decide +kernel, by show (_ : Nat) ≤ _; decide +kernel⟩, by decide +kernel⟩

/-- A part about to take the 256th slot start, its working table unlike its active table. -/
def atEpochEnd : State :=
  (drive 3 2047).setStore { Store.reset with
    epochCount := 255, working := CoeffTable.zero.upd 3 ((Tab.fill 16 ⟨0, 0⟩).upd 1 ⟨5, 0⟩) }

theorem witness_EpochEndCommitsOrDefers :
    ((drive 3 8031).pins.resetHeld = false ∧ (drive 3 8031).slotStartNext = true
      ∧ (drive 3 8031).epochEndNext = false ∧ (drive 3 8031).rebuild = none)
    ∧ (let s := (drive 3 8031).setRebuild (some 8025)
      s.pins.resetHeld = false ∧ s.slotStartNext = true ∧ s.epochEndNext = false
        ∧ s.rebuild = some 8025 ∧ (s.now - 8025).toNat < 7)
    ∧ (atEpochEnd.pins.resetHeld = false ∧ atEpochEnd.epochEndNext = true ∧ atEpochEnd.rebuild = none
      ∧ atEpochEnd.store.working ≠ atEpochEnd.store.active)
    ∧ (let s := (drive 3 2047).setStore { Store.reset with epochCount := 255 }
      s.pins.resetHeld = false ∧ s.epochEndNext = true ∧ s.rebuild = none
        ∧ s.store.working = s.store.active)
    ∧ (let s := atEpochEnd.setRebuild (some 2041)
      s.epochEndNext = true ∧ s.rebuild = some 2041 ∧ (s.now - 2041).toNat < 7) := by
  decide +kernel

theorem witness_RebuildWritesTheCalendar :
    (awake 776).rebuild = none
    ∧ ((awake 776).setRebuild (some 770)).rebuild = some 770
    ∧ (let s := (atEpochEnd.setStore { atEpochEnd.store with commitDue := true }).setRebuild (some 2041)
      s.rebuild = some 2041 ∧ s.store.commitDue = true ∧ s.store.working ≠ s.store.active) := by
  decide +kernel

/-! ## Witnesses: admission -/

theorem witness_SearchStartTakesOldestUnheld :
    (searchStart (admission 100)).engine ≠ none
    ∧ ((admission 100).setRebuild (some 770)).rebuild ≠ none
    ∧ ((admission 100).engine = none ∧ (admission 100).rebuild = none) := by
  decide +kernel

/-- The POSTED seek of the worked own-bay spacing of 04_admission.md. -/
def spacedSeek : Seek :=
  { example1 with earliest := 502, latest := 533, span := 20 }

/-- Tag 1 granted at 510 with a run of 320, the other POSTED, in slot 501. -/
def spacing : State :=
  place 8 1 spacedSeek
    (place 8 0 { launched example1 .granted 510 with tag := 1, length := 320 } (drive 8 4008))

theorem witness_CandidatesKeepTheBounds :
    spacing.seekAt 8 1 = some spacedSeek
    ∧ (∀ x ∈ [spacedSeek.earliest, spacedSeek.latest],
        -(2 ^ 26) ≤ (x - spacing.slot).toInt ∧ (x - spacing.slot).toInt ≤ 2 ^ 26)
    ∧ spacedSeek.span ≤ 56
    ∧ (∀ (q : Pos) (x : Seek) (l : Slot), q ≠ 1 → spacing.seekAt 8 q = some x → x.state ≠ .posted →
        x.launch = some l →
        -(2 ^ 26) ≤ (l - spacing.slot).toInt ∧ (l - spacing.slot).toInt ≤ 2 ^ 26 ∧ x.runEnd ≤ 320)
    ∧ (spacing.seekAt 8 0).map (fun x => (x.state, x.launch)) = some (.granted, some 510) := by
  refine ⟨rfl, List.forall_mem_cons.mpr ⟨by decide +kernel, List.forall_mem_cons.mpr
    ⟨by decide +kernel, fun x hx => absurd hx (by simp)⟩⟩, by decide +kernel,
    fun q x l hq hx _ hl => ?_, by decide +kernel⟩
  have key : ∀ q : Pos, q ≠ 1 → (spacing.seekAt 8 q).all (fun x => x.launch.all fun l =>
      decide (-(2 ^ 26) ≤ (l - spacing.slot).toInt ∧ (l - spacing.slot).toInt ≤ 2 ^ 26
        ∧ x.runEnd ≤ 320)) = true := by decide +kernel
  have := key q hq
  rw [hx] at this
  simp only [Option.all_some, hl, decide_eq_true_eq] at this
  exact this

/-- The search of the worked admission, written out: start slot 97, bay 3 alone tested. -/
def workedSearch (limit : Nat) : Search :=
  { bay := 2, pos := 0, startSample := 776, startSlot := 97, span := 3, mags := [80, 80, 40]
    earliest := 102, latest := 106, others := []
    tested := [{ bay := 3, c := -32, limit := limit, row := (Tab.gen 64 fun p =>
      if 36 ≤ p.val ∧ p.val ≤ 40 then 90 else 0) }]
    workEarliest := 102, workLatest := 106, candidates := [102, 103, 104, 105, 106] }

/-- The same for a seek of one slot. -/
def smallSearch (limit : Nat) : Search :=
  { workedSearch limit with span := 1, mags := [80], candidates := [104, 105, 106] }

theorem witness_ChosenSlotFitsOrHarmsLeast :
    { smallSearch 100 with candidates := [] }.candidates = []
    ∧ ((smallSearch 100).candidates = [104] ++ 105 :: [106]
      ∧ (∀ x ∈ [(104 : Slot)], fits (smallSearch 100) x = false) ∧ fits (smallSearch 100) 105 = true)
    ∧ ((smallSearch 30).candidates = [104] ++ 105 :: [106]
      ∧ (∀ x ∈ (smallSearch 30).candidates, fits (smallSearch 30) x = false)
      ∧ (∀ x ∈ [(104 : Slot)], worstExcess (smallSearch 30) 105 < worstExcess (smallSearch 30) x)
      ∧ ∀ x ∈ [(106 : Slot)], worstExcess (smallSearch 30) 105 ≤ worstExcess (smallSearch 30) x) := by
  refine ⟨rfl, ⟨by decide +kernel, ?_, by decide +kernel⟩, by decide +kernel, ?_, ?_, ?_⟩ <;>
    simp only [smallSearch, List.forall_mem_cons, List.not_mem_nil, false_implies, implies_true,
      and_true] <;>
    decide +kernel

theorem witness_CompletedSearchGrants (limit : Nat) (h : limit = 100 ∨ limit = 30) :
    let s := (admission limit).setEngine (some (workedSearch limit))
    s.engine = some (workedSearch limit) ∧ s.seekAt 2 0 = some seekTag5
      ∧ (∃ o, chooseSlot (workedSearch limit) = some (105, o))
      ∧ atOrBefore (s.slot + 2) 105 = true ∧ s.hasRoom 2 1 := by
  rcases h with rfl | rfl
  · exact ⟨rfl, rfl, ⟨false, by decide +kernel⟩, by decide +kernel,
      by show (_ : Nat) ≤ _; decide +kernel⟩
  · exact ⟨rfl, rfl, ⟨true, by decide +kernel⟩, by decide +kernel,
      by show (_ : Nat) ≤ _; decide +kernel⟩

/-- The seek of the worked overtaken search: lead 2, window 0, taken in slot 300. -/
def seekTag2 : Seek :=
  { posted [⟨10, 22⟩] 7 300 with tag := 2 }

/-- Its state in sample `m`. -/
def overtaken (m : Sample) : State :=
  queued 6 0 (place 6 0 seekTag2 (drive 6 m))

/-- The search begun in sample 2413, written out: one candidate, no bay tested. -/
def overtakenSearch : Search :=
  { bay := 6, pos := 0, startSample := 2413, startSlot := 301, span := 4, mags := [10, 10, 10, 9]
    earliest := 302, latest := 302, others := [], tested := [], workEarliest := 303, workLatest := 302
    candidates := [303] }

/-- It has reached sample 2418, in slot 302. -/
def overtakenNow : State :=
  (overtaken 2418).setEngine (some overtakenSearch)

/-- The same with another seek of the bay that runs up to slot 370. -/
def overtakenHeld : State :=
  place 6 1 (launched (posted [⟨10, 320⟩] 7 300) .granted 330) overtakenNow

theorem witness_OvertakenSearchIsRerun :
    (awake 0).engine = none
    ∧ (let sr := overtakenSearch
      chooseSlot sr = some (303, false)
      ∧ (∀ s ∈ [overtakenNow, overtakenHeld, overtakenNow.setRebuild (some 2416)],
          s.engine = some sr ∧ s.seekAt sr.bay sr.pos = some seekTag2
            ∧ atOrBefore (s.slot + 2) 303 = false)
      ∧ (overtakenNow.setRebuild (some 2416)).rebuild ≠ none
      ∧ (overtakenNow.rebuild = none ∧ (prepareSearch overtakenNow sr.bay sr.pos seekTag2).candidates ≠ [])
      ∧ (overtakenHeld.rebuild = none
        ∧ (prepareSearch overtakenHeld sr.bay sr.pos seekTag2).candidates = [])) := by
  decide +kernel

/-! ## Witnesses: correction streams -/

theorem witness_CompletedBurstIsDelivered :
    ((drive 5 16048).stream 5).burst = none
    ∧ (∃ x, (bursting.stream 5).burst = some x) ∧ bursting.hasRoom 5 1 ∧ RevisionsRead bursting :=
  ⟨by decide +kernel, ⟨_, rfl⟩, by show (_ : Nat) ≤ _; decide +kernel,
    revisionsRead_of_none (by decide +kernel)⟩

/-- A stream with a revision of the record for 16000 in computation. -/
def revising : State :=
  (drive 5 16003).putStream 5 { stream8 .running with
    delivery := [⟨16000, 8, true⟩], revisions := [⟨16000, 16002, [-9, 5, 6, 4]⟩] }

theorem witness_CompletedRevisionIsSent :
    (∀ v ∈ ((drive 5 16003).stream 5).revisions, v.record ≠ 16000)
    ∧ (revising.stream 5).revisions = [] ++ ⟨16000, 16002, [-9, 5, 6, 4]⟩ :: []
    ∧ revising.hasRoom 5 1
    ∧ (∀ (b : Bay), ∀ v ∈ (revising.stream b).revisions, v.values ≠ []) :=
  ⟨by decide +kernel, by decide +kernel, by show (_ : Nat) ≤ _; decide +kernel, by decide +kernel⟩

theorem witness_DrainedStreamStops :
    (let s := (drive 5 16088).putStream 5 (stream8 .draining);
      (s.stream 5).state = .draining ∧ (s.stream 5).delivery = [])
    ∧ (let s := (drive 5 16087).putStream 5 { stream8 .draining with delivery := [⟨16080, 8, false⟩] };
      (s.stream 5).delivery ≠ [])
    ∧ ((drive 5 16087).stream 5).state ≠ .draining := by decide +kernel

/-- Stream 5 in the worked revisions of 06_correction_streams.md, during sample 16002. -/
def fiveRecords : Stream :=
  { stream8 .running with
    delivery := [⟨16000, 8, false⟩, ⟨16008, 8, false⟩, ⟨16016, 8, false⟩, ⟨16024, 8, false⟩,
      ⟨16032, 8, true⟩]
    coverage := some ⟨16000, 16039⟩
    burst := some { first := 16040, pendingChange := false, start := 16002, values := [0] } }

theorem witness_ForecastChangeRevises :
    let s := (couple 5 4 48 2 (drive 5 16002)).putStream 5 fiveRecords
    let t := s.putStream 5 { fiveRecords with burst := none };
    ((16047 : Sample) - 16003).toNat < 2 ^ 16
      ∧ (s.stream 6).state = .off ∧ (s.coeff 5 6).c = 0
      ∧ (∀ u ∈ [s, t], (5 : Bay) ≠ 4 ∧ (u.stream 5).state = .running ∧ (u.coeff 5 4).c ≠ 0)
      ∧ (t.stream 5).burst = none
      ∧ (s.stream 5).burst.isSome = true ∧ (s.stream 5).burstLen = 8 := by decide +kernel

theorem witness_EnableStartsStream :
    (drive 5 800).portTakes = true
    ∧ (((drive 5 800).putStream 5 (stream8 .running)).stream 5).state ≠ .off
    ∧ (((drive 5 800).putStream 5 (stream8 .draining)).stream 5).state = .draining
    ∧ (((awake 800).stream 5).state = .off ∧ ((awake 800).lane 5).state ≠ .ready)
    ∧ (((drive 5 800).stream 5).state = .off ∧ ((drive 5 800).lane 5).state = .ready)
    ∧ (let s := (drive 5 800).putStream 5 (stream8 .starting);
      (s.stream 5).state = .starting ∧ (takeSetting true defaultFields).burst = (s.setting 5).burst
        ∧ (takeSetting true defaultFields).lead = (s.setting 5).lead)
    ∧ (takeSetting true clampedFields).burst ≠ ((drive 5 800).setting 5).burst := by decide +kernel

theorem witness_DisableStopsStream :
    (∀ u ∈ [stream8 .off, stream8 .draining, stream8 .starting, stream8 .running,
        { stream8 .running with delivery := [⟨16080, 8, false⟩], coverage := some ⟨16080, 16087⟩ }],
      let s := (drive 5 16048).putStream 5 u
      s.portTakes = true ∧ s.stream 5 = u ∧ (s.lane 5).queue.length + 1 ≤ 32
        ∧ (∀ b : Bay, (s.stream b).revisions = [])
        ∧ (takeSetting true defaultFields).burst = (s.setting 5).burst
        ∧ (takeSetting true defaultFields).lead = (s.setting 5).lead)
    ∧ (takeSetting true clampedFields).lead ≠ ((drive 5 16048).setting 5).lead := by decide +kernel

/-! ## Witnesses: lanes -/

theorem witness_TransmitTakesTheHead :
    ((awake 800).lane 6).queue = []
    ∧ (((awake 800).putLane 6 { readyLane with queue := [.tardy 6, .mark 800] }).lane 6).queue
      = .tardy 6 :: [.mark 800] := by decide +kernel

/-- Every bay empty. -/
def empty (held : Bool) : State :=
  (awake 800).setPins { present := Tab.fill 16 false, resetHeld := held }

theorem witness_PresenceRiseDetects :
    (awake 800).pins.present.get 15 = true
    ∧ ((empty true).pins.present.get 15 = false ∧ (empty true).pins.resetHeld = true)
    ∧ ((empty false).pins.present.get 15 = false ∧ (empty false).pins.resetHeld = false
      ∧ ((empty false).lane 15).state = .absent) := by decide +kernel

/-- A READY bay with a granted seek, nothing in the queue. -/
def holding : State :=
  place 3 1 (launched example1 .granted 1004) (drive 3 8000)

theorem holding_queue : QueueLawful holding :=
  queueLawful_of_idle (by decide +kernel) (by decide +kernel) rfl

theorem witness_PresenceFallLosesTheDrive :
    (empty false).pins.present.get 3 = false
    ∧ (let s := (awake 800).setPins { (awake 800).pins with resetHeld := true }
      s.pins.present.get 3 = true ∧ s.pins.resetHeld = true)
    ∧ (holding.pins.present.get 3 = true ∧ holding.pins.resetHeld = false ∧ QueueLawful holding
      ∧ RevisionsRead holding ∧ (holding.lane 3).state = .ready ∧ (holding.lane 4).state ≠ .ready) :=
  ⟨by decide +kernel, by decide +kernel, by decide +kernel, rfl, holding_queue,
    revisionsRead_of_none (by decide +kernel), by decide +kernel, by decide +kernel⟩

theorem witness_BadFramesAndOverflowFaultTheLane :
    ((awake 800).lane 3).state ≠ .ready
    ∧ ((drive 3 800).lane 3).state = .ready ∧ ((drive 3 800).lane 3).bad < 3
    ∧ (let s := holding.putLane 3 { readyLane with bad := 3 };
      (s.lane 3).state = .ready ∧ (s.lane 3).bad = 3 ∧ QueueLawful s)
    ∧ (let s := holding.putLane 3 { readyLane with queue := List.replicate 32 (.mark 0) };
      (s.lane 3).queue.length = 32 ∧ (s.lane 3).state = .ready ∧ QueueLawful s)
    ∧ (let s := (awake 800).putLane 3 { Lane.reset with
        state := .detected, queue := List.replicate 32 (.refuse none .notReady 2) }
      (s.lane 3).queue.length = 32 ∧ (s.lane 3).state = .detected ∧ RevisionsRead s) :=
  ⟨by decide +kernel, by decide +kernel, by decide +kernel,
    ⟨by decide +kernel, by decide +kernel,
      queueLawful_of_idle (by decide +kernel) (by decide +kernel) rfl⟩,
    ⟨by decide +kernel, by decide +kernel,
      queueLawful_of_idle (by decide +kernel) (by decide +kernel) rfl⟩,
    by decide +kernel, by decide +kernel, revisionsRead_of_none (by decide +kernel)⟩

theorem witness_OverflowTakesTheOtherSteps :
    (let s := full 2 ((admission 30).setEngine (some (workedSearch 30)));
      s.engine = some (workedSearch 30) ∧ s.seekAt 2 0 = some seekTag5
        ∧ chooseSlot (workedSearch 30) = some (105, true) ∧ atOrBefore (s.slot + 2) 105 = true
        ∧ (s.lane 2).state = .ready ∧ (s.lane 2).queue.length = 32 ∧ QueueLawful s)
    ∧ (∀ u ∈ [stream8 .starting, stream8 .running,
        { stream8 .running with delivery := [⟨16080, 8, false⟩], coverage := some ⟨16080, 16087⟩ }],
      let s := full 3 (holding.putStream 3 u);
      s.portTakes = true ∧ s.stream 3 = u ∧ (s.lane 3).state = .ready
        ∧ (s.lane 3).queue.length = 32
        ∧ (takeSetting true defaultFields).burst = (s.setting 3).burst
        ∧ (takeSetting true defaultFields).lead = (s.setting 3).lead)
    ∧ QueueLawful (full 3 holding)
    ∧ ((full 5 bursting).stream 5).burst ≠ none ∧ ((full 5 revising).stream 5).revisions ≠ []
    ∧ (let s := full 6 ((awake 800).putLane 6 { Lane.reset with state := .detected });
      (s.lane 6).state = .detected ∧ (s.lane 6).queue.length = 32 ∧ QueueLawful s)
    ∧ (let s := full 3 (dueSeek .granted);
      s.pins.resetHeld = false ∧ NothingOverdue s ∧ s.slotStartNext = true
        ∧ (s.lane 3).state = .ready ∧ (s.lane 3).queue.length = 32
        ∧ s.seekAt 3 1 = some (launched example1 .granted 1004)
        ∧ (launched example1 .granted 1004).launch = some (slotOf (s.now + 1))
        ∧ ∀ q : Pos, q ≠ 1 → s.seekAt 3 q = none) := by
  refine ⟨⟨rfl, rfl, by decide +kernel, by decide +kernel, by decide +kernel, by decide +kernel, ?_⟩,
    by decide +kernel, queueLawful_of_idle (by decide +kernel) (by decide +kernel) rfl,
    by decide +kernel, by decide +kernel,
    ⟨by decide +kernel, by decide +kernel,
      queueLawful_of_idle (by decide +kernel) (by decide +kernel) rfl⟩,
    rfl, nothingOverdue_of_idle (by decide +kernel) rfl rfl, by decide +kernel, by decide +kernel,
    by decide +kernel, by decide +kernel, by decide +kernel, by decide +kernel⟩
  refine ⟨by decide +kernel, by decide +kernel, fun sr h => ?_⟩
  cases h
  exact ⟨by decide +kernel, by decide +kernel⟩

theorem witness_FramesAreJudgedInOrder :
    (((awake 800).lane 6).state = .absent ∧ RevisionsRead (awake 800))
    ∧ (let s := (awake 800).putLane 6 { Lane.reset with state := .fault };
      (s.lane 6).state ≠ .absent ∧ s.hasRoom 6 1 ∧ RevisionsRead s ∧ (s.lane 6).state ≠ .ready
        ∧ [0x06#8].length = 1 ∧ ([] : List Byte).length ≠ 1 ∧ ([] : List Byte).length ≠ 7
        ∧ [0x02#8, 8, 64, 0, 0, 0, 0].head? ≠ some 0x01#8) :=
  ⟨⟨by decide +kernel, revisionsRead_of_none (by decide +kernel)⟩, by decide +kernel,
    by show (_ : Nat) ≤ _; decide +kernel, revisionsRead_of_none (by decide +kernel), by decide +kernel,
    rfl, by decide, by decide, by decide⟩

theorem witness_HelloAdmitsTheDrive :
    ∀ x ∈ [LaneState.detected, .fault],
      let s := (awake 800).putLane 6 { Lane.reset with state := x };
      ((s.lane 6).state = .detected ∨ (s.lane 6).state = .fault) ∧ (s.lane 6).queue.length + 1 ≤ 32
        ∧ ∀ b : Bay, (s.stream b).revisions = [] := by decide +kernel

theorem witness_HelloRestartsTheDrive : (holding.lane 3).state = .ready ∧ QueueLawful holding :=
  ⟨by decide +kernel, holding_queue⟩

/-! ## Witnesses: seeks -/

theorem witness_NoticeIsReadAsCarried :
    let body : List SegmentEntry := [⟨90, 40, 0⟩, ⟨0, 24, 0⟩];
    (∀ e ∈ body, e.marker.getLsbD 0 = false)
      ∧ ((⟨0xA6, 40, 1⟩ : SegmentEntry).marker.getLsbD 0 = true
        ∧ (body ++ [(⟨0xA6, 40, 1⟩ : SegmentEntry)]).length ≤ 6)
      ∧ (6 < (body ++ body ++ body ++ [(⟨0xA6, 40, 1⟩ : SegmentEntry)]).length
        ∧ ∀ e ∈ body ++ body ++ body, e.marker.getLsbD 0 = false)
      ∧ ([0x00#8] : List Byte) ≠ []
      ∧ ((⟨0xA6, 40, 0⟩ : SegmentEntry).marker.getLsbD 0 = false ∧ ([0, 0] : List Byte).length < 3) := by
  decide +kernel

/-- The payload and the state of example 1 of 01_seek_profiles.md. -/
def notice1 : List Byte :=
  [9, 4, 10, 90, 40, 0, 0, 24, 0, 0xA6, 40, 1]

/-- Bay 7 with live seeks at the positions listed, tagged by position. -/
def occupied (ps : List Pos) : State :=
  ps.foldl (fun s p => place 7 p { posted [⟨9, 9⟩] 4 998 with tag := BitVec.ofNat 4 p.val } s)
    (drive 7 8000)

theorem occupied_tags (ps : List Pos) (tag : Tag) (h : ∀ q : Pos,
    ((occupied ps).seekAt 7 q).all (fun r => decide (r.tag ≠ tag)) = true) (q : Pos) (r : Seek)
    (hr : (occupied ps).seekAt 7 q = some r) : r.tag ≠ tag := by
  have := h q
  rw [hr] at this
  simpa using this

theorem witness_AcceptedNoticeIsPosted :
    let s := occupied [0, 2]
    ∃ n, readNotice notice1 = some n ∧ (s.lane 7).state = .ready ∧ RevisionsRead s
      ∧ s.seekAt 7 1 = none ∧ (∀ q : Pos, q < 1 → s.seekAt 7 q ≠ none)
      ∧ (∀ q r, s.seekAt 7 q = some r → r.tag ≠ n.tag)
      ∧ (n.segments.map Segment.duration).sum ≤ 320 :=
  ⟨⟨9, false, 4, 10, [⟨90, 40⟩, ⟨0, 24⟩, ⟨-90, 40⟩]⟩, by decide +kernel, by decide +kernel,
    revisionsRead_of_none (by decide +kernel), by decide +kernel, by decide +kernel,
    occupied_tags _ _ (by decide +kernel), by decide +kernel⟩

theorem witness_RefusedNoticeChangesNothing :
    (∀ ps ∈ [[0, 2], [0, 1, 2, 3]],
      ((occupied ps).lane 7).state = .ready ∧ ((occupied ps).lane 7).queue.length + 1 ≤ 32
        ∧ ∀ b : Bay, ((occupied ps).stream b).revisions = [])
    ∧ readNotice [9, 4, 10, 90, 40, 0] = none
    ∧ (∀ q : Pos, (occupied [0, 1, 2, 3]).seekAt 7 q ≠ none)
    ∧ ((occupied [0, 2]).seekAt 7 1 = none
      ∧ ((occupied [0, 2]).seekAt 7 2).map Seek.tag = some 2
      ∧ (readNotice [2, 4, 10, 90, 40, 1]).map Notice.tag = some 2)
    ∧ ((readNotice [4, 4, 10, 50, 0, 0, 0xCE, 80, 1]).map fun n =>
        decide (n.tag = 4 ∧ 320 < (n.segments.map Segment.duration).sum)) = some true
    ∧ (∀ q : Pos, ((occupied [0, 2]).seekAt 7 q).all (fun r => decide (r.tag ≠ 4)) = true) := by
  decide +kernel

/-- Bay 3 with example 1 in state `x`, launched in slot 1004 unless POSTED, in slot 1000. -/
def tagged (x : SeekState) : State :=
  place 3 1 (if x = .posted then example1 else launched example1 x 1004) (drive 3 8000)

theorem tagged_states (x : SeekState) :
    RevisionsRead (tagged x) ∧ TagsLawful (tagged x) ∧ ((tagged x).lane 3).state = .ready :=
  ⟨revisionsRead_of_none (by cases x <;> decide +kernel),
    tagsLawful_of_check (by cases x <;> decide +kernel), by cases x <;> decide +kernel⟩

theorem witness_CommitBindsTheGrantedSeek :
    (∀ x ∈ [SeekState.granted, .posted, .committed, .running, .tail],
      (((tagged x).lane 3).state = .ready ∧ ((tagged x).lane 3).queue.length + 1 ≤ 32)
        ∧ ((tagged x).seekAt 3 1).map (fun r => (r.tag, r.state))
          = some ((0xF9#8).extractLsb' 0 4, x))
    ∧ (∀ q : Pos, ((tagged .granted).seekAt 3 q).all
        (fun r => decide (r.tag ≠ (0x06#8).extractLsb' 0 4)) = true) := by decide +kernel

theorem witness_AbortWithdrawsTheSeek :
    (∀ x ∈ [SeekState.granted, .posted, .committed, .tail],
      ((tagged x).seekAt 3 1).map (fun r => (r.tag, r.state))
          = some ((0xF9#8).extractLsb' 0 4, x))
    ∧ (∀ q : Pos, ((tagged .granted).seekAt 3 q).all
        (fun r => decide (r.tag ≠ (0x06#8).extractLsb' 0 4)) = true) := by decide +kernel

/-- The seek of example 4 of 01_seek_profiles.md, running from slot 2000. -/
def seek11 : Seek :=
  launched (posted [⟨127, 8⟩, ⟨0, 8⟩] 4 1998) .running 2000

theorem seek11_compiled : seek11.Compiled := by
  unfold Seek.Compiled
  decide +kernel

theorem seek11_timely : seek11.Timely 16007 := by
  refine ⟨by decide +kernel, by decide +kernel, by decide +kernel, ?_⟩
  exact ⟨by decide +kernel, by decide +kernel⟩

theorem witness_AbortCutsTheRun :
    let s := place 11 0 seek11 (drive 11 16007);
    (s.lane 11).state = .ready ∧ RevisionsRead s ∧ TagsLawful s ∧ s.seekAt 11 0 = some seek11
      ∧ seek11.tag = (0x00#8).extractLsb' 0 4 ∧ seek11.state = .running ∧ seek11.abortIndex = none
      ∧ seek11.launch = some 2000 ∧ seek11.Compiled ∧ seek11.Timely s.now :=
  ⟨by decide +kernel, revisionsRead_of_none (by decide +kernel), tagsLawful_of_check (by decide +kernel),
    by decide +kernel, by decide +kernel, rfl, rfl, rfl, seek11_compiled, seek11_timely⟩

/-- A run that ends at level 0 and so has no tail, in its last sample: its cut changes no sample. -/
def seekToZero : Seek :=
  launched (posted [⟨127, 4⟩, ⟨0, 4⟩] 4 1998) .running 2000

theorem witness_AbortCutsTheRun_at_its_end :
    let s := place 11 0 seekToZero (drive 11 16007);
    (s.lane 11).state = .ready ∧ RevisionsRead s ∧ TagsLawful s ∧ s.seekAt 11 0 = some seekToZero
      ∧ seekToZero.tag = (0x00#8).extractLsb' 0 4 ∧ seekToZero.state = .running
      ∧ seekToZero.abortIndex = none ∧ seekToZero.launch = some 2000 ∧ seekToZero.Compiled
      ∧ seekToZero.Timely s.now ∧ max (seekToZero.length + seekToZero.tailLen) (8 + 0) ≤ 8 := by
  refine ⟨by decide +kernel, revisionsRead_of_none (by decide +kernel),
    tagsLawful_of_check (by decide +kernel), by decide +kernel, rfl, rfl, rfl, rfl, ?_, ?_,
    by decide +kernel⟩
  · unfold Seek.Compiled
    decide +kernel
  · exact ⟨by decide +kernel, by decide +kernel, by decide +kernel, by decide +kernel,
      by decide +kernel⟩

/-! ## Witnesses: adaptation -/

theorem witness_UsedResidualCounts (acc : Int) (h : acc = 127 ∨ acc = -127 ∨ acc = 5) :
    let s := atLimit acc
    let m : Sample := 0x00#8 ++ 0x00#8 ++ 0x4E#8 ++ 0x48#8;
    (s.lane 12).state = .ready ∧ RevisionsRead s ∧ TablesLawful s ∧ AccumulatorsLawful s
      ∧ 1 ≤ (s.now - m).toInt ∧ (s.now - m).toInt ≤ 64
      ∧ (∃ c, (s.stream 12).coverage = some c ∧ 0 ≤ (m - c.first).toInt ∧ 0 ≤ (c.last - m).toInt)
      ∧ (s.setting 12).rate = .medium
      ∧ (s.setting 12).deadband < (0xD8#8).toInt.natAbs ∧ (s.setting 12).deadband < (40#8).toInt.natAbs
      ∧ (s.history.get 13).cells[(s.now - m).toNat + (s.coeff 12 13).d]? = some 95
      ∧ (s.history.get 14).cells[(s.now - m).toNat + (s.coeff 12 14).d]? = some 0 := by
  have e : ∀ acc ∈ [(127 : Int), -127, 5],
      let s := atLimit acc
      let m : Sample := 0x00#8 ++ 0x00#8 ++ 0x4E#8 ++ 0x48#8;
      (s.lane 12).state = .ready ∧ (∀ b : Bay, (s.stream b).revisions = [])
        ∧ (1 ≤ (s.now - m).toInt ∧ (s.now - m).toInt ≤ 64)
        ∧ ((s.stream 12).coverage = some ⟨20000, 20095⟩ ∧ 0 ≤ (m - 20000).toInt
          ∧ 0 ≤ (20095 - m).toInt)
        ∧ (s.setting 12).rate = .medium
        ∧ ((s.setting 12).deadband < (0xD8#8).toInt.natAbs
          ∧ (s.setting 12).deadband < (40#8).toInt.natAbs)
        ∧ ((s.history.get 13).cells[(s.now - m).toNat + (s.coeff 12 13).d]? = some 95
          ∧ (s.history.get 14).cells[(s.now - m).toNat + (s.coeff 12 14).d]? = some 0) := by
    decide +kernel
  obtain ⟨h1, h2, h3, h4, h5, h6, h7⟩ := e acc (by simpa using h)
  refine ⟨h1, revisionsRead_of_none h2, tablesLawful_of_check ?_, accumulatorsLawful_of_check ?_,
    h3.1, h3.2, ⟨_, h4⟩, h5, h6.1, h6.2, h7.1, h7.2⟩
  · rcases h with rfl | rfl | rfl <;> decide +kernel
  · rcases h with rfl | rfl | rfl <;> decide +kernel

theorem witness_UsedResidualCounts_more :
    let s := atLimit 5
    (∀ (src : Bay), ∀ x ∈ [(-1 : Int), 0, 1], (s.accAt 12 src + x).natAbs ≠ 128)
      ∧ (s.lane 12).state = .ready ∧ RevisionsRead s
      ∧ (∀ rest ∈ [[0x28#8], List.replicate 7 0x28#8], 1 ≤ rest.length ∧ rest.length ≤ 7) :=
  ⟨by decide +kernel, by decide +kernel, revisionsRead_of_none (by decide +kernel), by decide⟩

theorem witness_UnusedResidualChangesNothing :
    let s := atLimit 5;
    (s.lane 12).state = .ready ∧ RevisionsRead s ∧ s.hasRoom 12 1
      ∧ (0 = (0 : Byte)) ∧ 8 < (9#8).toNat ∧ [0x28#8].length ≠ (2#8).toNat
      ∧ ([] : List Byte).length < 5
      ∧ (1 ≤ (1#8).toNat ∧ (1#8).toNat ≤ 8 ∧ [0x02#8].length = (1#8).toNat
        ∧ (0x02#8).toInt.natAbs ≤ (s.setting 12).deadband)
      ∧ (s.now - (20070 : Sample)).toInt < 1 ∧ 64 < (s.now - (20005 : Sample)).toInt
      ∧ (s.setting 11).rate = .off ∧ (s.stream 11).coverage = none
      ∧ (s.stream 12).coverage = some ⟨20000, 20095⟩ ∧ 0 < ((20000 : Sample) - 19999).toInt :=
  ⟨by decide +kernel, revisionsRead_of_none (by decide +kernel), by show (_ : Nat) ≤ _; decide +kernel,
    rfl, by decide, by decide, by decide, by decide +kernel, by decide +kernel, by decide +kernel,
    by decide +kernel, by decide +kernel, by decide +kernel, by decide⟩

/-! ## Witnesses: the management port -/

theorem witness_RequestsTakenOnlyOutOfReset :
    State.reset.pins.resetHeld = true
    ∧ (armed (awake 0)).port.resetArmed = true
    ∧ ((awake 0).inPhase .over).port.select = .over
    ∧ ((awake 0).inPhase (.answered 0)).port.select = .answered 0
    ∧ (awake 0).portTakes = true
    ∧ ((awake 0).pins.resetHeld = false ∧ (awake 0).port.resetArmed = false
      ∧ ([] : List Byte).length ≤ 40 ∧ requestCommand (framed 0x22#8 []) = some .hubRead)
    ∧ (∃ kind len rest, [0x22#8, 41#8] = kind :: len :: rest ∧ 40 < len.toNat)
    ∧ (∀ n, n ≤ [0x22#8, 0x00#8].length → requestCommand ([0x22#8, 0x00#8].take n) = none)
    ∧ (((awake 0).inPhase (.request [])).port.select ≠ .idle
      ∧ (∃ t, exec .powerOn ((awake 0).inPhase (.request [])) = .next t)
      ∧ ∃ t, exec .pinReset ((awake 0).inPhase (.request [])) = .next t)
    ∧ ((awake 0).port.select = .idle ∧ ((awake 0).inPhase (.request [])).port.select = .request [])
    ∧ ((awake 0).port.shift = [] ∧ ((awake 0).inPhase (.request [])).port.shift = []) :=
  ⟨rfl, rfl, rfl, rfl, rfl, ⟨rfl, rfl, by decide, by decide +kernel⟩, ⟨_, _, _, rfl, by decide⟩,
    by decide +kernel, ⟨by decide +kernel, ⟨_, rfl⟩, ⟨_, rfl⟩⟩, ⟨rfl, rfl⟩, rfl, rfl⟩

theorem witness_ReadsReportTheRecords :
    (awake 0).portTakes = true ∧ (awake 0).store.frozen = false
    ∧ (let s := (awake 0).setStore frozenStore
      s.portTakes = true ∧ s.store.frozen = true) := by decide +kernel

theorem witness_InspectReportsTheBay :
    holding.portTakes = true ∧ (0x00#8).getLsbD 0 = false ∧ (0x01#8).getLsbD 0 = true := by decide +kernel

theorem witness_HubWriteTakesDivisorAndEpoch :
    (awake 800).portTakes = true ∧ holding.portTakes = true
      ∧ (500 ≠ holding.time.divisor ∧ holding.seekAt 3 1 ≠ none)
      ∧ 1000 = (awake 800).time.divisor := by decide +kernel

theorem witness_FreezeCopiesTheActiveTable :
    (let s := couple 3 1 64 2 (awake 800);
      s.portTakes = true ∧ s.store.frozen = false ∧ TablesLawful s)
    ∧ (((awake 800).setStore frozenStore).portTakes = true
      ∧ ((awake 800).setStore frozenStore).store.frozen = true) :=
  ⟨⟨by decide +kernel, rfl, tablesLawful_of_check (by decide +kernel)⟩, by decide +kernel⟩

theorem witness_PokeRowWritesTheSnapshot :
    (awake 800).portTakes = true ∧ (awake 800).store.frozen = false
      ∧ ((awake 800).setStore frozenStore).portTakes = true
      ∧ ((awake 800).setStore frozenStore).store.frozen = true := by decide +kernel

theorem witness_ThawLoadsAWrittenSnapshot :
    (awake 800).portTakes = true ∧ (awake 800).store.frozen = false
    ∧ (let s := (awake 800).setStore { frozenStore with written := false }
      s.portTakes = true ∧ s.store.frozen = true ∧ s.store.written = false)
    ∧ (let s := (awake 800).setStore frozenStore
      s.portTakes = true ∧ s.store.frozen = true ∧ s.store.written = true ∧ TablesLawful s) :=
  ⟨by decide +kernel, rfl, by decide +kernel, by decide +kernel, rfl, rfl,
    tablesLawful_of_check (by decide +kernel)⟩

theorem witness_AttentionFollowsTheCauses :
    ((awake 800).setAttention arrived).portTakes = true
      ∧ (0x01#8).getLsbD Cause.arrive.bit.val = true ∧ (0x01#8).getLsbD Cause.depart.bit.val = false := by
  decide +kernel

theorem witness_BayResetReleasesTheBay : holding.portTakes = true ∧ QueueLawful holding :=
  ⟨by decide +kernel, holding_queue⟩

/-! ## Witnesses: numbers and lines -/

theorem witness_CorrectionsCarryQuarterUnits_torque :
    let s := place 11 0 seek11 (drive 11 16007)
    (s.now - 16007).toInt ≤ 0 ∧ (s.now - 15936).toInt = (71 : Fin 72).val
      ∧ 72 ≤ (s.now - 15935).toInt ∧ example1.state = .posted
      ∧ (seek11.launch = some 2000 ∧ seek11.state ≠ .posted)
      ∧ ((profileLevels seek11.segments)[7]? = some 127 ∧ 7 < seek11.runEnd) ∧ seek11.Compiled :=
  ⟨by decide +kernel, by decide +kernel, by decide +kernel, by decide +kernel, by decide +kernel,
    by decide +kernel, seek11_compiled⟩

theorem witness_CorrectionsCarryQuarterUnits :
    2 * (4096 * quarterUnits 2048 - 2048).natAbs = 4096
      ∧ (-508 : Int) ≤ -508 ∧ (508 : Int) ≤ 508 ∧ (117 : Int) % 4 ≠ 2 ∧ (3 : Nat) < 4 ∧ (2 : Nat) < 4 := by decide +kernel

theorem witness_TailsDecayToZero :
    (1 ≤ 3 ∧ (-90 : Int) ≠ 0)
      ∧ (((-90 : Int) :: tailOf 3 (-90))[0]? = some (-90) ∧ (tailOf 3 (-90))[0]? = some (-79))
      ∧ (((-90 : Int) :: tailOf 3 (-90))[29]? = some (-1) ∧ (tailOf 3 (-90))[29]? = none) := by
  decide +kernel

theorem witness_FramesAndRequestsReadBack :
    ([0x06#8] : List Byte).length ≤ 40 ∧ (List.replicate 40 0x00#8).length ≤ 40
      ∧ (([.ready, .ready, .absent, .detected] : List LaneState).length = (framed 0x03#8 [0x06#8]).length
        ∧ (List.replicate 4 LaneState.ready).length = (framed 0x03#8 [0x06#8]).length)
      ∧ (LaneState.detected ≠ .absent ∧ 40 < (41#8).toNat ∧ 1 < (framed 0x03#8 [0x06#8]).length)
      ∧ (List.replicate 32 0x07#8).length = 32
      ∧ (0x8A#8 = 0 ∨ 5 < (0x8A#8).toNat)
      ∧ 0x00#8 ≠ crc8 [0x03#8, BitVec.ofNat 8 1, 0x06#8]
      ∧ 0 < (framed 0x03#8 [0x06#8]).length
      ∧ ([0x06#8].length = RequestKind.bayReset.payloadLength ∧ RequestKind.bayReset.namesBay = true
        ∧ [0x06#8].head? = some (BitVec.ofNat 8 (6 : Bay).val))
      ∧ (([] : List Byte).length = RequestKind.hubRead.payloadLength
        ∧ RequestKind.hubRead.namesBay = false)
      ∧ ([0x10#8].head? = some 0x10#8 ∧ 16 ≤ (0x10#8).toNat)
      ∧ ([] : List Byte).length ≠ RequestKind.bayReset.payloadLength
      ∧ ((0x1F#8).toNat < 0x20 ∧ 0x2F < (0x30#8).toNat)
      ∧ 0x00#8 ≠ crc8 [0x2E#8, BitVec.ofNat 8 1, 0x06#8] := by decide +kernel

/-! ## Witnesses: the laws that every step keeps -/

/-- A part in sample 15969 with a sample boundary waiting: bay 3 holds a granted seek, bay 5's stream is
RUNNING with one burst delivered. -/
def lawful : State :=
  ((withReady 5 (place 3 1 (launched example1 .granted 2004) (drive 3 15969))).putStream 5
    { stream8 .running with
      delivery := [⟨16000, 8, false⟩], coverage := some ⟨16000, 16007⟩ }).setPending [.sampleBoundary []]

theorem lawful_steps : ∃ t, step lawful = .next t :=
  ⟨_, rfl⟩

theorem lawful_seeks {b : Bay} {p : Pos} {r : Seek} (h : lawful.seekAt b p = some r) :
    b = 3 ∧ p = 1 ∧ r = launched example1 .granted 2004 := by
  have key : ∀ (b : Bay) (p : Pos), (lawful.seekAt b p).all (fun r =>
      decide (b = 3 ∧ p = 1 ∧ r = launched example1 .granted 2004)) = true := by decide +kernel
  exact of_decide_eq_true (seekAt_all key h)

theorem witness_StepKeepsTablesAndAccumulators :
    (∃ t, step lawful = .next t) ∧ TablesLawful lawful ∧ AccumulatorsLawful lawful :=
  ⟨lawful_steps, tablesLawful_of_check (by decide +kernel), accumulatorsLawful_of_check (by decide +kernel)⟩

theorem lawful_queue : QueueLawful lawful :=
  queueLawful_of_idle (by decide +kernel) (by decide +kernel) rfl

theorem witness_StepKeepsAdmission :
    (∃ t, step lawful = .next t) ∧ QueueLawful lawful ∧ EngineEager lawful :=
  ⟨lawful_steps, lawful_queue, fun _ _ e he => by
    have : lawful.queue = [] := rfl
    simp [this] at he⟩

theorem lawful_lanes : LaneStreamLawful lawful := by
  refine ⟨fun b => ⟨fun h => ?_, ?_, ?_, ?_, fun c (hc : (lawful.lane b).caps = some c) => ?_⟩, fun b => ?_⟩
  · have key : ∀ b : Bay, (lawful.lane b).state ≠ .ready →
        (lawful.stream b).state = .off ∧ (lawful.lane b).bad = 0 ∧ ∀ p, lawful.seekAt b p = none := by
      decide +kernel
    exact key b h
  · exact (by decide +kernel : ∀ b : Bay, (lawful.lane b).bad ≤ 3) b
  · exact (by decide +kernel : ∀ b : Bay, (lawful.lane b).queue.length ≤ 32) b
  · exact (by decide +kernel : ∀ b : Bay, (lawful.lane b).state = .absent →
      (lawful.lane b).caps = none ∧ (lawful.lane b).queue = []) b
  · have key : ∀ b : Bay, (lawful.lane b).caps.all (fun c => decide
        (c.protocol = 1#8 ∧ (c.maxBurst = 4 ∨ c.maxBurst = 8) ∧ 8 ≤ c.maxLead ∧ c.maxLead ≤ 64))
        = true := by decide +kernel
    have := key b
    rw [hc] at this
    simp only [Option.all_some, decide_eq_true_eq] at this
    exact this
  · exact (by decide +kernel : ∀ b : Bay,
      (lawful.stream b).burstLen = effectiveBurst (lawful.setting b) (lawful.lane b).caps
        ∧ (lawful.stream b).lead = effectiveStreamLead (lawful.setting b) (lawful.lane b).caps
        ∧ ((lawful.stream b).state ≠ .running → (lawful.stream b).burst = none)
        ∧ ((lawful.stream b).state = .off ∨ (lawful.stream b).state = .starting →
            (lawful.stream b).delivery = [] ∧ (lawful.stream b).revisions = [])
        ∧ ((lawful.stream b).state = .starting → (lawful.stream b).coverage = none)
        ∧ ∀ x ∈ (lawful.stream b).delivery, x.revised = true → x.burst = 8) b

theorem witness_StepKeepsLanesAndStreams : (∃ t, step lawful = .next t) ∧ LaneStreamLawful lawful :=
  ⟨lawful_steps, lawful_lanes⟩

theorem lawful_settings : SettingsLawful lawful := by
  unfold SettingsLawful
  decide +kernel

theorem lawful_not_held : HeldAtReset lawful :=
  fun h => absurd h (by decide +kernel)

theorem lawful_work : WorkBounded lawful :=
  have key : ∀ b : Bay, (lawful.stream b).burst = none ∧ (lawful.stream b).revisions = [] := by
    decide +kernel
  ⟨fun m h => (by cases h), fun b => ⟨fun x h => absurd ((key b).1.symm.trans h) (by simp),
    fun v h => absurd ((key b).2 ▸ h) (by simp)⟩⟩

theorem witness_StepKeepsRecordsAndTags :
    (∃ t, step lawful = .next t) ∧ SettingsLawful lawful ∧ TimeLawful lawful ∧ RebuiltSetEmpty lawful
      ∧ RevisionsRead lawful ∧ WorkBounded lawful ∧ HeldAtReset lawful ∧ TagsLawful lawful :=
  ⟨lawful_steps, lawful_settings,
    ⟨by decide +kernel, by decide +kernel, by decide +kernel, fun d h => (by cases h), by decide +kernel⟩,
    rfl, revisionsRead_of_none (by decide +kernel), lawful_work, lawful_not_held,
    tagsLawful_of_check (by decide +kernel)⟩

theorem lawful_calendar : CalendarLawful lawful := by
  refine ⟨lawful_not_held, lawful_settings, lawful_queue, fun b p r h => ?_, fun sr h => (by cases h),
    fun _ => ?_⟩
  · obtain ⟨-, -, rfl⟩ := lawful_seeks h
    refine ⟨?_, ?_⟩
    · unfold Seek.Compiled
      decide +kernel
    · exact ⟨by decide +kernel, by decide +kernel, by decide +kernel, by decide +kernel, rfl⟩
  · decide +kernel

theorem witness_StepKeepsTheCalendar : (∃ t, step lawful = .next t) ∧ CalendarLawful lawful :=
  ⟨lawful_steps, lawful_calendar⟩

theorem witness_StepKeepsRunsApart :
    (∃ t, step lawful = .next t) ∧ Fresh lawful ∧ SpacingLawful lawful := by
  refine ⟨lawful_steps, fun b p r h hp => ?_, lawful_calendar, fun b p q r t l m hpq hr ht => ?_,
    fun sr h => (by cases h)⟩
  · obtain ⟨-, -, rfl⟩ := lawful_seeks h
    cases hp
  · exact absurd ((lawful_seeks hr).2.1.trans (lawful_seeks ht).2.1.symm) hpq

theorem witness_StepKeepsDeliveryLists :
    (∃ t, step lawful = .next t) ∧ DeliveryListsLawful lawful := by
  refine ⟨lawful_steps, lawful_not_held, lawful_settings, lawful_lanes, fun b => ?_⟩
  have key : ∀ b : Bay, b = 5 ∨ ((lawful.stream b).state = .off ∧ (lawful.stream b).delivery = []
      ∧ (lawful.stream b).burst = none) := by decide +kernel
  rcases key b with rfl | ⟨h1, h2, h3⟩
  · exact ⟨by decide +kernel, by decide +kernel,
      fun _ => ⟨by decide +kernel, by decide +kernel, trivial⟩, fun h => absurd h (by decide +kernel)⟩
  · unfold Stream.DeliveryLawful
    rw [h1, h2, h3]
    exact ⟨by decide, fun x hx => absurd hx (by simp), fun h => (by cases h), fun h => (by cases h)⟩

end Sys2Proof.Tests
end

section
/-! PROOF. Seek profiles (01_seek_profiles.md): the rules about the profile functions, the record table
and the lane rules that NOTICE and ABORT use, and the obligations of the seek family settled from them. -/

namespace Sys2Proof.Machine

/-! ## The tail (R7)

The tail is the orbit of its starting level under `tailStep`, up to the first zero. Zero is a fixed point,
so every index past the tail reads the orbit as well, as 0. -/

theorem tailStep_zero (k : Nat) : tailStep k 0 = 0 := by simp [tailStep]

theorem iterate_tailStep_zero (k j : Nat) : (tailStep k)^[j] 0 = 0 :=
  Function.iterate_fixed (tailStep_zero k) j

/-- The decrement of a tail step never passes zero. -/
theorem tailDecrement_le {v : Int} (k : Nat) (hv : v ≠ 0) : max 1 (v.natAbs >>> k) ≤ v.natAbs :=
  max_le (Int.natAbs_pos.mpr hv) (Nat.shiftRight_le ..)

theorem natAbs_tailStep (k : Nat) (v : Int) :
    (tailStep k v).natAbs = v.natAbs - max 1 (v.natAbs >>> k) := by
  obtain rfl | hv := eq_or_ne v 0
  · simp [tailStep_zero]
  · have hd := tailDecrement_le k hv
    unfold tailStep
    generalize max 1 (v.natAbs >>> k) = d at hd ⊢
    obtain h | h := lt_or_gt_of_ne hv
    · rw [Int.sign_eq_neg_one_of_neg h]; omega
    · rw [Int.sign_eq_one_of_pos h]; omega

theorem natAbs_iterate_tailStep_succ (k j : Nat) (v : Int) :
    ((tailStep k)^[j + 1] v).natAbs
      = ((tailStep k)^[j] v).natAbs - max 1 (((tailStep k)^[j] v).natAbs >>> k) := by
  rw [Function.iterate_succ_apply', natAbs_tailStep]

/-- A tail step keeps the sign or reaches zero. -/
theorem tailStep_sign (k : Nat) (v : Int) : tailStep k v = 0 ∨ (tailStep k v).sign = v.sign := by
  obtain rfl | hv := eq_or_ne v 0
  · exact .inl (tailStep_zero k)
  · have hd := tailDecrement_le k hv
    unfold tailStep
    generalize max 1 (v.natAbs >>> k) = d at hd ⊢
    obtain h | h := lt_or_gt_of_ne hv
    · rw [Int.sign_eq_neg_one_of_neg h, Int.sign_eq_neg_one_iff_neg]; omega
    · rw [Int.sign_eq_one_of_pos h, Int.sign_eq_one_iff_pos]; omega

theorem iterate_tailStep_sign (k j : Nat) (v : Int) :
    (tailStep k)^[j] v = 0 ∨ ((tailStep k)^[j] v).sign = v.sign := by
  induction j with
  | zero => exact .inr rfl
  | succ j ih =>
    rw [Function.iterate_succ_apply']
    obtain h | h := ih
    · rw [h, tailStep_zero]; exact .inl rfl
    · rw [← h]; exact tailStep_sign k _

theorem iterate_tailStep_mul_pos {k j : Nat} {v : Int} (h : (tailStep k)^[j] v ≠ 0) :
    0 < (tailStep k)^[j] v * v := by
  have hs := (iterate_tailStep_sign k j v).resolve_left h
  have hv : v ≠ 0 := fun hv => h (hv ▸ iterate_tailStep_zero k j)
  rw [← Int.sign_eq_one_iff_pos, Int.sign_mul, hs, ← Int.sign_mul, Int.sign_eq_one_iff_pos]
  exact mul_self_pos.mpr hv

theorem iterate_tailStep_mul_nonneg (k j : Nat) (v : Int) : 0 ≤ (tailStep k)^[j] v * v := by
  by_cases h : (tailStep k)^[j] v = 0
  · rw [h, zero_mul]
  · exact (iterate_tailStep_mul_pos h).le

/-- Each step takes at least 1 off the magnitude. -/
theorem natAbs_iterate_tailStep_le (k j : Nat) (v : Int) :
    ((tailStep k)^[j] v).natAbs ≤ v.natAbs - j := by
  induction j with
  | zero => simp
  | succ j ih => rw [natAbs_iterate_tailStep_succ]; omega

/-- Enough steps allowed, the entries are the orbit's, up to its first zero. -/
theorem tailFrom_getElem? {k n : Nat} {v : Int} (h : v.natAbs ≤ n) (j : Nat) :
    (tailFrom k n v)[j]?
      = if (tailStep k)^[j + 1] v = 0 then none else some ((tailStep k)^[j + 1] v) := by
  induction n generalizing v j with
  | zero =>
    obtain rfl : v = 0 := by omega
    simp [tailFrom, iterate_tailStep_zero]
  | succ n ih =>
    have hle : (tailStep k v).natAbs ≤ n := by rw [natAbs_tailStep]; omega
    rw [Function.iterate_succ_apply]
    by_cases hz : tailStep k v = 0
    · simp [tailFrom, hz, iterate_tailStep_zero]
    · cases j with
      | zero => simp [tailFrom, hz]
      | succ j => simp only [tailFrom, if_neg hz, List.getElem?_cons_succ, ih hle]

theorem tailOf_getElem? (k j : Nat) (v : Int) :
    (tailOf k v)[j]?
      = if (tailStep k)^[j + 1] v = 0 then none else some ((tailStep k)^[j + 1] v) :=
  tailFrom_getElem? le_rfl j

/-- The orbit leaves zero out exactly within the tail. -/
theorem iterate_tailStep_ne_zero_iff (k j : Nat) (v : Int) :
    (tailStep k)^[j + 1] v ≠ 0 ↔ j < (tailOf k v).length := by
  rw [← not_le, ← List.getElem?_eq_none_iff, tailOf_getElem?]
  split <;> simp_all

theorem tailOf_length_le (k : Nat) (v : Int) : (tailOf k v).length ≤ v.natAbs - 1 := by
  rw [← not_lt, ← iterate_tailStep_ne_zero_iff, not_not, ← Int.natAbs_eq_zero]
  have := natAbs_iterate_tailStep_le k (v.natAbs - 1 + 1) v
  omega

theorem getD_tailOf (k j : Nat) (v : Int) : (tailOf k v).getD j 0 = (tailStep k)^[j + 1] v := by
  rw [List.getD_eq_getElem?_getD, tailOf_getElem?]
  split <;> simp_all

/-- The starting level and its tail, read at an index. -/
theorem eq_iterate_of_cons_tailOf {k j : Nat} {v x : Int} (h : (v :: tailOf k v)[j]? = some x) :
    x = (tailStep k)^[j] v := by
  cases j with
  | zero => simpa using h.symm
  | succ j =>
    rw [List.getElem?_cons_succ, tailOf_getElem?] at h
    split at h
    · cases h
    · simpa using h.symm

/-- Settles O50: the tail is the orbit of `tailStep`, whose magnitude and sign each step fixes. -/
theorem tailsDecayToZero : Obligations.TailsDecayToZero := by
  intro k v _
  refine ⟨fun hv => by rw [hv]; rfl, fun hv => ?_, fun j x hx hx0 => ?_⟩
  · have := tailOf_length_le k v
    omega
  · obtain rfl := eq_iterate_of_cons_tailOf hx
    have hsucc := natAbs_iterate_tailStep_succ k j v
    refine ⟨iterate_tailStep_mul_pos hx0, fun y hy => ?_, fun hnone => ?_⟩
    · rw [tailOf_getElem?] at hy
      split at hy
      · cases hy
      · next hne =>
        obtain rfl := Option.some.inj hy
        exact ⟨hne, hsucc⟩
    · rw [tailOf_getElem?] at hnone
      split at hnone
      · next hz =>
        have := tailDecrement_le k hx0
        rw [hz] at hsucc
        simp only [Int.natAbs_zero] at hsucc
        omega
      · cases hnone

/-! ## Profile values (R5, R8, R9, R11) -/

theorem profileLevels_length (segs : List Segment) :
    (profileLevels segs).length = profileLength segs := by
  simp [profileLevels, profileLength, List.length_flatMap]

theorem runLevels_length {segs : List Segment} {n : Nat} (h : n ≤ profileLength segs) :
    (runLevels segs n).length = n := by
  rw [runLevels, List.length_take, profileLevels_length, min_eq_left h]

theorem profileValues_length {segs : List Segment} {n : Nat} (h : n ≤ profileLength segs) (k : Nat) :
    (profileValues segs n k).length = n + (runTail segs n k).length := by
  rw [profileValues, List.length_append, runLevels_length h]

/-- Within the run a value is the profile's level. -/
theorem profileValues_run {segs : List Segment} {n i : Nat} (h : n ≤ profileLength segs) (k : Nat)
    (hi : i < n) : (profileValues segs n k).getD i 0 = (profileLevels segs).getD i 0 := by
  have hlen := runLevels_length h
  rw [profileValues, List.getD_append _ _ _ _ (by omega), runLevels,
    List.getD_eq_getElem?_getD, List.getElem?_take_of_lt hi, List.getD_eq_getElem?_getD]

theorem runLevels_getLastD {segs : List Segment} {n : Nat} (h1 : 1 ≤ n) (h : n ≤ profileLength segs) :
    (runLevels segs n).getLastD 0 = (profileLevels segs).getD (n - 1) 0 := by
  rw [List.getLastD_eq_getLast?, List.getLast?_eq_getElem?, runLevels_length h, runLevels,
    List.getElem?_take_of_lt (by omega), List.getD_eq_getElem?_getD]

/-- From the last index of the run on, the values are the orbit of the last level under `tailStep`. -/
theorem profileValues_tail {segs : List Segment} {n : Nat} (h1 : 1 ≤ n) (h : n ≤ profileLength segs)
    (k j : Nat) :
    (profileValues segs n k).getD (n - 1 + j) 0
      = (tailStep k)^[j] ((profileLevels segs).getD (n - 1) 0) := by
  cases j with
  | zero => exact profileValues_run h k (by omega)
  | succ j =>
    have hlen := runLevels_length h
    rw [profileValues, List.getD_append_right _ _ _ _ (by omega), runTail, getD_tailOf,
      runLevels_getLastD h1 h, hlen]
    congr 2
    omega

/-- No tail is longer than the largest level's magnitude. -/
theorem runTail_length_le {segs : List Segment} {bound : Nat}
    (h : ∀ g ∈ segs, g.level.natAbs ≤ bound) (n k : Nat) : (runTail segs n k).length ≤ bound := by
  have hlast : ((runLevels segs n).getLastD 0).natAbs ≤ bound := by
    rw [List.getLastD_eq_getLast?]
    cases hx : (runLevels segs n).getLast? with
    | none => simp
    | some x =>
      have hmem : x ∈ profileLevels segs := List.mem_of_mem_take (List.mem_of_getLast? hx)
      simp only [profileLevels, List.mem_flatMap, List.mem_replicate] at hmem
      obtain ⟨g, hg, -, rfl⟩ := hmem
      exact h g hg
  have := tailOf_length_le k ((runLevels segs n).getLastD 0)
  unfold runTail
  omega

/-! ## A record's values (R11) -/

theorem Seek.valueAt_nat (r : Seek) (i : Nat) :
    r.valueAt (i : Int) = (profileValues r.segments r.runEnd r.shift).getD i 0 := by
  rw [Seek.valueAt, if_neg (by omega), Int.toNat_natCast]

/-! ## The slot magnitudes (R9) -/

theorem peak_cons (v : Int) (vals : List Int) : peak (v :: vals) = max v.natAbs (peak vals) := by
  have key : ∀ (l : List Int) (a : Nat), l.foldl (fun a v => max a v.natAbs) a = max a (peak l) := by
    intro l
    induction l with
    | nil => simp [peak]
    | cons x xs ih =>
      intro a
      rw [peak, List.foldl_cons, List.foldl_cons, ih, ih, max_assoc, Nat.zero_max]
  rw [peak, List.foldl_cons, key, Nat.zero_max]

theorem natAbs_le_peak {v : Int} {vals : List Int} (h : v ∈ vals) : v.natAbs ≤ peak vals := by
  induction h with
  | head => rw [peak_cons]; exact le_max_left ..
  | tail _ _ ih => rw [peak_cons]; exact ih.trans (le_max_right ..)

/-- The peak is the magnitude of one of the values, unless it is 0. -/
theorem peak_attained (vals : List Int) : peak vals = 0 ∨ ∃ v ∈ vals, v.natAbs = peak vals := by
  induction vals with
  | nil => exact .inl rfl
  | cons x xs ih =>
    rw [peak_cons]
    obtain h | h := le_total (peak xs) x.natAbs
    · exact .inr ⟨x, .head _, (max_eq_left h).symm⟩
    · rw [max_eq_right h]
      exact ih.imp_right fun ⟨v, hv, he⟩ => ⟨v, .tail _ hv, he⟩

theorem slotMagnitudes_length (vals : List Int) :
    (slotMagnitudes vals).length = slotsFor vals.length := by
  simp [slotMagnitudes]

theorem slotMagnitudes_getElem? {vals : List Int} {j m : Nat} (h : (slotMagnitudes vals)[j]? = some m) :
    m = peak ((vals.drop (8 * j)).take 8) := by
  simp only [slotMagnitudes, List.getElem?_map, Option.map_eq_some_iff,
    List.getElem?_eq_some_iff, List.getElem_range] at h
  obtain ⟨a, ⟨-, rfl⟩, rfl⟩ := h
  rfl

/-- The values of the stretch of eight from `i` on are the list's entries at its indices. -/
theorem mem_slot_iff {vals : List Int} {i : Nat} {v : Int} :
    v ∈ (vals.drop i).take 8 ↔ ∃ a, i ≤ a ∧ a < i + 8 ∧ vals[a]? = some v := by
  rw [List.mem_iff_getElem?]
  constructor
  · rintro ⟨a, ha⟩
    rw [List.getElem?_take] at ha
    split at ha
    · exact ⟨i + a, by omega, by omega, by rwa [List.getElem?_drop] at ha⟩
    · cases ha
  · rintro ⟨a, hia, ha, hv⟩
    refine ⟨a - i, ?_⟩
    rw [List.getElem?_take_of_lt (by omega), List.getElem?_drop]
    rwa [show i + (a - i) = a by omega]

/-- A slot magnitude is the largest magnitude of the slot's eight values. -/
theorem slotMagnitudes_spec {vals : List Int} {j m : Nat} (h : (slotMagnitudes vals)[j]? = some m) :
    (∀ i, 8 * j ≤ i → i < 8 * j + 8 → (vals.getD i 0).natAbs ≤ m)
      ∧ (m = 0 ∨ ∃ i, 8 * j ≤ i ∧ i < 8 * j + 8 ∧ (vals.getD i 0).natAbs = m) := by
  obtain rfl := slotMagnitudes_getElem? h
  refine ⟨fun i hlo hhi => ?_, (peak_attained _).imp_right fun ⟨v, hv, he⟩ => ?_⟩
  · rw [List.getD_eq_getElem?_getD]
    cases hv : vals[i]? with
    | none => simp
    | some v => exact natAbs_le_peak (mem_slot_iff.mpr ⟨i, hlo, hhi, hv⟩)
  · obtain ⟨a, hlo, hhi, ha⟩ := mem_slot_iff.mp hv
    exact ⟨a, hlo, hhi, by rw [List.getD_eq_getElem?_getD, ha]; exact he⟩

/-! ## The record table (R17) -/

theorem mem_liveSeeks {s : State} {b : Bay} {p : Pos} {r : Seek} :
    (p, r) ∈ s.liveSeeks b ↔ s.seekAt b p = some r := by
  simp [State.liveSeeks, positions, List.mem_filterMap]

/-- No live seek of the bay carries the tag. -/
theorem findTag_eq_none_iff {s : State} {b : Bay} {tag : Tag} :
    s.findTag b tag = none ↔ ∀ p r, s.seekAt b p = some r → r.tag ≠ tag := by
  simp only [State.findTag, List.find?_eq_none, Prod.forall, mem_liveSeeks, beq_iff_eq, ne_eq]

theorem findTag_some {s : State} {b : Bay} {tag : Tag} {p : Pos} {r : Seek}
    (h : s.findTag b tag = some (p, r)) : s.seekAt b p = some r ∧ r.tag = tag :=
  ⟨mem_liveSeeks.mp (List.mem_of_find?_eq_some h), by simpa using List.find?_some h⟩

/-- A tag names one seek of a bay at most, so a live seek is found by its tag. -/
theorem findTag_of_seekAt {s : State} {b : Bay} {p : Pos} {r : Seek} (hs : TagsLawful s)
    (h : s.seekAt b p = some r) : s.findTag b r.tag = some (p, r) := by
  cases hf : s.findTag b r.tag with
  | none => exact absurd rfl (findTag_eq_none_iff.mp hf p r h)
  | some x =>
    obtain ⟨q, t⟩ := x
    obtain ⟨hq, ht⟩ := findTag_some hf
    obtain rfl := (hs b).1 q p t r hq h ht
    rw [Option.some.inj (hq.symm.trans h)]

/-- The position found is the free one below which none is free (R13). -/
theorem freePosition_of_lowest {s : State} {b : Bay} {p : Pos} (hp : s.seekAt b p = none)
    (hlow : ∀ q, q < p → s.seekAt b q ≠ none) : s.freePosition b = some p := by
  rw [State.freePosition, positions, List.find?_eq_some_iff_getElem]
  refine ⟨by simp [hp], p, by simp, by simp, fun j hj => ?_⟩
  simpa [Option.isSome_iff_ne_none] using hlow ⟨j, by omega⟩ hj

theorem freePosition_eq_none_iff {s : State} {b : Bay} :
    s.freePosition b = none ↔ ∀ p, s.seekAt b p ≠ none := by
  simp [State.freePosition, positions]

theorem freePosition_isSome {s : State} {b : Bay} {p : Pos} (h : s.seekAt b p = none) :
    ∃ q, s.freePosition b = some q :=
  Option.ne_none_iff_exists'.mp fun hn => freePosition_eq_none_iff.mp hn p h

/-! ## Lanes and revisions -/

theorem putLane_putLane (s : State) (b : Bay) (x y : Lane) :
    (s.putLane b x).putLane b y = s.putLane b y := by
  unfold State.putLane
  rw [State.setLanes_twice, State.setLanes_lanes]
  congr 1
  exact Tab.ext_get fun i => by simp only [Tab.get_upd]; split <;> rfl

theorem putLane_same (s : State) (b : Bay) : s.putLane b (s.lane b) = s :=
  congrArg s.setLanes (Tab.upd_get s.lanes b)

/-- A refusal with room in the queue joins its tail (R152, R158). -/
theorem refuse_of_room {b : Bay} {s : State} (h : s.hasRoom b 1) (tag : Option Tag) (why : Reason)
    (kind : Byte) :
    refuse b tag why kind s
      = s.putLane b { s.lane b with queue := (s.lane b).queue ++ [.refuse tag why kind] } :=
  handThen_of_room h

/-- A READY lane hands a frame of a right length on (R152). -/
theorem receiveFrame_of_ready {b : Bay} {s : State} (h : (s.lane b).state = .ready) (kind : Byte)
    {len : Option Nat} {payload : List Byte} (hlen : len.all (payload.length = ·))
    (take : State → State) :
    receiveFrame b kind len payload take s = take (goodFrame b s) := by
  cases len <;> simp_all [receiveFrame, State.isReady]

/-- What an event leaves of the streams leaves no revision to read (R109). -/
theorem readRevisions_of_streams {s t : State} (hs : RevisionsRead s) (h : t.streams = s.streams) :
    readRevisions t = t :=
  readRevisions_of_read fun b => by
    rw [State.stream, h]
    exact hs b

/-- A change published before the revisions are read is published after (R38, R109). -/
theorem changePublished_readRevisions {src : Bay} {a z : Sample} {s t : State}
    (h : t.streams = (forecastChange src a z s).streams) :
    ChangePublished src a z s (readRevisions t) := by
  unfold ChangePublished
  rw [← h]
  rfl

theorem tagOf_eq_extractLsb' (x : Byte) : tagOf x = x.extractLsb' 0 4 := by
  unfold tagOf
  ext i hi
  simp

/-! ## Reading a NOTICE payload (R1, R2, R3, R150) -/

/-- The bytes of segment entries, in order (R150). -/
def entryBytes (es : List SegmentEntry) : List Byte :=
  es.flatMap fun e => [e.level, e.duration, e.marker]

theorem entryBytes_length (es : List SegmentEntry) : (entryBytes es).length = 3 * es.length := by
  simp [entryBytes, List.length_flatMap, mul_comm]

/-- Whole entries are read back, whatever follows them. -/
theorem segmentEntries_entryBytes (es : List SegmentEntry) (extra : List Byte) :
    segmentEntries (entryBytes es ++ extra) = es ++ segmentEntries extra := by
  induction es with
  | nil => rfl
  | cons e es ih => simpa [entryBytes, segmentEntries] using ih

/-- Fewer bytes than an entry's are none. -/
theorem segmentEntries_short {extra : List Byte} (h : extra.length < 3) :
    segmentEntries extra = [] := by
  match extra, h with
  | [], _ => rfl
  | [_], _ => rfl
  | [_, _], _ => rfl

/-- The count ends with the first end-marked entry. -/
theorem segmentCount_of_end {body : List SegmentEntry} {last : SegmentEntry}
    (hbody : ∀ e ∈ body, e.isEnd = false) (hlast : last.isEnd = true) (rest : List SegmentEntry) :
    segmentCount (body ++ last :: rest) = some (body.length + 1) := by
  have hfind : body.findIdx? SegmentEntry.isEnd = none := List.findIdx?_eq_none_iff.mpr hbody
  simp [segmentCount, List.findIdx?_append, List.findIdx?_cons, hfind, hlast]

theorem segmentCount_of_no_end {es : List SegmentEntry} (h : ∀ e ∈ es, e.isEnd = false) :
    segmentCount es = none := by
  simpa [segmentCount, List.findIdx?_eq_none_iff] using h

/-- The notice of a header and its segment entries (R1). -/
def noticeOf (h lead window : Byte) (es : List SegmentEntry) : Notice where
  tag := tagOf h
  auto := h.getLsbD 7
  lead := lead.toNat % 64
  window := window.toNat % 32
  segments := es.map SegmentEntry.taken

/-- A payload is read by its count of segments, which fixes its length. -/
theorem readNotice_of_count {h lead window : Byte} {bytes : List Byte} {n : Nat}
    (hcount : segmentCount (segmentEntries bytes) = some n) :
    readNotice (h :: lead :: window :: bytes)
      = if n ≤ 6 ∧ bytes.length = 3 * n then some (noticeOf h lead window (segmentEntries bytes))
        else none := by
  have hlen : bytes.length + 1 + 1 + 1 = 3 + 3 * n ↔ bytes.length = 3 * n := by omega
  simp [readNotice, hcount, hlen, noticeOf, byteAt]

/-- Without an end marker a payload is malformed (R3). -/
theorem readNotice_of_no_count {h lead window : Byte} {bytes : List Byte}
    (hcount : segmentCount (segmentEntries bytes) = none) :
    readNotice (h :: lead :: window :: bytes) = none := by
  simp [readNotice, hcount]

/-- The taken segment in the bytes' own terms: level 80h and duration 00h are the special ones (R2). -/
theorem taken_eq (e : SegmentEntry) :
    e.taken = Segment.mk (if e.level = 0x80#8 then -127 else e.level.toInt)
      (if e.duration = 0#8 then 256 else e.duration.toNat) := by
  have hlevel : e.level.toInt = -128 ↔ e.level = 0x80#8 :=
    ⟨fun h => BitVec.eq_of_toInt_eq h, fun h => by rw [h]; rfl⟩
  have hduration : e.duration.toNat = 0 ↔ e.duration = 0#8 := BitVec.toNat_inj (y := 0#8)
  simp [SegmentEntry.taken, hlevel, hduration]

theorem noticeOf_eq (h lead window : Byte) (es : List SegmentEntry) :
    noticeOf h lead window es =
      { tag := h.extractLsb' 0 4
        auto := h.getLsbD 7
        lead := (lead.extractLsb' 0 6).toNat
        window := (window.extractLsb' 0 5).toNat
        segments := es.map fun e => Segment.mk
          (if e.level = 0x80#8 then -127 else e.level.toInt)
          (if e.duration = 0#8 then 256 else e.duration.toNat) } := by
  simp [noticeOf, tagOf_eq_extractLsb', BitVec.extractLsb'_toNat, taken_eq]

/-- Settles O32: the entries read back as written, so the count and the length decide. -/
theorem noticeIsReadAsCarried : Obligations.NoticeIsReadAsCarried := by
  intro h lead window body last extra hbody es bytes
  have hes : es = body ++ [last] := rfl
  have hbytes : bytes = entryBytes es := rfl
  clear_value bytes es
  have hentries (x : List Byte) : segmentEntries (bytes ++ x) = body ++ last :: segmentEntries x := by
    simp [hbytes, hes, segmentEntries_entryBytes]
  have hcountEs : es.length = body.length + 1 := by simp [hes]
  have hlen : bytes.length = 3 * (body.length + 1) := by rw [hbytes, entryBytes_length, hcountEs]
  have hcount (hlast : last.marker.getLsbD 0 = true) (x : List Byte) :
      segmentCount (segmentEntries (bytes ++ x)) = some (body.length + 1) := by
    rw [hentries]
    exact segmentCount_of_end hbody hlast _
  refine ⟨fun hlast h6 => ?_, fun hlast h6 => ?_, fun hlast hextra => ?_, fun hlast hextra => ?_⟩
  · rw [← List.append_nil bytes, readNotice_of_count (hcount hlast []), hentries,
      if_pos (by simp only [List.append_nil]; omega), segmentEntries_short (by simp), ← hes, noticeOf_eq]
  · rw [readNotice_of_count (hcount hlast extra), if_neg (by omega)]
  · have := List.length_pos_of_ne_nil hextra
    rw [readNotice_of_count (hcount hlast extra), if_neg (by rw [List.length_append]; omega)]
  · refine readNotice_of_no_count (segmentCount_of_no_end fun e he => ?_)
    rw [hentries, segmentEntries_short hextra, List.mem_append, List.mem_singleton] at he
    obtain he | rfl := he
    · exact hbody e he
    · exact hlast

/-! ## Search start (R66) -/

@[simp] theorem searchStart_lanes (s : State) : (searchStart s).lanes = s.lanes := by
  rw [searchStart_eq]; rfl

@[simp] theorem searchStart_seeks (s : State) : (searchStart s).seeks = s.seeks := by
  rw [searchStart_eq]; rfl

@[simp] theorem searchStart_streams (s : State) : (searchStart s).streams = s.streams := by
  rw [searchStart_eq]; rfl

/-- A search start keeps the entries and their order. -/
theorem searchStart_places (s : State) :
    (searchStart s).queue.map (fun e => (e.bay, e.pos)) = s.queue.map fun e => (e.bay, e.pos) := by
  unfold searchStart
  split
  · exact scanQueue_places s s.queue
  · rfl

/-- A search in progress bars a start. -/
theorem searchStart_of_searching {s : State} {sr : Search} (h : s.engine = some sr) :
    searchStart s = s := by
  simp [searchStart, h]

/-- The state before a search start, from the state after it. -/
theorem searchStart_undo (s : State) :
    ((searchStart s).setQueue s.queue).setEngine s.engine = s := by
  rw [searchStart_eq]; rfl

/-! ## What a READY lane does with a NOTICE (R4, R152) -/

theorem exec_notice_of_ready {b : Bay} {s : State} (h : (s.lane b).state = .ready)
    (payload : List Byte) :
    exec (.notice b payload) s
      = .next (readRevisions (takeNoticeFrame b payload (goodFrame b s))) := by
  show execNotice b payload s = _
  rw [execNotice, receiveFrame_of_ready h _ rfl]

theorem takeNoticeFrame_read {b : Bay} {s : State} {payload : List Byte} {n : Notice}
    (hn : readNotice payload = some n) :
    takeNoticeFrame b payload s = takeNotice b n s := by
  rw [takeNoticeFrame, hn]

theorem takeNoticeFrame_malformed {b : Bay} {s : State} {payload : List Byte}
    (hn : readNotice payload = none) :
    takeNoticeFrame b payload s = refuse b none .malformed kindNotice s := by
  rw [takeNoticeFrame, hn]

/-- A notice refused on a READY lane with room is answered, and the count cleared. -/
theorem exec_notice_refused {b : Bay} {s : State} {payload : List Byte} {tag : Option Tag}
    {why : Reason} (hready : (s.lane b).state = .ready) (hroom : s.hasRoom b 1)
    (hread : RevisionsRead s)
    (h : takeNoticeFrame b payload (goodFrame b s) = refuse b tag why kindNotice (goodFrame b s)) :
    exec (.notice b payload) s = .next (s.putLane b { s.lane b with
      bad := 0, queue := (s.lane b).queue ++ [.refuse tag why 0x02#8] }) := by
  have hroom' : (goodFrame b s).hasRoom b 1 := by
    simpa [State.hasRoom, goodFrame] using hroom
  have hrefused : takeNoticeFrame b payload (goodFrame b s) = s.putLane b { s.lane b with
      bad := 0, queue := (s.lane b).queue ++ [.refuse tag why kindNotice] } := by
    rw [h, refuse_of_room hroom', goodFrame, putLane_putLane, State.lane_putLane_self]
  rw [exec_notice_of_ready hready, hrefused]
  exact congrArg _ (readRevisions_of_streams hread rfl)

/-! ## The intake checks (R4) -/

theorem takeNotice_full {b : Bay} {n : Notice} {s : State} (h : ∀ q, s.seekAt b q ≠ none) :
    takeNotice b n s = refuse b (some n.tag) .full kindNotice s := by
  rw [takeNotice, freePosition_eq_none_iff.mpr h]

theorem takeNotice_dupTag {b : Bay} {n : Notice} {s : State} {p q : Pos} {r : Seek}
    (hfree : s.seekAt b p = none) (hr : s.seekAt b q = some r) (htag : r.tag = n.tag) :
    takeNotice b n s = refuse b (some n.tag) .dupTag kindNotice s := by
  obtain ⟨p', hp'⟩ := freePosition_isSome hfree
  have hfound : (s.findTag b n.tag).isSome := by
    rw [Option.isSome_iff_ne_none]
    exact fun hnone => findTag_eq_none_iff.mp hnone q r hr htag
  simp [takeNotice, hp', hfound]

theorem takeNotice_tooLong {b : Bay} {n : Notice} {s : State} {p : Pos}
    (hfree : s.seekAt b p = none) (htag : ∀ q r, s.seekAt b q = some r → r.tag ≠ n.tag)
    (hlong : 320 < profileLength n.segments) :
    takeNotice b n s = refuse b (some n.tag) .tooLong kindNotice s := by
  obtain ⟨p', hp'⟩ := freePosition_isSome hfree
  simp [takeNotice, hp', findTag_eq_none_iff.mpr htag, hlong]

theorem takeNotice_accepted {b : Bay} {n : Notice} {s : State} {p : Pos}
    (hp : s.seekAt b p = none) (hlow : ∀ q, q < p → s.seekAt b q ≠ none)
    (htag : ∀ q r, s.seekAt b q = some r → r.tag ≠ n.tag)
    (hlen : profileLength n.segments ≤ 320) : takeNotice b n s = postSeek b p n s := by
  simp [takeNotice, freePosition_of_lowest hp hlow, findTag_eq_none_iff.mpr htag, hlen]

/-- Settles O34: each failed check answers by its refusal, which has room. -/
theorem refusedNoticeChangesNothing : Obligations.RefusedNoticeChangesNothing := by
  intro s b payload hready hroom hread
  refine ⟨fun hn => ?_, fun n hn => ⟨fun hfull => ?_, fun p q r hfree hr htag => ?_,
    fun p hfree htag hlong => ?_⟩⟩ <;> refine exec_notice_refused hready hroom hread ?_
  · exact takeNoticeFrame_malformed hn
  · exact (takeNoticeFrame_read hn).trans (takeNotice_full hfull)
  · exact (takeNoticeFrame_read hn).trans (takeNotice_dupTag (s := goodFrame b s) hfree hr htag)
  · exact (takeNoticeFrame_read hn).trans
      (takeNotice_tooLong (s := goodFrame b s) hfree htag hlong)

/-! ## An accepted notice (R5 to R11, R13, R18, R64) -/

/-- The lane after an accepted notice: the count cleared, and the last-expired tag where it is the
notice's (R18, R152). -/
def acceptedLane (l : Lane) (tag : Tag) : Lane :=
  { l with
    bad := 0
    lastExpired := if l.lastExpired = some tag then none else l.lastExpired }

/-- The record an accepted notice leaves in bay `b` (R5 to R10, R13). -/
def noticeSeek (s : State) (b : Bay) (n : Notice) : Seek :=
  compileSeek n.tag n.auto n.lead n.window n.segments (s.setting b).shift s.slot

/-- The state with the record of an accepted notice placed and queued, before the search start. -/
def postedState (s : State) (b : Bay) (p : Pos) (n : Notice) : State :=
  ((s.putLane b (acceptedLane (s.lane b) n.tag)).putSeek b p (some (noticeSeek s b n))).setQueue
    (s.queue ++ [{ bay := b, pos := p, held := false }])

theorem forgetExpired_eq (b : Bay) (tag : Tag) (s : State) :
    forgetExpired b tag s = s.putLane b { s.lane b with
      lastExpired := if (s.lane b).lastExpired = some tag then none
        else (s.lane b).lastExpired } := by
  unfold forgetExpired
  split
  · rfl
  · exact (putLane_same s b).symm

theorem postSeek_goodFrame (b : Bay) (p : Pos) (n : Notice) (s : State) :
    postSeek b p n (goodFrame b s) = searchStart (postedState s b p n) := by
  have hlane : forgetExpired b n.tag (goodFrame b s)
      = s.putLane b (acceptedLane (s.lane b) n.tag) := by
    rw [forgetExpired_eq, goodFrame, putLane_putLane, State.lane_putLane_self]
    rfl
  have hcomm (x : Option Seek) : forgetExpired b n.tag ((goodFrame b s).putSeek b p x)
      = (forgetExpired b n.tag (goodFrame b s)).putSeek b p x := by
    rw [forgetExpired_eq, forgetExpired_eq]
    rfl
  simp only [postSeek, hcomm, hlane]
  rfl

theorem exec_notice_accepted {b : Bay} {s : State} {payload : List Byte} {n : Notice} {p : Pos}
    (hready : (s.lane b).state = .ready) (hread : RevisionsRead s) (hn : readNotice payload = some n)
    (hp : s.seekAt b p = none) (hlow : ∀ q, q < p → s.seekAt b q ≠ none)
    (htag : ∀ q r, s.seekAt b q = some r → r.tag ≠ n.tag)
    (hlen : profileLength n.segments ≤ 320) :
    exec (.notice b payload) s = .next (searchStart (postedState s b p n)) := by
  rw [exec_notice_of_ready hready, takeNoticeFrame_read hn,
    takeNotice_accepted (s := goodFrame b s) hp hlow htag hlen, postSeek_goodFrame]
  exact congrArg _ (readRevisions_of_streams hread (searchStart_streams _))

/-- A compiled record's span is the slots its run and tail occupy (R8). -/
theorem compileSeek_span (tag : Tag) (auto : Bool) (lead window : Nat) (segs : List Segment) (k : Nat)
    (intake : Slot) :
    let r := compileSeek tag auto lead window segs k intake
    r.span = (r.length + r.tailLen + 7) / 8 := by
  show slotsFor (profileValues segs (profileLength segs) k).length = _
  rw [profileValues_length le_rfl]
  rfl

theorem compileSeek_mags (tag : Tag) (auto : Bool) (lead window : Nat) (segs : List Segment) (k : Nat)
    (intake : Slot) {j m : Nat}
    (h : (compileSeek tag auto lead window segs k intake).mags[j]? = some m) :
    let r := compileSeek tag auto lead window segs k intake
    (∀ i : Nat, 8 * j ≤ i → i < 8 * j + 8 → (r.valueAt i).natAbs ≤ m)
      ∧ (m = 0 ∨ ∃ i : Nat, 8 * j ≤ i ∧ i < 8 * j + 8 ∧ (r.valueAt i).natAbs = m) := by
  simp only [Seek.valueAt_nat]
  exact slotMagnitudes_spec h

/-- Settles O33: the event is the search start from the state with the record posted. -/
theorem acceptedNoticeIsPosted : Obligations.AcceptedNoticeIsPosted := by
  intro s b payload n p hready hread hn hp hlow htag hlen
  refine ⟨searchStart (postedState s b p n), noticeSeek s b n,
    exec_notice_accepted hready hread hn hp hlow htag hlen, ?frame, ?lane, ?lanes, ?seeks, ?queue,
    ?search, ?engine, ?record, rfl, rfl, rfl, rfl, rfl, rfl, rfl, rfl, rfl, compileSeek_span ..,
    slotMagnitudes_length _, fun j m hm => compileSeek_mags _ _ _ _ _ _ _ hm, rfl, rfl⟩
  case frame =>
    rw [searchStart_lanes, searchStart_seeks]
    exact searchStart_eq _
  case lane =>
    rw [State.lane, searchStart_lanes]
    exact State.lane_putLane_self s b _
  case lanes =>
    intro c hc
    rw [State.lane, searchStart_lanes]
    exact State.lane_putLane_ne s _ hc.symm
  case seeks =>
    intro c q hcq
    rw [State.seekAt, searchStart_seeks]
    exact (State.seekAt_putSeek (s.putLane b _) b c p q _).trans
      (if_neg fun ⟨hc, hq⟩ => hcq (by rw [hc, hq]))
  case queue =>
    rw [searchStart_places]
    exact List.map_append
  case search => exact congrArg (exec .searchStart) (searchStart_undo (postedState s b p n))
  case engine =>
    intro sr hsr
    rw [searchStart_of_searching (s := postedState s b p n) hsr]
    exact hsr
  case record =>
    rw [State.seekAt, searchStart_seeks]
    exact State.seekAt_putSeek_self ..

/-! ## What a READY lane does with an ABORT of a running seek (R12, R29, R152) -/

/-- An ABORT of a RUNNING seek not yet cut cuts it (R29). -/
theorem exec_abort_running {b : Bay} {s : State} {x : Byte} {p : Pos} {r : Seek}
    (hready : (s.lane b).state = .ready) (htags : TagsLawful s) (hr : s.seekAt b p = some r)
    (htag : r.tag = x.extractLsb' 0 4) (hstate : r.state = .running) (hcut : r.abortIndex = none) :
    exec (.abort b [x]) s = .next (readRevisions (cutSeek b p r (goodFrame b s))) := by
  have hfind : (goodFrame b s).findTag b (tagOf (byteAt [x] 0)) = some (p, r) := by
    show s.findTag b (tagOf x) = _
    rw [tagOf_eq_extractLsb', ← htag]
    exact findTag_of_seekAt htags hr
  show execAbort b [x] s = _
  rw [execAbort, receiveFrame_of_ready hready _ rfl, takeAbortTag, hfind]
  simp [hstate, hcut]

/-! ## The record of a cut (R12) -/

section
variable {r : Seek} {k : Nat}

theorem recompileCut_valueAt_run (hcut : r.abortIndex = none) (hlen : r.length = profileLength r.segments)
    (hk : k ≤ r.length) {i : Nat} (hi : i < k) :
    (recompileCut r k).valueAt i = r.valueAt i := by
  have hend : r.runEnd = r.length := by simp [Seek.runEnd, hcut]
  rw [Seek.valueAt_nat, Seek.valueAt_nat, hend, profileValues_run hlen.le _ (hi.trans_le hk)]
  exact profileValues_run (hlen ▸ hk) _ hi

/-- From its last run index on, a cut record's values are the orbit of its last level. -/
theorem recompileCut_valueAt_tail (h1 : 1 ≤ k) (hk : k ≤ profileLength r.segments) (j : Nat) :
    (recompileCut r k).valueAt (k - 1 + j : Nat)
      = (tailStep r.shift)^[j] ((recompileCut r k).valueAt (k - 1 : Nat)) := by
  rw [Seek.valueAt_nat, Seek.valueAt_nat]
  show (profileValues r.segments k r.shift).getD _ 0
    = (tailStep r.shift)^[j] ((profileValues r.segments k r.shift).getD _ 0)
  rw [profileValues_tail h1 hk, profileValues_run hk _ (by omega)]

theorem recompileCut_tailLen : (recompileCut r k).tailLen = (runTail r.segments k r.shift).length := rfl

/-- Past the run the values are other than 0 exactly within the tail. -/
theorem recompileCut_valueAt_ne_zero_iff (hk : k ≤ profileLength r.segments) {i : Nat} (hi : k ≤ i) :
    (recompileCut r k).valueAt i ≠ 0 ↔ i < k + (recompileCut r k).tailLen := by
  have hlen := runLevels_length hk
  rw [Seek.valueAt_nat, recompileCut_tailLen]
  show (profileValues r.segments k r.shift).getD i 0 ≠ 0 ↔ _
  rw [profileValues, List.getD_append_right _ _ _ _ (by omega), hlen, runTail, getD_tailOf,
    iterate_tailStep_ne_zero_iff]
  omega

theorem recompileCut_eq (hk : k ≤ profileLength r.segments) :
    recompileCut r k = { r with
      abortIndex := some k
      tailLen := (recompileCut r k).tailLen
      span := (k + (recompileCut r k).tailLen + 7) / 8
      mags := (recompileCut r k).mags } := by
  have hspan : (recompileCut r k).span = (k + (recompileCut r k).tailLen + 7) / 8 := by
    show slotsFor (profileValues r.segments k r.shift).length = _
    rw [profileValues_length hk]
    rfl
  rw [← hspan]
  rfl

end

/-! ## The samples a cut changes (R29) -/

/-- A RUNNING seek's abort index counts the samples of its run that are taken: at least one, and no
more than the run has. -/
theorem cutIndex_of_timely {now : Sample} {r : Seek} {l : Slot} (hl : r.launch = some l)
    (hstate : r.state = .running) (hend : r.runEnd ≤ 320) (ht : r.Timely now) :
    1 ≤ cutIndex now r ∧ cutIndex now r ≤ r.runEnd
      ∧ (cutIndex now r : Int) = (now + 1 - launchSample l).toInt
      ∧ now + 1 = launchSample l + BitVec.ofNat 32 (cutIndex now r) := by
  have hlaunch : r.launchAt = launchSample l := by simp [Seek.launchAt, hl]
  simp only [Seek.Timely, hl, hstate] at ht
  obtain ⟨-, -, -, hlo, hhi⟩ := ht
  rw [cutIndex, hlaunch]
  generalize launchSample l = a at hlo hhi ⊢
  rw [BitVec.toInt_eq_toNat_cond] at hlo hhi
  have hlt : (now - a).toNat < r.runEnd := by split at hhi <;> omega
  have hnat : (now + 1 - a).toNat = (now - a).toNat + 1 := by bv_omega
  refine ⟨by omega, by omega, ?_, ?_⟩
  · rw [BitVec.toInt_eq_toNat_of_lt (by omega)]
  · rw [BitVec.ofNat_toNat, BitVec.setWidth_eq]
    bv_omega

theorem atOrBefore_lastOf_iff {a : Sample} {k q : Nat} (hk : k < 2 ^ 30) (hq : q < 2 ^ 30) :
    atOrBefore (a + BitVec.ofNat 32 k) (lastOf a q) = true ↔ k < q := by
  rw [atOrBefore, decide_eq_true_iff, lastOf, BitVec.toInt_eq_toNat_cond]
  have hdiff : a + BitVec.ofNat 32 q - 1 - (a + BitVec.ofNat 32 k)
      = BitVec.ofNat 32 q - 1 - BitVec.ofNat 32 k := by bv_omega
  rw [hdiff]
  obtain h | h := lt_or_ge k q
  · have hnat : (BitVec.ofNat 32 q - 1 - BitVec.ofNat 32 k).toNat = q - 1 - k := by bv_omega
    rw [hnat, if_pos (by omega)]
    omega
  · have hnat : (BitVec.ofNat 32 q - 1 - BitVec.ofNat 32 k).toNat = 2 ^ 32 + q - 1 - k := by bv_omega
    rw [hnat, if_neg (by omega)]
    omega

section
variable {r : Seek} {l : Slot} (k : Nat)

theorem cutEnd_eq (hl : r.launch = some l) (hcut : r.abortIndex = none) :
    cutEnd r (recompileCut r k) = lastOf (launchSample l)
      (max (r.length + r.tailLen) (k + (recompileCut r k).tailLen)) := by
  simp [cutEnd, Seek.launchAt, hl, Seek.tailEnd, Seek.runEnd, hcut, recompileCut]

/-- A cut after `k` samples changes a sample exactly where either profile is longer than `k`. -/
theorem cut_changes_iff (hl : r.launch = some l) (hcut : r.abortIndex = none) (hc : r.Compiled)
    (hk : k ≤ r.length) :
    atOrBefore (launchSample l + BitVec.ofNat 32 k) (cutEnd r (recompileCut r k)) = true
      ↔ k < max (r.length + r.tailLen) (k + (recompileCut r k).tailLen) := by
  obtain ⟨-, -, hlen320, -, -, -, -, hsegs, htail, -, -⟩ := hc
  have hlevels : ∀ g ∈ r.segments, g.level.natAbs ≤ 127 := fun g hg => by
    obtain ⟨hlo, hhi, -, -⟩ := hsegs g hg
    omega
  have hold := htail.trans_le (runTail_length_le hlevels r.runEnd r.shift)
  have hnew : (recompileCut r k).tailLen ≤ 127 := runTail_length_le hlevels k r.shift
  rw [cutEnd_eq k hl hcut]
  exact atOrBefore_lastOf_iff (by omega) (by omega)

end

/-! ## What a cut does to the blocks (R12, R29, R54) -/

theorem replaceExposure_eq (b : Bay) (r x : Seek) (s : State) :
    replaceExposure b r x s = s.setExposure (replaceExposure b r x s).exposure :=
  changeExposure_eq ..

/-- A load gives way to another from slot current + 1 on, unless a rebuild is in progress (R54, R58). -/
theorem replaceExposure_at (b : Bay) (r x : Seek) (s : State) (c : Bay) (i : Fin 64) :
    (replaceExposure b r x s).exposureAt c i =
      if s.rebuild.isSome ∨ i = positionOf s.slot then s.exposureAt c i
      else s.exposureAt c i - s.loadOn b r c (slotAt s.slot i) + s.loadOn b x c (slotAt s.slot i) := by
  rw [replaceExposure, changeExposure_at]
  by_cases hb : s.rebuild.isSome <;> simp [hb]

/-- A cut replaces the record and its load, and gives the streams the forecast change from the next
sample to the last either profile reaches, where there is such a sample (R12, R29, R54). -/
theorem cutSeek_eq (b : Bay) (p : Pos) (r : Seek) (s : State) :
    let g := recompileCut r (cutIndex s.now r)
    cutSeek b p r s = ((s.putSeek b p (some g)).setExposure
      (replaceExposure b r g (s.putSeek b p (some g))).exposure).setStreams
        (if atOrBefore (s.now + 1) (cutEnd r g) then
          (forecastChange b (s.now + 1) (cutEnd r g) s).streams
        else s.streams) := by
  simp only [cutSeek]
  rw [replaceExposure_eq]
  split <;> rfl

section
variable {b : Bay} {p : Pos} {r : Seek} {s : State}

/-- The whole event changes the lane's count, the record, the exposure table and the streams. -/
theorem cutSeek_goodFrame_frame :
    let t := readRevisions (cutSeek b p r (goodFrame b s))
    t = (((s.putLane b { s.lane b with bad := 0 }).putSeek b p
      (some (recompileCut r (cutIndex s.now r)))).setExposure t.exposure).setStreams t.streams := by
  rw [cutSeek_eq]
  rfl

theorem cutSeek_goodFrame_exposureAt (c : Bay) (i : Fin 64) :
    (readRevisions (cutSeek b p r (goodFrame b s))).exposureAt c i =
      if s.rebuild.isSome ∨ i = positionOf s.slot then s.exposureAt c i
      else s.exposureAt c i - s.loadOn b r c (slotAt s.slot i)
        + s.loadOn b (recompileCut r (cutIndex s.now r)) c (slotAt s.slot i) := by
  rw [cutSeek_eq]
  exact replaceExposure_at b r _ ((goodFrame b s).putSeek b p _) c i

theorem cutSeek_goodFrame_published
    (h : atOrBefore (s.now + 1) (cutEnd r (recompileCut r (cutIndex s.now r))) = true) :
    ChangePublished b (s.now + 1) (cutEnd r (recompileCut r (cutIndex s.now r))) s
      (readRevisions (cutSeek b p r (goodFrame b s))) := by
  rw [cutSeek_eq]
  exact changePublished_readRevisions (if_pos h)

theorem cutSeek_goodFrame_unpublished (hread : RevisionsRead s)
    (h : ¬ atOrBefore (s.now + 1) (cutEnd r (recompileCut r (cutIndex s.now r))) = true) :
    (readRevisions (cutSeek b p r (goodFrame b s))).streams = s.streams := by
  have hstreams : (cutSeek b p r (goodFrame b s)).streams = s.streams := by
    rw [cutSeek_eq]
    exact if_neg h
  rw [readRevisions_of_streams hread hstreams, hstreams]

end

/-- Settles O37: the cut's one equation, read block by block; the values past the cut are the orbit of
the last one taken. -/
theorem abortCutsTheRun : Obligations.AbortCutsTheRun := by
  intro s b x p r l hready hread htags hr htag hstate hcut hl hcompiled htimely
  have hend : r.runEnd = r.length := by simp [Seek.runEnd, hcut]
  have ⟨hlen, _, hlen320, _⟩ := hcompiled
  obtain ⟨hk1, hk, hindex, hnext⟩ := cutIndex_of_timely hl hstate (hend ▸ hlen320) htimely
  rw [hend] at hk
  have hkp : cutIndex s.now r ≤ profileLength r.segments := hlen ▸ hk
  have hchange := cut_changes_iff (cutIndex s.now r) hl hcut hcompiled hk
  rw [← hnext] at hchange
  have htailIndex (i : Nat) (hi : cutIndex s.now r ≤ i) : ∃ j, i = cutIndex s.now r - 1 + (j + 1) :=
    ⟨i - cutIndex s.now r, by omega⟩
  refine ⟨_, recompileCut r (cutIndex s.now r), cutIndex s.now r,
    exec_abort_running hready htags hr htag hstate hcut, cutSeek_goodFrame_frame, hindex, hk1, hk,
    recompileCut_eq hkp, fun i hi => recompileCut_valueAt_run hcut hlen hk hi,
    fun i hi => ?magnitude, fun i hi => ?sign,
    fun i hi => recompileCut_valueAt_ne_zero_iff hkp hi, rfl, cutSeek_goodFrame_exposureAt,
    fun hq => ?published, fun hq => ?unpublished⟩
  case magnitude =>
    obtain ⟨j, rfl⟩ := htailIndex i hi
    rw [Nat.add_sub_assoc (by omega), Nat.add_sub_cancel, recompileCut_valueAt_tail hk1 hkp,
      recompileCut_valueAt_tail hk1 hkp, natAbs_iterate_tailStep_succ]
  case sign =>
    obtain ⟨j, rfl⟩ := htailIndex i hi
    rw [recompileCut_valueAt_tail hk1 hkp,
      ← recompileCut_valueAt_run hcut hlen hk (i := cutIndex s.now r - 1) (by omega)]
    exact iterate_tailStep_mul_nonneg ..
  case published =>
    have hpub := cutSeek_goodFrame_published (b := b) (p := p) (hchange.mpr hq)
    rwa [cutEnd_eq _ hl hcut] at hpub
  case unpublished =>
    exact cutSeek_goodFrame_unpublished hread fun h => absurd (hchange.mp h) (not_lt.mpr hq)

end Sys2Proof.Machine
end

section
/-! PROOF. What the release of a bay does (R38, R39, R53, R78, R106, R112, R157): the freed seeks as one
change of the state, and the statements' `BayReleased` and `LaneFaulted` from it. -/

namespace Sys2Proof.Machine

/-! ## Forecast changes (R106)

A forecast change reads the clock, the active table and the streams alone, and writes the streams of the
other bays alone. -/

theorem forecastChange_eq (src : Bay) (a z : Sample) (s : State) :
    forecastChange src a z s = s.setStreams (forecastChange src a z s).streams := rfl

theorem forecastChange_streams_congr {s t : State} (hstreams : t.streams = s.streams)
    (htime : t.time = s.time) (hstore : t.store = s.store) (src : Bay) (a z : Sample) :
    (forecastChange src a z t).streams = (forecastChange src a z s).streams := by
  refine Tab.ext_get fun c => ?_
  have hstream : t.stream c = s.stream c := congrArg (Tab.get · c) hstreams
  have hcoeff : t.coeff c src = s.coeff c src := by rw [State.coeff, hstore]; rfl
  have hnow : t.now = s.now := congrArg TimeBase.sample htime
  show (forecastChange src a z t).stream c = (forecastChange src a z s).stream c
  rw [forecastChange_stream, forecastChange_stream, hstream, hcoeff, hnow]

theorem forecastChange_stream_own (b : Bay) (a z : Sample) (s : State) :
    (forecastChange b a z s).stream b = s.stream b := by
  simp [forecastChange_stream]

/-- A stream of the changed bay's own that is replaced is passed through. -/
theorem forecastChange_putStream_own (b : Bay) (a z : Sample) (t : Stream) (s : State) :
    forecastChange b a z (s.putStream b t) = (forecastChange b a z s).putStream b t := by
  have hstreams : (forecastChange b a z (s.putStream b t)).streams
      = ((forecastChange b a z s).putStream b t).streams := by
    refine Tab.ext_get fun c => ?_
    show (forecastChange b a z (s.putStream b t)).stream c
      = ((forecastChange b a z s).putStream b t).stream c
    obtain rfl | hc := eq_or_ne b c
    · rw [forecastChange_stream_own, State.stream_putStream_self, State.stream_putStream_self]
    · rw [State.stream_putStream_ne _ _ hc, forecastChange_stream, forecastChange_stream,
        State.stream_putStream_ne _ _ hc]
      rfl
  rw [forecastChange_eq, hstreams]
  rfl

/-! ## Searches (R66, R78)

A search start reads the clock, the records, the exposure table, the settings, the active table, the queue
and the engine, and writes the last two alone. -/

theorem scanQueue_congr {s t : State} (h : ∀ b p, trySeek t b p = trySeek s b p)
    (q : List QueueEntry) : scanQueue t q = scanQueue s q := by
  induction q with
  | nil => rfl
  | cons e rest ih => simp only [scanQueue, h, ih]

/-- A search start commutes with a change of the streams. -/
theorem searchStart_setStreams (s : State) (x : Tab 16 Stream) :
    searchStart (s.setStreams x) = (searchStart s).setStreams x := by
  have htry (b : Bay) (p : Pos) : trySeek (s.setStreams x) b p = trySeek s b p := rfl
  have hscan := scanQueue_congr htry s.queue
  unfold searchStart
  simp only [State.setStreams_engine, State.setStreams_rebuild, State.setStreams_queue, hscan]
  split <;> rfl

theorem readRevisions_eq (s : State) : readRevisions s = s.setStreams (readRevisions s).streams := rfl

/-- A search on a seek abandoned, and the seek's entry removed, in the form the statements use. -/
theorem abandonSearch_eq (b : Bay) (p : Pos) (s : State) :
    abandonSearch b p s = s.setEngine (s.engine.filter fun sr => (sr.bay, sr.pos) ≠ (b, p)) := by
  unfold abandonSearch
  cases h : s.engine with
  | none =>
    show s = s.setEngine none
    rw [← h]
    rfl
  | some sr =>
    simp only [Option.filter_some, Prod.mk.injEq, ne_eq, decide_not, Bool.not_eq_true']
    by_cases hp : sr.bay = b ∧ sr.pos = p
    · rw [if_pos hp, decide_eq_true hp]
      rfl
    · rw [if_neg hp, decide_eq_false hp, if_pos rfl, ← h]
      rfl

theorem dequeue_eq (b : Bay) (p : Pos) (s : State) :
    dequeue b p s = s.setQueue (s.queue.filter fun e => (e.bay, e.pos) ≠ (b, p)) := by
  unfold dequeue
  congr 1
  refine List.filter_congr fun e _ => ?_
  rw [Bool.eq_iff_iff]
  simp only [Bool.not_eq_true', Bool.and_eq_false_iff, beq_eq_false_iff_ne, ne_eq, Prod.mk.injEq,
    not_and_or, decide_eq_true_eq]

/-! ## The load of a bay's seeks (R50, R53) -/

/-- The load that what stands at position `p` of bay `src` places on bay `c` in slot `t` (R50). -/
def State.loadAt (s : State) (src c : Bay) (t : Slot) (p : Pos) : Nat :=
  ((s.seekAt src p).map fun r => if r.state = .posted then 0 else s.loadOn src r c t).getD 0

theorem sum_map_filterMap {α β : Type} (f : α → Option β) (g : β → Nat) (l : List α) :
    ((l.filterMap f).map g).sum = (l.map fun x => ((f x).map g).getD 0).sum := by
  induction l with
  | nil => rfl
  | cons x xs ih => cases h : f x <;> simp [h, ih]

theorem bayLoad_eq (s : State) (src c : Bay) (t : Slot) :
    s.bayLoad src c t = (positions.map (s.loadAt src c t)).sum := by
  unfold State.bayLoad State.liveSeeks
  rw [sum_map_filterMap]
  simp only [Option.map_map]
  rfl

theorem removeExposure_eq (b : Bay) (r : Seek) (s : State) :
    removeExposure b r s = s.setExposure (removeExposure b r s).exposure :=
  changeExposure_eq ..

/-- A load leaves the table from slot current + 1 on, unless a rebuild is in progress (R53, R58). -/
theorem removeExposure_at (b : Bay) (r : Seek) (s : State) (c : Bay) (i : Fin 64) :
    (removeExposure b r s).exposureAt c i =
      if s.rebuild.isSome ∨ i = positionOf s.slot then s.exposureAt c i
      else s.exposureAt c i - s.loadOn b r c (slotAt s.slot i) := by
  rw [removeExposure, changeExposure_at]
  by_cases hb : s.rebuild.isSome <;> simp [hb]

/-! ## The freed seeks of a bay as one change (R39) -/

/-- States that agree in setup and in every part that lane events act on are the same. -/
theorem KeepsSetup.eq {s t : State} (h : KeepsSetup s t) (hlanes : t.lanes = s.lanes)
    (hseeks : t.seeks = s.seeks) (hexposure : t.exposure = s.exposure) (hqueue : t.queue = s.queue)
    (hengine : t.engine = s.engine) (hstreams : t.streams = s.streams)
    (hattention : t.attention = s.attention) : t = s := by
  obtain ⟨htime, hreceivers, hhistory, hrebuild, hsettings, hstore, hacc, hport, hpins, hpending⟩ := h
  cases s
  cases t
  simp_all

theorem KeepsSetup.eventPart {s t : State} (h : KeepsSetup s t) : t = s.eventPart t := by
  refine KeepsSetup.eq ?_ rfl rfl rfl rfl rfl rfl rfl
  exact ⟨h.time, h.receivers, h.history, h.rebuild, h.settings, h.store, h.acc, h.port, h.pins,
    h.pending⟩

theorem KeepsSetup.symm {s t : State} (h : KeepsSetup s t) : KeepsSetup t s :=
  ⟨h.time.symm, h.receivers.symm, h.history.symm, h.rebuild.symm, h.settings.symm, h.store.symm,
    h.acc.symm, h.port.symm, h.pins.symm, h.pending.symm⟩

theorem KeepsSetup.now {s t : State} (h : KeepsSetup s t) : t.now = s.now :=
  congrArg TimeBase.sample h.time

theorem KeepsSetup.slot {s t : State} (h : KeepsSetup s t) : t.slot = s.slot :=
  congrArg slotOf h.now

theorem KeepsSetup.coeff {s t : State} (h : KeepsSetup s t) (b src : Bay) :
    t.coeff b src = s.coeff b src := by
  rw [State.coeff, h.store]
  rfl

theorem KeepsSetup.loadOn {s t : State} (h : KeepsSetup s t) (src : Bay) (r : Seek) (b : Bay)
    (m : Slot) : t.loadOn src r b m = s.loadOn src r b m := by
  rw [State.loadOn, h.coeff]
  rfl

/-- A removal reads the table, the rebuild, the slot and the active table alone. -/
theorem removeExposure_congr {s t : State} (h : KeepsSetup s t) (he : t.exposure = s.exposure)
    (b : Bay) (r : Seek) : (removeExposure b r t).exposure = (removeExposure b r s).exposure := by
  refine Tab.ext_get fun c => Tab.ext_get fun i => ?_
  refine (removeExposure_at b r t c i).trans (Eq.trans ?_ (removeExposure_at b r s c i).symm)
  rw [h.rebuild, h.slot, h.loadOn, State.exposureAt, he]
  rfl

/-- What stands at position `p` of bay `b` publishes its forecast change where it is granted (R38, R39). -/
def State.publishAt (s : State) (b : Bay) (u : State) (p : Pos) : State :=
  match s.seekAt b p with
  | none => u
  | some r =>
    if r.state = .posted then u
    else forecastChange b (later r.launchAt s.now) (lastOf r.launchAt r.tailEnd) u

theorem bayPublished_eq (s : State) (b : Bay) :
    s.bayPublished b = positions.foldl (s.publishAt b) s := by
  unfold State.bayPublished
  congr
  funext u p
  unfold State.publishAt
  cases s.seekAt b p <;> rfl

/-- A place whose entry leaves the queue, and whose search is abandoned, when positions `ps` of bay `b`
are freed: that of a POSTED seek among them. -/
def State.unposts (s : State) (b : Bay) (ps : List Pos) (x : Bay × Pos) : Bool :=
  x.1 == b && ps.contains x.2 && s.isPosted b x.2

/-- The exposure table without the load of positions `ps` of bay `b` (R53, R58). -/
def State.exposureWithout (s : State) (b : Bay) (ps : List Pos) : Tab 16 (Tab 64 Nat) :=
  if s.rebuild.isSome then s.exposure
  else Tab.gen 16 fun c => Tab.gen 64 fun i =>
    if i = positionOf s.slot then s.exposureAt c i
    else s.exposureAt c i - (ps.map (s.loadAt b c (slotAt s.slot i))).sum

/-- The state with positions `ps` of bay `b` freed. -/
def State.freedAt (s : State) (b : Bay) (ps : List Pos) : State :=
  ((((s.setSeeks (s.seeks.upd b (Tab.gen 4 fun p => if p ∈ ps then none else s.seekAt b p))).setQueue
    (s.queue.filter fun e => !s.unposts b ps (e.bay, e.pos))).setEngine
    (s.engine.filter fun sr => !s.unposts b ps (sr.bay, sr.pos))).setExposure
    (s.exposureWithout b ps)).setStreams (ps.foldl (s.publishAt b) s).streams

theorem seekAt_setSeeks_upd (s : State) (b c : Bay) (x : Tab 4 (Option Seek)) (q : Pos) :
    (s.setSeeks (s.seeks.upd b x)).seekAt c q = if b = c then x.get q else s.seekAt c q := by
  simp only [State.seekAt, State.setSeeks_seeks, Tab.get_upd]
  split <;> rfl

section
variable (s : State) (b : Bay) (ps : List Pos)

theorem freedAt_seekAt (c : Bay) (q : Pos) :
    (s.freedAt b ps).seekAt c q = if b = c ∧ q ∈ ps then none else s.seekAt c q := by
  refine (seekAt_setSeeks_upd s b c _ q).trans ?_
  by_cases hc : b = c
  · subst hc
    simp
  · simp [hc]

theorem freedAt_keeps : KeepsSetup s (s.freedAt b ps) := by constructor <;> rfl

theorem freedAt_exposureAt (c : Bay) (i : Fin 64) :
    (s.freedAt b ps).exposureAt c i =
      if s.rebuild.isSome ∨ i = positionOf s.slot then s.exposureAt c i
      else s.exposureAt c i - (ps.map (s.loadAt b c (slotAt s.slot i))).sum := by
  show ((s.exposureWithout b ps).get c).get i = _
  unfold State.exposureWithout
  by_cases hr : s.rebuild.isSome
  · simp [hr, State.exposureAt]
  · simp [hr]

end

/-! What freeing one position does to each part. -/

section
variable (s : State) (b : Bay) (p : Pos)

theorem freeSeek_of_none (h : s.seekAt b p = none) : freeSeek b s p = s := by
  rw [freeSeek, h]

theorem freeSeek_of_posted {r : Seek} (h : s.seekAt b p = some r) (hr : r.state = .posted) :
    freeSeek b s p = ((s.putSeek b p none).setQueue
      (s.queue.filter fun e => (e.bay, e.pos) ≠ (b, p))).setEngine
        (s.engine.filter fun sr => (sr.bay, sr.pos) ≠ (b, p)) := by
  simp only [freeSeek, h, hr, if_true, abandonSearch_eq, dequeue_eq]
  rfl

theorem freeSeek_of_granted {r : Seek} (h : s.seekAt b p = some r) (hr : r.state ≠ .posted) :
    freeSeek b s p = ((s.putSeek b p none).setExposure (removeExposure b r s).exposure).setStreams
      (s.publishAt b s p).streams := by
  simp only [freeSeek, State.publishAt, h, if_neg hr]
  have hkeeps : KeepsSetup s (s.putSeek b p none) := by constructor <;> rfl
  rw [removeExposure_eq, removeExposure_congr hkeeps rfl]
  rfl

theorem freeSeek_lanes : (freeSeek b s p).lanes = s.lanes := by
  cases h : s.seekAt b p with
  | none => rw [freeSeek_of_none s b p h]
  | some r =>
    by_cases hr : r.state = .posted
    · rw [freeSeek_of_posted s b p h hr]; rfl
    · rw [freeSeek_of_granted s b p h hr]; rfl

theorem freeSeek_attention : (freeSeek b s p).attention = s.attention := by
  cases h : s.seekAt b p with
  | none => rw [freeSeek_of_none s b p h]
  | some r =>
    by_cases hr : r.state = .posted
    · rw [freeSeek_of_posted s b p h hr]; rfl
    · rw [freeSeek_of_granted s b p h hr]; rfl

theorem freeSeek_seeks : (freeSeek b s p).seeks = (s.putSeek b p none).seeks := by
  cases h : s.seekAt b p with
  | none =>
    rw [freeSeek_of_none s b p h, ← h]
    exact (congrArg (s.seeks.upd b) (Tab.upd_get ..)).trans (Tab.upd_get ..) |>.symm
  | some r =>
    by_cases hr : r.state = .posted
    · rw [freeSeek_of_posted s b p h hr]; rfl
    · rw [freeSeek_of_granted s b p h hr]; rfl

theorem freeSeek_seekAt (c : Bay) (q : Pos) :
    (freeSeek b s p).seekAt c q = if b = c ∧ p = q then none else s.seekAt c q := by
  rw [State.seekAt, freeSeek_seeks]
  exact State.seekAt_putSeek ..

theorem unposts_single (x : Bay × Pos) :
    s.unposts b [p] x = (decide (x = (b, p)) && s.isPosted b p) := by
  obtain ⟨c, q⟩ := x
  rw [Bool.eq_iff_iff]
  simp only [State.unposts, List.contains_cons, List.contains_nil, Bool.or_false, Bool.and_eq_true,
    beq_iff_eq, decide_eq_true_eq, Prod.mk.injEq]
  constructor
  · rintro ⟨⟨rfl, rfl⟩, h⟩; exact ⟨⟨rfl, rfl⟩, h⟩
  · rintro ⟨⟨rfl, rfl⟩, h⟩; exact ⟨⟨rfl, rfl⟩, h⟩

theorem unposts_append (ps qs : List Pos) (x : Bay × Pos) :
    s.unposts b (ps ++ qs) x = (s.unposts b ps x || s.unposts b qs x) := by
  simp only [State.unposts, List.contains_append]
  cases x.1 == b <;> cases s.isPosted b x.2 <;> simp

theorem isPosted_of_seekAt {r : Seek} (h : s.seekAt b p = some r) :
    s.isPosted b p = decide (r.state = .posted) := by
  rw [State.isPosted, h]
  rfl

theorem freeSeek_queue :
    (freeSeek b s p).queue = s.queue.filter fun e => !s.unposts b [p] (e.bay, e.pos) := by
  simp only [unposts_single]
  cases h : s.seekAt b p with
  | none =>
    rw [freeSeek_of_none s b p h, State.isPosted, h]
    simp
  | some r =>
    rw [isPosted_of_seekAt s b p h]
    by_cases hr : r.state = .posted
    · rw [freeSeek_of_posted s b p h hr]
      simp [hr]
    · rw [freeSeek_of_granted s b p h hr]
      simp [hr]

theorem option_filter_true {α : Type} (o : Option α) : (o.filter fun _ => true) = o := by
  cases o <;> rfl

theorem freeSeek_engine :
    (freeSeek b s p).engine = s.engine.filter fun sr => !s.unposts b [p] (sr.bay, sr.pos) := by
  simp only [unposts_single]
  cases h : s.seekAt b p with
  | none =>
    rw [freeSeek_of_none s b p h, State.isPosted, h]
    simp [option_filter_true]
  | some r =>
    rw [isPosted_of_seekAt s b p h]
    by_cases hr : r.state = .posted
    · rw [freeSeek_of_posted s b p h hr]
      simp [hr]
    · rw [freeSeek_of_granted s b p h hr]
      simp [hr, option_filter_true]

theorem freeSeek_exposureAt (c : Bay) (i : Fin 64) :
    (freeSeek b s p).exposureAt c i =
      if s.rebuild.isSome ∨ i = positionOf s.slot then s.exposureAt c i
      else s.exposureAt c i - s.loadAt b c (slotAt s.slot i) p := by
  cases h : s.seekAt b p with
  | none => simp [freeSeek_of_none s b p h, State.loadAt, h]
  | some r =>
    by_cases hr : r.state = .posted
    · simp [freeSeek_of_posted s b p h hr, State.loadAt, h, hr]
    · rw [freeSeek_of_granted s b p h hr]
      refine (removeExposure_at b r s c i).trans ?_
      simp [State.loadAt, h, hr]

theorem freeSeek_streams : (freeSeek b s p).streams = (s.publishAt b s p).streams := by
  cases h : s.seekAt b p with
  | none => rw [freeSeek_of_none s b p h, State.publishAt, h]
  | some r =>
    by_cases hr : r.state = .posted
    · rw [freeSeek_of_posted s b p h hr]
      simp only [State.publishAt, h, if_pos hr]
      rfl
    · rw [freeSeek_of_granted s b p h hr]
      rfl

end

/-- What is published depends on the record, the clock and the active table. -/
theorem publishAt_streams_congr {s t u v : State} {b : Bay} {p : Pos}
    (hseek : t.seekAt b p = s.seekAt b p) (hnow : t.now = s.now) (htime : v.time = u.time)
    (hstore : v.store = u.store) (hstreams : v.streams = u.streams) :
    (t.publishAt b v p).streams = (s.publishAt b u p).streams := by
  unfold State.publishAt
  rw [hseek, hnow]
  split
  · exact hstreams
  · split
    · exact hstreams
    · exact forecastChange_streams_congr hstreams htime hstore ..

theorem publishAt_keeps (s : State) (b : Bay) (u : State) (p : Pos) :
    KeepsSetup u (s.publishAt b u p) := by
  unfold State.publishAt
  split
  · exact .refl u
  · exact .ite (.refl u) (forecastChange_keeps ..)

/-- Freeing one more position. -/
theorem freeSeek_freedAt (s : State) (b : Bay) {ps : List Pos} {p : Pos} (hp : p ∉ ps) :
    freeSeek b (s.freedAt b ps) p = s.freedAt b (ps ++ [p]) := by
  have hseek : (s.freedAt b ps).seekAt b p = s.seekAt b p := by
    rw [freedAt_seekAt, if_neg fun h => hp h.2]
  have hkeeps := freedAt_keeps s b ps
  have hunposts (x : Bay × Pos) : (s.freedAt b ps).unposts b [p] x = s.unposts b [p] x := by
    rw [unposts_single, unposts_single, State.isPosted, hseek]
    rfl
  refine KeepsSetup.eq (((freedAt_keeps ..).symm.trans hkeeps).trans (freeSeek_keeps ..))
    ?lanes ?seeks ?exposure ?queue ?engine ?streams ?attention
  case lanes => exact freeSeek_lanes ..
  case attention => exact freeSeek_attention ..
  case seeks =>
    refine Tab.ext_get fun c => Tab.ext_get fun q => ?_
    refine (freeSeek_seekAt _ b p c q).trans (Eq.trans ?_ (freedAt_seekAt s b _ c q).symm)
    rw [freedAt_seekAt]
    simp only [List.mem_append, List.mem_singleton]
    grind
  case exposure =>
    refine Tab.ext_get fun c => Tab.ext_get fun i => ?_
    refine (freeSeek_exposureAt _ b p c i).trans (Eq.trans ?_ (freedAt_exposureAt s b _ c i).symm)
    have hload : (s.freedAt b ps).loadAt b c (slotAt s.slot i) p
        = s.loadAt b c (slotAt s.slot i) p := by
      rw [State.loadAt, hseek]
      rfl
    rw [hkeeps.rebuild, hkeeps.slot, hload, freedAt_exposureAt, List.map_append, List.sum_append]
    split
    · rfl
    · exact (Nat.sub_sub ..).trans (by simp)
  case queue =>
    rw [freeSeek_queue]
    refine List.filter_filter.trans (List.filter_congr fun e _ => ?_)
    rw [hunposts, unposts_append, Bool.not_or, Bool.and_comm]
  case engine =>
    rw [freeSeek_engine]
    refine Option.filter_filter.trans (congrArg (Option.filter · s.engine) (funext fun sr => ?_))
    rw [hunposts, unposts_append, Bool.not_or]
  case streams =>
    rw [freeSeek_streams]
    show _ = ((ps ++ [p]).foldl (s.publishAt b) s).streams
    rw [List.foldl_append]
    have hfold := KeepsSetup.foldl (publishAt_keeps s b) ps s
    exact publishAt_streams_congr hseek hkeeps.now (hkeeps.time.trans hfold.time.symm)
      (hkeeps.store.trans hfold.store.symm) rfl

theorem freedAt_nil (s : State) (b : Bay) : s.freedAt b [] = s := by
  refine KeepsSetup.eq (freedAt_keeps ..) rfl ?_ ?_ ?_ ?_ rfl rfl
  · exact Tab.ext_get fun c => Tab.ext_get fun q => (freedAt_seekAt s b [] c q).trans (if_neg (by simp))
  · exact Tab.ext_get fun c => Tab.ext_get fun i =>
      (freedAt_exposureAt s b [] c i).trans (by simp; rfl)
  · show s.queue.filter _ = _
    simp [State.unposts]
  · show s.engine.filter _ = _
    simp [State.unposts, option_filter_true]

/-- Freeing the seeks of a bay, position after position, is one change of the state. -/
theorem foldl_freeSeek (s : State) (b : Bay) (ps : List Pos) (h : ps.Nodup) :
    ps.foldl (freeSeek b) s = s.freedAt b ps := by
  induction ps using List.reverseRecOn with
  | nil => exact (freedAt_nil s b).symm
  | append_singleton ps p ih =>
    obtain ⟨hps, -, hdisjoint⟩ := List.nodup_append.mp h
    rw [List.foldl_append, ih hps, List.foldl_cons, List.foldl_nil]
    exact freeSeek_freedAt s b fun hp => hdisjoint p hp p (by simp) rfl

theorem freeBay_eq (b : Bay) (s : State) : freeBay b s = s.freedAt b positions :=
  foldl_freeSeek s b positions (List.nodup_finRange 4)

/-! ## Freeing a bay beside its lane, its own stream and the Attention Unit -/

theorem foldl_publishAt_streams_congr {s t : State} {b : Bay}
    (hseek : ∀ p, t.seekAt b p = s.seekAt b p) (htime : t.time = s.time) (hstore : t.store = s.store)
    (hstreams : t.streams = s.streams) (ps : List Pos) :
    (ps.foldl (t.publishAt b) t).streams = (ps.foldl (s.publishAt b) s).streams := by
  induction ps using List.reverseRecOn with
  | nil => exact hstreams
  | append_singleton ps p ih =>
    simp only [List.foldl_append, List.foldl_cons, List.foldl_nil]
    have hs := KeepsSetup.foldl (publishAt_keeps s b) ps s
    have ht := KeepsSetup.foldl (publishAt_keeps t b) ps t
    exact publishAt_streams_congr (hseek p) (congrArg TimeBase.sample htime)
      (ht.time.trans (htime.trans hs.time.symm)) (ht.store.trans (hstore.trans hs.store.symm)) ih

theorem foldl_publishAt_putStream_own (s : State) (b : Bay) (x : Stream) (ps : List Pos) (u : State) :
    ps.foldl ((s.putStream b x).publishAt b) (u.putStream b x)
      = (ps.foldl (s.publishAt b) u).putStream b x := by
  induction ps generalizing u with
  | nil => rfl
  | cons p ps ih =>
    have hstep : (s.putStream b x).publishAt b (u.putStream b x) p
        = (s.publishAt b u p).putStream b x := by
      simp only [State.publishAt, State.putStream_seekAt]
      split
      · rfl
      · split
        · rfl
        · exact forecastChange_putStream_own ..
    rw [List.foldl_cons, hstep, ih, List.foldl_cons]

theorem publishAt_stream_own (s : State) (b : Bay) (u : State) (p : Pos) :
    (s.publishAt b u p).stream b = u.stream b := by
  unfold State.publishAt
  split
  · rfl
  · split
    · rfl
    · exact forecastChange_stream_own ..

theorem foldl_publishAt_stream_own (s : State) (b : Bay) (ps : List Pos) (u : State) :
    (ps.foldl (s.publishAt b) u).stream b = u.stream b := by
  induction ps generalizing u with
  | nil => rfl
  | cons p ps ih => rw [List.foldl_cons, ih, publishAt_stream_own]

section
variable (b : Bay) (s : State)

theorem freeBay_lanes : (freeBay b s).lanes = s.lanes := by
  rw [freeBay_eq]
  rfl

theorem freeBay_lane (c : Bay) : (freeBay b s).lane c = s.lane c :=
  congrArg (Tab.get · c) (freeBay_lanes b s)

theorem freeBay_attention : (freeBay b s).attention = s.attention := by
  rw [freeBay_eq]
  rfl

theorem freeBay_stream_own : (freeBay b s).stream b = s.stream b := by
  rw [freeBay_eq]
  exact foldl_publishAt_stream_own ..

theorem freeBay_streams : (freeBay b s).streams = (s.bayPublished b).streams := by
  rw [freeBay_eq, bayPublished_eq]
  rfl

theorem freeBay_seekAt (c : Bay) (q : Pos) :
    (freeBay b s).seekAt c q = if b = c then none else s.seekAt c q := by
  rw [freeBay_eq, freedAt_seekAt]
  simp [positions]

/-- A lane, the Attention Unit, the pins and the port are beside what a release reads and changes. -/
theorem freeBay_beside (x : Tab 16 Lane) (y : Attention) (z : Pins) (w : Port) :
    freeBay b ((((s.setLanes x).setAttention y).setPins z).setPort w)
      = ((((freeBay b s).setLanes x).setAttention y).setPins z).setPort w := by
  rw [freeBay_eq, freeBay_eq]
  refine KeepsSetup.eq ?_ rfl rfl rfl rfl rfl ?_ rfl
  · exact ⟨rfl, rfl, rfl, rfl, rfl, rfl, rfl, rfl, rfl, rfl⟩
  · let t := (((s.setLanes x).setAttention y).setPins z).setPort w
    show (positions.foldl (t.publishAt b) t).streams = (positions.foldl (s.publishAt b) s).streams
    exact foldl_publishAt_streams_congr (s := s) (t := t) (fun _ => rfl) rfl rfl rfl positions

/-- A state is what its own lanes, Attention Unit, pins and port are put in. -/
theorem freeBay_same_beside : freeBay b s
    = ((((freeBay b s).setLanes s.lanes).setAttention s.attention).setPins s.pins).setPort s.port :=
  freeBay_beside b s s.lanes s.attention s.pins s.port

theorem freeBay_putLane (c : Bay) (l : Lane) :
    freeBay b (s.putLane c l) = (freeBay b s).putLane c l := by
  have h := freeBay_beside b s (s.lanes.upd c l) s.attention s.pins s.port
  have hsame := freeBay_same_beside b s
  generalize freeBay b s = v at h hsame ⊢
  rw [hsame]
  exact h

theorem freeBay_setAttention (x : Attention) :
    freeBay b (s.setAttention x) = (freeBay b s).setAttention x := by
  have h := freeBay_beside b s s.lanes x s.pins s.port
  have hsame := freeBay_same_beside b s
  generalize freeBay b s = v at h hsame ⊢
  rw [hsame]
  exact h

theorem freeBay_setPins (x : Pins) : freeBay b (s.setPins x) = (freeBay b s).setPins x := by
  have h := freeBay_beside b s s.lanes s.attention x s.port
  have hsame := freeBay_same_beside b s
  generalize freeBay b s = v at h hsame ⊢
  rw [hsame]
  exact h

theorem freeBay_setPort (x : Port) : freeBay b (s.setPort x) = (freeBay b s).setPort x := by
  have h := freeBay_beside b s s.lanes s.attention s.pins x
  have hsame := freeBay_same_beside b s
  generalize freeBay b s = v at h hsame ⊢
  rw [hsame]
  exact h

theorem freeBay_putStream_own (x : Stream) :
    freeBay b (s.putStream b x) = (freeBay b s).putStream b x := by
  rw [freeBay_eq, freeBay_eq]
  refine KeepsSetup.eq ?_ rfl rfl rfl rfl rfl ?_ rfl
  · exact ⟨rfl, rfl, rfl, rfl, rfl, rfl, rfl, rfl, rfl, rfl⟩
  · show (positions.foldl ((s.putStream b x).publishAt b) (s.putStream b x)).streams = _
    rw [foldl_publishAt_putStream_own]
    rfl

theorem raiseCause_freeBay (c : Cause) (d : Bay) :
    freeBay b (raiseCause c d s) = raiseCause c d (freeBay b s) := by
  rw [raiseCause, freeBay_setAttention, raiseCause, freeBay_attention]

/-- A FAULT with the lane moved last, once its bay is free and its stream OFF. -/
theorem faultLane_eq :
    faultLane b s = searchStart (raiseCause .laneFault b
      ((stopStream b (freeBay b s)).putLane b (movedLane (s.lane b) .fault))) := by
  rw [faultLane, releaseBay, raiseCause_freeBay, freeBay_putLane]
  generalize freeBay b s = u
  rfl

end

end Sys2Proof.Machine
end

section
/-! PROOF. What a step can do. Every operation of the model is a sequence of small changes, each of them
lawful on its own; so a law of Safety.lean is kept by every step once each small change keeps it. -/

namespace Sys2Proof.Machine

/-! ## The small changes -/

/-- `t` differs from `s` at most in history, exposure, queue, engine, accumulators, port, presence lines,
waiting commands and the tables of the store: parts that no law of lanes, streams, records, clock and
causes reads. -/
structure Aside (s t : State) : Prop where
  lanes : t.lanes = s.lanes
  seeks : t.seeks = s.seeks
  streams : t.streams = s.streams
  settings : t.settings = s.settings
  attention : t.attention = s.attention
  time : t.time = s.time
  rebuild : t.rebuild = s.rebuild
  resetHeld : t.pins.resetHeld = s.pins.resetHeld
  epochCount : t.store.epochCount = s.store.epochCount
  epochLength : t.store.epochLength = s.store.epochLength

/-- The bay has something that a rule sends a frame about: its lane is not ABSENT, or its stream or a
seek record is in use. -/
def State.Served (s : State) (b : Bay) : Prop :=
  (s.lane b).state ≠ .absent ∨ (s.stream b).state ≠ .off ∨ (s.stream b).burst ≠ none
    ∨ (s.stream b).revisions ≠ [] ∨ ∃ p, s.seekAt b p ≠ none

/-- The bay's lane may leave its state: if READY, its stream is stopped and its records are free. -/
def State.Idle (s : State) (b : Bay) : Prop :=
  (s.lane b).state = .ready → s.stream b = stoppedStream (s.stream b) ∧ ∀ p, s.seekAt b p = none

/-- A change that concerns bay `b`: no other bay's lane, records or setting change, and no other bay's
stream but by a forecast change of bay `b` and the reading of revisions. -/
inductive Change (b : Bay) (s : State) : State → Prop where
  | aside {t : State} (h : Aside s t) : Change b s t
  | rebuild (x : Option Sample) (h : x = none ∨ x = some s.now) : Change b s (s.setRebuild x)
  | epoch (n : Nat) (e : EpochLength) (h : n < e.slots) :
      Change b s (s.setStore { s.store with epochCount := n, epochLength := e })
  | divider (h : s.time.divider + 1 < s.time.divisor) :
      Change b s (s.setTime { s.time with divider := s.time.divider + 1 })
  | divisor (d : Nat) (hlo : 500 ≤ d) (hhi : d ≤ 2000) : Change b s (writeDivisor d s)
  | raise (c : Cause) : Change b s (raiseCause c b s)
  | setting (x : Setting) (h : ∃ e w, x = takeSetting e w) :
      Change b s (refreshStream b (s.setSettings (s.settings.upd b x)))
  /-- A frame joins or leaves the transmit queue, or the count of bad frames moves. -/
  | lane (l : Lane) (hstate : l.state = (s.lane b).state) (hcaps : l.caps = (s.lane b).caps)
      (hexpired : l.lastExpired = (s.lane b).lastExpired)
      (hbad : l.bad ≤ (s.lane b).bad ∨ l.bad ≤ 3 ∧ (s.lane b).state = .ready)
      (hqueue : l.queue.length ≤ (s.lane b).queue.length ∨ l.queue.length ≤ 32 ∧ s.Served b) :
      Change b s (s.putLane b l)
  /-- The lane enters DETECTED or FAULT. -/
  | move (x : LaneState) (h : x = .detected ∨ x = .fault) (hidle : s.Idle b) :
      Change b s (s.putLane b (movedLane (s.lane b) x))
  /-- The lane enters DETECTED or ABSENT without capabilities. -/
  | close (x : LaneState) (h : x = .detected ∨ x = .absent) (hidle : s.Idle b) :
      Change b s (refreshStream b (s.putLane b { movedLane (s.lane b) x with caps := none }))
  | admission (caps : Caps) (h : caps.Lawful) :
      Change b s (refreshStream b (s.putLane b (readyLane (s.lane b) caps)))
  | free (p : Pos) : Change b s (s.putSeek b p none)
  | reseek (p : Pos) (r x : Seek) (h : s.seekAt b p = some r) (htag : x.tag = r.tag) :
      Change b s (s.putSeek b p (some x))
  | post (p : Pos) (r : Seek) (hnew : ∀ q x, s.seekAt b q = some x → x.tag ≠ r.tag)
      (hready : (s.lane b).state = .ready) :
      Change b s (forgetExpired b r.tag (s.putSeek b p (some r)))
  | expire (p : Pos) (r : Seek) (h : s.seekAt b p = some r) :
      Change b s ((s.putSeek b p none).putLane b { s.lane b with lastExpired := some r.tag })
  | forecast (a z : Sample) : Change b s (forecastChange b a z s)
  | read : Change b s (readRevisions s)
  | stop : Change b s (stopStream b s)
  | deliver (x : Burst) (h : (s.stream b).burst = some x) :
      Change b s (s.putStream b (deliverBurst s.now x (s.stream b)))
  | drop (m : Sample) : Change b s (s.putStream b (dropRevision m (s.stream b)))
  | burst (h : (s.stream b).state = .starting ∨ (s.stream b).state = .running) :
      Change b s (startBurst b s)
  | start (h : (s.stream b).state = .off) (hready : (s.lane b).state = .ready) :
      Change b s (startStream b s)
  | halt (h : (s.stream b).state = .starting) :
      Change b s (s.putStream b { s.stream b with state := .off })
  | drain (h : (s.stream b).state = .running) :
      Change b s (s.putStream b (drainingStream (s.stream b)))
  | drained (h : (s.stream b).state = .draining) (hempty : (s.stream b).delivery = []) :
      Change b s (s.putStream b { s.stream b with state := .off, burst := none, revisions := [] })

/-- Changes that concern bay `b`, one after another. -/
def ActsAt (b : Bay) : State → State → Prop :=
  Relation.ReflTransGen (Change b)

/-- A change that concerns one bay, or what a boundary does to the records and the delivery lists of all. -/
inductive AnyChange (s : State) : State → Prop where
  | bay (b : Bay) {t : State} (h : Change b s t) : AnyChange s t
  | ended : AnyChange s (endSeeks s)
  | retired : AnyChange s (s.setStreams (Tab.gen 16 fun b => retireRecords s.now (s.stream b)))

/-- Changes, one after another. -/
def Acts : State → State → Prop :=
  Relation.ReflTransGen AnyChange

section
variable {b : Bay} {s t u : State}

theorem ActsAt.refl : ActsAt b s s := Relation.ReflTransGen.refl

theorem ActsAt.trans (h : ActsAt b s t) (k : ActsAt b t u) : ActsAt b s u :=
  Relation.ReflTransGen.trans h k

theorem Change.acts (h : Change b s t) : ActsAt b s t := Relation.ReflTransGen.single h

theorem ActsAt.then (h : ActsAt b s t) (k : Change b t u) : ActsAt b s u :=
  Relation.ReflTransGen.tail h k

theorem ActsAt.ite {p : Prop} [Decidable p] (h : p → ActsAt b s t) (k : ¬p → ActsAt b s u) :
    ActsAt b s (if p then t else u) := by
  split
  · exact h ‹_›
  · exact k ‹_›

theorem ActsAt.foldl {α : Type} {f : State → α → State} (h : ∀ s x, ActsAt b s (f s x))
    (xs : List α) (s : State) : ActsAt b s (xs.foldl f s) := by
  induction xs generalizing s with
  | nil => exact .refl
  | cons x xs ih => exact (h s x).trans (ih _)

theorem Acts.refl : Acts s s := Relation.ReflTransGen.refl

theorem Acts.trans (h : Acts s t) (k : Acts t u) : Acts s u :=
  Relation.ReflTransGen.trans h k

theorem ActsAt.any (h : ActsAt b s t) : Acts s t := by
  induction h with
  | refl => exact .refl
  | tail _ k ih => exact ih.tail (.bay b k)

theorem Acts.foldl {α : Type} {f : State → α → State} (h : ∀ s x, Acts s (f s x))
    (xs : List α) (s : State) : Acts s (xs.foldl f s) := by
  induction xs generalizing s with
  | nil => exact .refl
  | cons x xs ih => exact (h s x).trans (ih _)

/-- What every small change keeps, every sequence of them keeps. -/
theorem Acts.keeps {P : State → Prop} (hP : ∀ s t, AnyChange s t → P s → P t) (h : Acts s t)
    (hs : P s) : P t := by
  induction h with
  | refl => exact hs
  | tail _ k ih => exact hP _ _ k ih

theorem ActsAt.keeps {P : State → Prop} (hP : ∀ s t, Change b s t → P s → P t) (h : ActsAt b s t)
    (hs : P s) : P t := by
  induction h with
  | refl => exact hs
  | tail _ k ih => exact hP _ _ k ih

end

theorem Aside.acts {b : Bay} {s t : State} (h : Aside s t) : ActsAt b s t := (Change.aside h).acts

/-! ## The shared operations -/

section
variable (b : Bay) (s : State)

theorem searchStart_aside : Aside s (searchStart s) := by
  rw [searchStart_eq]
  constructor <;> rfl

theorem searchStart_acts : ActsAt b s (searchStart s) := (searchStart_aside s).acts

theorem changeExposure_aside (f : Bay → Fin 64 → Nat → Nat) : Aside s (s.changeExposure f) := by
  rw [changeExposure_eq]
  constructor <;> rfl

theorem addExposure_aside (r : Seek) : Aside s (addExposure b r s) := changeExposure_aside ..

theorem removeExposure_aside (r : Seek) : Aside s (removeExposure b r s) := changeExposure_aside ..

theorem readRevisions_acts : ActsAt b s (readRevisions s) := Change.read.acts

theorem freeSeek_acts (p : Pos) : ActsAt b s (freeSeek b s p) := by
  cases h : s.seekAt b p with
  | none => rw [freeSeek_of_none s b p h]; exact .refl
  | some r =>
    have hfree : ActsAt b s (s.putSeek b p none) := (Change.free p).acts
    by_cases hr : r.state = .posted
    · rw [freeSeek_of_posted s b p h hr]
      exact hfree.then (.aside (by constructor <;> rfl))
    · simp only [freeSeek, h, if_neg hr]
      exact (hfree.trans (changeExposure_aside ..).acts).then (.forecast ..)

theorem freeBay_acts : ActsAt b s (freeBay b s) := .foldl (freeSeek_acts b) _ _

/-- A bay's seeks freed and its stream stopped: the bay is idle, whatever its lane. -/
theorem stopped_acts : ActsAt b s (stopStream b (freeBay b s)) := (freeBay_acts b s).then .stop

theorem stopStream_lane (c : Bay) : (stopStream b s).lane c = s.lane c := rfl

theorem stopStream_stream_self : (stopStream b s).stream b = stoppedStream (s.stream b) :=
  State.stream_putStream_self ..

theorem stopStream_idle {b : Bay} {s : State} (h : ∀ p, s.seekAt b p = none) :
    (stopStream b s).Idle b := by
  intro _
  rw [stopStream_stream_self]
  exact ⟨rfl, h⟩

theorem stopped_idle : (stopStream b (freeBay b s)).Idle b :=
  stopStream_idle fun p => by rw [freeBay_seekAt, if_pos rfl]

theorem faultLane_acts : ActsAt b s (faultLane b s) := by
  have hmove := Change.move .fault (.inr rfl) (stopped_idle b s)
  rw [stopStream_lane, freeBay_lane] at hmove
  rw [faultLane_eq]
  exact (((stopped_acts b s).then hmove).then (.raise .laneFault)).trans (searchStart_acts ..)

theorem handFrame_acts (f : Frame) (h : s.Served b) : ActsAt b s (handFrame b f s) := by
  unfold handFrame queueFull
  refine .ite (fun _ => .refl) fun hfull => ?_
  simp only [decide_eq_true_eq, not_le] at hfull
  have hlen : ((s.lane b).queue ++ [f]).length ≤ 32 := by simpa using hfull
  exact (Change.lane { s.lane b with queue := (s.lane b).queue ++ [f] } rfl rfl rfl (.inl le_rfl)
    (.inr ⟨hlen, h⟩)).acts

/-- A rule that hands a frame: its further steps are taken from the state as it is, or with the frame in
the queue. -/
theorem handThen_acts (f : Frame) {rest : State → State} (h : s.Served b)
    (hrest : ∀ u, (∃ l : Lane, u = s.putLane b l ∧ l.state = (s.lane b).state) →
      ActsAt b u (rest u)) :
    ActsAt b s (handThen b f rest s) := by
  have hs : s = s.putLane b (s.lane b) := (putLane_same s b).symm
  unfold handThen
  refine .ite (fun _ => (hrest s ⟨_, hs, rfl⟩).trans (faultLane_acts ..)) fun _ =>
    (handFrame_acts b s f h).trans (hrest _ ?_)
  unfold handFrame
  split
  · exact ⟨_, hs, rfl⟩
  · exact ⟨_, rfl, rfl⟩

theorem sendFrame_acts (f : Frame) (h : s.Served b) : ActsAt b s (sendFrame b f s) :=
  handThen_acts b s f h fun _ _ => .refl

theorem refuse_acts (tag : Option Tag) (why : Reason) (kind : Byte) (h : s.Served b) :
    ActsAt b s (refuse b tag why kind s) :=
  sendFrame_acts b s _ h

theorem abandonSearch_aside (p : Pos) : Aside s (abandonSearch b p s) := by
  rw [abandonSearch_eq]
  constructor <;> rfl

end

/-! ## Completions -/

theorem grantSteps_acts (b : Bay) (p : Pos) (r x : Seek) (s : State) (h : s.seekAt b p = some r)
    (htag : x.tag = r.tag) : ActsAt b s (grantSteps b p x s) := by
  have hgrant : ActsAt b s ((dequeue b p (s.putSeek b p (some x))).setEngine none) :=
    (Change.reseek p r x h htag).acts.then (.aside (by constructor <;> rfl))
  have hpublish := (hgrant.trans (addExposure_aside b _ x).acts).then
    (.forecast x.launchAt (lastOf x.launchAt x.tailEnd))
  exact (ActsAt.ite (fun _ => hpublish.then (.raise .forcedGrant)) fun _ => hpublish).trans
    (searchStart_acts ..)

theorem rerunSearch_acts (b c : Bay) (p : Pos) (s : State) : ActsAt c s (rerunSearch b p s) := by
  unfold rerunSearch
  refine .ite (fun _ => Aside.acts (by constructor <;> rfl)) fun _ => ?_
  split
  · exact Aside.acts (by constructor <;> rfl)
  · exact (Aside.acts (by constructor <;> rfl)).trans (searchStart_acts ..)

theorem completeSearch_acts (b : Bay) (s : State) (h : ∀ sr, s.engine = some sr → sr.bay = b) :
    ActsAt b s (completeSearch s) := by
  unfold completeSearch
  split
  · exact .refl
  · next sr hsr =>
    obtain rfl := h sr hsr
    split
    · next r t o hr _ =>
      refine .ite (fun _ => ActsAt.then (handThen_acts _ s _ ?served ?steps) .read)
        fun _ => rerunSearch_acts ..
      case served => exact .inr (.inr (.inr (.inr ⟨sr.pos, by simp [hr]⟩)))
      case steps =>
        rintro u ⟨l, rfl, -⟩
        exact grantSteps_acts _ _ r _ _ hr rfl
    · exact (Aside.acts (by constructor <;> rfl)).trans (searchStart_acts ..)

theorem takeCommit_acts (b : Bay) (s : State) : ActsAt b s (takeCommit s) := by
  unfold takeCommit
  exact .ite (fun _ => .refl) fun _ =>
    (Aside.acts (by constructor <;> rfl)).then (.rebuild _ (.inr rfl))

theorem takeDueCommit_acts (b : Bay) (s : State) : ActsAt b s (takeDueCommit s) := by
  unfold takeDueCommit
  exact .ite (fun _ => (Aside.acts (by constructor <;> rfl)).trans (takeCommit_acts ..)) fun _ => .refl

theorem completeRebuild_acts (x : Bool) (s : State) : ActsAt 0 s (completeRebuild x s) := by
  have hwritten : ActsAt 0 s (raiseCause .rebuilt 0 ((recomputeExposure s).setRebuild none)) :=
    ((Aside.acts (t := recomputeExposure s) (by constructor <;> rfl)).then (.rebuild _ (.inl rfl))).then
      (.raise .rebuilt)
  unfold completeRebuild
  refine .ite (fun _ => .refl) fun _ => .ite (fun _ => ?_) fun _ => ?_
  · exact (hwritten.trans (searchStart_acts ..)).trans (takeDueCommit_acts ..)
  · exact (hwritten.trans (takeDueCommit_acts ..)).trans (searchStart_acts ..)

theorem completeBurst_acts (b : Bay) (s : State) : ActsAt b s (completeBurst b s) := by
  unfold completeBurst
  split
  · exact .refl
  · next x hx =>
    refine ActsAt.then (handThen_acts b s _ (.inr (.inr (.inl (by simp [hx])))) ?_) .read
    rintro u ⟨l, rfl, -⟩
    exact (Change.deliver (s := s.putLane b l) x hx).acts

theorem completeRevision_acts (b : Bay) (m : Sample) (s : State) :
    ActsAt b s (completeRevision b m s) := by
  unfold completeRevision
  split
  · exact .refl
  · next v hv =>
    have hused : (s.stream b).revisions ≠ [] := List.ne_nil_of_mem (List.mem_of_find?_eq_some hv)
    exact ActsAt.then (handThen_acts b s _ (.inr (.inr (.inr (.inl hused)))) fun _ _ =>
      (Change.drop m).acts) .read

theorem completeDrain_acts (b : Bay) (s : State) : ActsAt b s (completeDrain b s) := by
  unfold completeDrain
  exact .ite (fun h => (Change.drained h.1 h.2).acts.then (.raise .streamStopped)) fun _ => .refl

/-! ## Work that has reached its bound -/

theorem overdueBurst_acts (s : State) (b : Bay) : ActsAt b s (overdueBurst s b) := by
  unfold overdueBurst
  split
  · exact .ite (fun _ => .refl) fun _ => completeBurst_acts ..
  · exact .refl

theorem overdueRevisions_acts (s : State) (b : Bay) : ActsAt b s (overdueRevisions s b) :=
  .foldl (fun u m => completeRevision_acts b m u) _ _

theorem overdueSearch_acts (s : State) : Acts s (overdueSearch s) := by
  unfold overdueSearch
  split
  · next sr hsr =>
    split
    · exact (completeSearch_acts sr.bay s fun x hx => by rw [Option.some.inj (hx.symm.trans hsr)]).any
    · exact .refl
  · exact .refl

theorem overdueRebuild_acts (order : List Duty) (s : State) : ActsAt 0 s (overdueRebuild order s) := by
  unfold overdueRebuild
  split
  · exact .ite (fun _ => completeRebuild_acts ..) fun _ => .refl
  · exact .refl

theorem completeOverdue_acts (order : List Duty) (s : State) : Acts s (completeOverdue order s) :=
  (((Acts.foldl (fun u b => (overdueBurst_acts u b).any) bays s).trans
    (.foldl (fun u b => (overdueRevisions_acts u b).any) bays _)).trans
    (overdueSearch_acts _)).trans (overdueRebuild_acts ..).any

/-! ## The duties of a boundary -/

theorem launchOrExpire_acts (b : Bay) (s : State) (p : Pos) : ActsAt b s (launchOrExpire b s p) := by
  unfold launchOrExpire
  split
  · exact .refl
  · next r hr =>
    refine .ite (fun _ => (Change.reseek p r { r with state := .running } hr rfl).acts) fun _ => .ite (fun _ => ?_) fun _ => .refl
    refine handThen_acts b s _ (.inr (.inr (.inr (.inr ⟨p, by simp [hr]⟩)))) ?_
    rintro u ⟨l, rfl, -⟩
    exact (((Change.expire (s := s.putLane b l) p r hr).acts.trans
      (removeExposure_aside b _ r).acts).then (.forecast ..)).then (.raise .expiry)

theorem EpochLength.slots_pos (e : EpochLength) : 0 < e.slots := by cases e <;> decide

theorem advanceEpoch_acts (b : Bay) (s : State) : ActsAt b s (advanceEpoch s) := by
  have hzero : ActsAt b s (s.setStore { s.store with epochCount := 0 }) :=
    (Change.epoch 0 s.store.epochLength (EpochLength.slots_pos _)).acts
  unfold advanceEpoch
  refine .ite (fun h => (Change.epoch _ s.store.epochLength h).acts) fun _ => .ite (fun _ => ?_) fun _ => ?_
  · exact hzero.then (.aside (by constructor <;> rfl))
  · exact hzero.trans (takeCommit_acts ..)

theorem burstDuty_acts (b : Bay) (s : State) : ActsAt b s (burstDuty b s) := by
  unfold burstDuty
  exact .ite (fun h => (Change.burst h.2).acts) fun _ => .refl

theorem isReady_iff {s : State} {b : Bay} : s.isReady b = true ↔ (s.lane b).state = .ready := by
  simp [State.isReady]

theorem served_of_isReady {s : State} {b : Bay} (h : s.isReady b = true) : s.Served b :=
  .inl (by simp [isReady_iff.mp h])

theorem markDuty_acts (b : Bay) (s : State) : ActsAt b s (markDuty b s) := by
  unfold markDuty
  exact .ite (fun h => sendFrame_acts b s _ (served_of_isReady h)) fun _ => .refl

theorem welcomeDuty_acts (b : Bay) (s : State) : ActsAt b s (welcomeDuty b s) := by
  unfold welcomeDuty
  exact .ite (fun h => sendFrame_acts b s _ (served_of_isReady h)) fun _ => .refl

/-- The bay a duty concerns, none of the epoch's and the Arbiter's. -/
def dutyBay : Duty → Option Bay
  | .seek b => some b
  | .stream b => some b
  | .welcome b => some b
  | .mark b => some b
  | .epoch => none
  | .search => none

/-- A duty concerns its own bay, and one that names none can be taken as any bay's. -/
theorem runDuty_acts (changed : Bool) (s : State) (d : Duty) (b : Bay)
    (h : ∀ c, dutyBay d = some c → c = b) : ActsAt b s (runDuty changed s d) := by
  cases d with
  | seek c =>
    obtain rfl := h c rfl
    exact .ite (fun _ => .foldl (launchOrExpire_acts c) _ _) fun _ => .refl
  | stream c =>
    obtain rfl := h c rfl
    exact burstDuty_acts c s
  | epoch => exact .ite (fun _ => advanceEpoch_acts ..) fun _ => .refl
  | search =>
    exact .ite (fun _ => (Aside.acts (t := clearHolds s) (by constructor <;> rfl)).trans
      (searchStart_acts ..)) fun _ => .refl
  | welcome c =>
    obtain rfl := h c rfl
    exact .ite (fun _ => welcomeDuty_acts c s) fun _ => .refl
  | mark c =>
    obtain rfl := h c rfl
    exact .ite (fun _ => markDuty_acts c s) fun _ => .refl

theorem runDuty_any (changed : Bool) (s : State) (d : Duty) : Acts s (runDuty changed s d) :=
  (runDuty_acts changed s d ((dutyBay d).getD 0) fun c hc => by simp [hc]).any

theorem boundaryStart_acts (s : State) : Acts s (boundaryStart s) := by
  have hhistory : Acts s (appendHistories s) :=
    ActsAt.any (b := 0) (Aside.acts (by constructor <;> rfl))
  have hretired := (hhistory.tail .ended).tail .retired
  have hdrained := Acts.trans hretired (.foldl (fun u b => (completeDrain_acts b u).any) bays _)
  unfold boundaryStart
  simp only
  split
  · exact hdrained.trans ((changeExposure_aside ..).acts (b := 0)).any
  · exact hdrained

theorem boundaryDuties_acts (changed : Bool) (order : List Duty) (s : State) :
    Acts s (boundaryDuties changed order s) :=
  ((boundaryStart_acts s).trans (.foldl (runDuty_any changed) _ _)).trans
    (readRevisions_acts 0 _).any

/-! ## Lane events -/

theorem transmitHead_acts (b : Bay) (s : State) : ActsAt b s (transmitHead b s) := by
  unfold transmitHead
  split
  · exact .refl
  · next f rest hq =>
    exact (Change.lane { s.lane b with queue := rest, line := f.bytes } rfl rfl rfl (.inl le_rfl)
      (.inl (by simp [hq]))).acts

theorem setPresence_aside (b : Bay) (x : Bool) (s : State) : Aside s (setPresence b x s) := by
  constructor <;> rfl

theorem detectDrive_acts (b : Bay) (s : State) : ActsAt b s (detectDrive b s) := by
  unfold detectDrive
  refine .ite (fun h => ?_) fun _ => .refl
  have hidle : s.Idle b := fun hready => by simp [h] at hready
  exact (Change.move .detected (.inl rfl) hidle).acts.then (.raise .arrive)

/-- A search start commutes with the refresh of the effective values. -/
theorem refreshStream_searchStart (b : Bay) (s : State) :
    refreshStream b (searchStart s) = searchStart (refreshStream b s) := by
  have h : searchStart (refreshStream b s)
      = (searchStart s).setStreams (refreshStream b s).streams := searchStart_setStreams s _
  rw [h, searchStart_eq]
  rfl

/-- The lane of a drive that left: in state `x`, nothing to send, no capabilities. -/
def closedLane (l : Lane) (x : LaneState) : Lane :=
  { movedLane l x with caps := none }

/-- A drive lost from a READY lane: the bay freed and stopped, then the lane closed. -/
theorem loseDrive_of_ready {b : Bay} {s : State} (h : s.isReady b = true) :
    loseDrive b s = searchStart (raiseCause .depart b (refreshStream b
      ((stopStream b (freeBay b s)).putLane b (closedLane (s.lane b) .absent)))) := by
  rw [loseDrive, if_pos h, releaseBay, refreshStream_searchStart, raiseCause_freeBay, freeBay_putLane]
  generalize freeBay b s = u
  rfl

theorem loseDrive_acts (b : Bay) (s : State) : ActsAt b s (loseDrive b s) := by
  by_cases h : s.isReady b = true
  · have hclose := Change.close .absent (.inr rfl) (stopped_idle b s)
    rw [stopStream_lane, freeBay_lane] at hclose
    rw [loseDrive_of_ready h]
    exact (((stopped_acts b s).then hclose).then (.raise .depart)).trans (searchStart_acts ..)
  · have hidle : s.Idle b := fun hready => absurd (isReady_iff.mpr hready) h
    rw [loseDrive, if_neg h]
    exact (Change.close .absent (.inr rfl) hidle).acts.then (.raise .depart)

theorem goodFrame_acts (b : Bay) (s : State) : ActsAt b s (goodFrame b s) :=
  (Change.lane { s.lane b with bad := 0 } rfl rfl rfl (.inl (Nat.zero_le _)) (.inl le_rfl)).acts

theorem goodFrame_lane_state (b : Bay) (s : State) :
    ((goodFrame b s).lane b).state = (s.lane b).state := by
  rw [goodFrame, State.lane_putLane_self]

theorem receiveFrame_acts (b : Bay) (kind : Byte) (len : Option Nat) (payload : List Byte)
    {take : State → State} (s : State)
    (h : ∀ u, (u.lane b).state = .ready → ActsAt b u (take u)) :
    ActsAt b s (receiveFrame b kind len payload take s) := by
  unfold receiveFrame
  refine .ite (fun _ => .refl) fun habsent => ?_
  have hserved : (goodFrame b s).Served b := .inl (by rwa [goodFrame_lane_state])
  refine .ite (fun _ => (goodFrame_acts b s).trans (refuse_acts _ _ _ _ _ hserved)) fun _ =>
    .ite (fun hready => (goodFrame_acts b s).trans (h _ ?_)) fun _ =>
      (goodFrame_acts b s).trans (refuse_acts _ _ _ _ _ hserved)
  rw [goodFrame_lane_state]
  exact isReady_iff.mp hready

theorem le_clamp (lo hi x : Nat) : lo ≤ clamp lo hi x := le_max_left ..

theorem clamp_le {lo hi : Nat} (h : lo ≤ hi) (x : Nat) : clamp lo hi x ≤ hi :=
  max_le h (min_le_left ..)

theorem capsOf_lawful {payload : List Byte} (h : byteAt payload 0 = 1#8) : (capsOf payload).Lawful := by
  refine ⟨h, ?_, le_clamp .., clamp_le (by decide) _⟩
  show (if _ then 8 else 4) = 4 ∨ (if _ then 8 else 4) = 8
  split <;> simp

theorem refreshStream_lane (b c : Bay) (s : State) : (refreshStream b s).lane c = s.lane c := rfl

theorem admitDrive_acts (b : Bay) (caps : Caps) (s : State) (h : caps.Lawful) :
    ActsAt b s (admitDrive b caps s) := by
  refine (Change.admission caps h).acts.trans (sendFrame_acts b _ _ (.inl ?_))
  rw [refreshStream_lane, State.lane_putLane_self]
  simp [readyLane]

theorem restartDrive_acts (b : Bay) (caps : Caps) (s : State) (h : caps.Lawful) :
    ActsAt b s (restartDrive b caps s) := by
  have hempty : ActsAt b s (s.putLane b { s.lane b with queue := [] }) :=
    (Change.lane { s.lane b with queue := [] } rfl rfl rfl (.inl le_rfl)
      (.inl (Nat.zero_le _))).acts
  exact ((hempty.trans (stopped_acts ..)).trans (admitDrive_acts b caps _ h)).trans (searchStart_acts ..)

theorem takeHello_acts (b : Bay) (payload : List Byte) (s : State) (h : (s.lane b).state ≠ .absent) :
    ActsAt b s (takeHello b payload s) := by
  unfold takeHello
  refine .ite (fun _ => refuse_acts _ _ _ _ _ (.inl h)) fun hok => ?_
  have hcaps : (capsOf payload).Lawful := capsOf_lawful (not_not.mp (not_or.mp hok).2)
  exact .ite (fun _ => restartDrive_acts _ _ _ hcaps) fun _ => admitDrive_acts _ _ _ hcaps

theorem takeNoticeFrame_acts (b : Bay) (payload : List Byte) (s : State)
    (h : (s.lane b).state = .ready) : ActsAt b s (takeNoticeFrame b payload s) := by
  have hserved : s.Served b := .inl (by simp [h])
  unfold takeNoticeFrame
  split
  · exact refuse_acts _ _ _ _ _ hserved
  · next n _ =>
    unfold takeNotice
    split
    · exact refuse_acts _ _ _ _ _ hserved
    · next p _ =>
      refine .ite (fun _ => refuse_acts _ _ _ _ _ hserved) fun htag =>
        .ite (fun _ => refuse_acts _ _ _ _ _ hserved) fun _ => ?_
      have hnew := findTag_eq_none_iff.mp (Option.not_isSome_iff_eq_none.mp htag)
      exact ((Change.post p (noticeSeek s b n) hnew h).acts.trans
        (Aside.acts (by constructor <;> rfl))).trans (searchStart_acts ..)

theorem takeCommitTag_acts (b : Bay) (tag : Tag) (s : State) (h : (s.lane b).state = .ready) :
    ActsAt b s (takeCommitTag b tag s) := by
  have hserved : s.Served b := .inl (by simp [h])
  unfold takeCommitTag
  split
  · next p r hfind =>
    have hr := (findTag_some hfind).1
    split
    · refine handThen_acts _ _ _ hserved ?_
      rintro u ⟨l, rfl, -⟩
      exact (Change.reseek (s := s.putLane b l) p r { r with state := .committed } hr rfl).acts
    · exact refuse_acts _ _ _ _ _ hserved
    all_goals exact sendFrame_acts _ _ _ hserved
  · exact .ite (fun _ => sendFrame_acts _ _ _ hserved) fun _ => refuse_acts _ _ _ _ _ hserved

theorem replaceExposure_aside (b : Bay) (r x : Seek) (s : State) : Aside s (replaceExposure b r x s) :=
  changeExposure_aside ..

theorem cutSeek_acts (b : Bay) (p : Pos) (r : Seek) (s : State) (h : s.seekAt b p = some r) :
    ActsAt b s (cutSeek b p r s) := by
  have hcut : ActsAt b s _ := (Change.reseek p r (recompileCut r (cutIndex s.now r)) h rfl).acts.trans
    (replaceExposure_aside b r (recompileCut r (cutIndex s.now r)) _).acts
  exact .ite (fun _ => hcut.then (.forecast ..)) fun _ => hcut

theorem withdraw_acts (b : Bay) (p : Pos) (r : Seek) (s : State) :
    ActsAt b s (publishWhole b r (removeExposure b r (s.putSeek b p none))) :=
  ((Change.free p).acts.trans (removeExposure_aside b _ r).acts).then (.forecast ..)

theorem takeAbortTag_acts (b : Bay) (tag : Tag) (s : State) (h : (s.lane b).state = .ready) :
    ActsAt b s (takeAbortTag b tag s) := by
  unfold takeAbortTag
  split
  · next p r hfind =>
    have hr := (findTag_some hfind).1
    split
    · exact (((Change.free p).acts.trans (Aside.acts (t := dequeue b p (s.putSeek b p none))
        (by constructor <;> rfl))).trans (abandonSearch_aside ..).acts).trans (searchStart_acts ..)
    · exact withdraw_acts ..
    · exact withdraw_acts ..
    · exact .ite (fun _ => .refl) fun _ => cutSeek_acts b p r s hr
    · exact .refl
  · exact refuse_acts _ _ _ _ _ (.inl (by simp [h]))

theorem moveAcc_acts (b src : Bay) (v : Int) (s : State) : ActsAt b s (moveAcc b src v s) := by
  have hstep (dir : Int) : ActsAt b s (stepWorking b src dir s) := by
    unfold stepWorking
    exact .ite (fun _ => Aside.acts (by constructor <;> rfl)) fun _ =>
      (Aside.acts (t := s.putAcc b src 0) (by constructor <;> rfl)).then (.raise .coeffLimit)
  unfold moveAcc
  split
  · exact .refl
  · exact .ite (fun _ => hstep 1) fun _ => .ite (fun _ => hstep (-1)) fun _ =>
      Aside.acts (by constructor <;> rfl)

theorem takeReport_acts (b : Bay) (payload : List Byte) (s : State) (h : (s.lane b).state = .ready) :
    ActsAt b s (takeReport b payload s) := by
  unfold takeReport
  refine .ite (fun _ => refuse_acts _ _ _ _ _ (.inl (by simp [h]))) fun _ => .foldl (fun u x => ?_) _ _
  unfold takeResidual
  refine .ite (fun _ => .foldl (fun v src => ?_) _ _) fun _ => .refl
  exact .ite (fun _ => .refl) fun _ => moveAcc_acts ..

/-! ## Requests -/

theorem answer_aside (k : RequestKind) (status : Byte) (payload : State → List Byte) (s : State) :
    Aside s (answer k status payload s) := by
  constructor <;> rfl

theorem clearRow_aside (b : Bay) (s : State) : Aside s (clearRow b s) := by
  constructor <;> rfl

theorem writeSetting_acts (b : Bay) (e : Bool) (w : SettingFields) (s : State) :
    ActsAt b s (writeSetting b (takeSetting e w) s) := by
  have hset : ActsAt b s (refreshStream b (s.setSettings (s.settings.upd b (takeSetting e w)))) :=
    (Change.setting _ ⟨e, w, rfl⟩).acts
  exact .ite (fun _ => hset) fun _ => hset.trans (clearRow_aside ..).acts

theorem writeSetting_lane (b c : Bay) (x : Setting) (s : State) :
    (writeSetting b x s).lane c = s.lane c := by
  unfold writeSetting
  simp only
  split <;> rfl

theorem writeSetting_stream_state (b c : Bay) (x : Setting) (s : State) :
    ((writeSetting b x s).stream c).state = (s.stream c).state := by
  have h : (writeSetting b x s).stream c
      = (refreshStream b (s.setSettings (s.settings.upd b x))).stream c := by
    unfold writeSetting
    simp only
    split <;> rfl
  rw [h, refreshStream, State.stream_putStream]
  split
  · next hc => subst hc; rfl
  · rfl

theorem startStream_acts (b : Bay) (s : State)
    (h : (s.stream b).state = .off → (s.lane b).state = .ready) : ActsAt b s (startStream b s) := by
  by_cases hoff : (s.stream b).state = .off
  · exact (Change.start hoff (h hoff)).acts
  · rw [startStream, if_neg hoff]
    exact .refl

theorem enableRequest_acts (b : Bay) (w : SettingFields) (s : State) :
    ActsAt b s (enableRequest b w s) := by
  unfold enableRequest
  refine .ite (fun _ => (answer_aside ..).acts) fun hbusy =>
    ((writeSetting_acts b true w s).trans (startStream_acts _ _ fun hoff => ?_)).trans
      (answer_aside ..).acts
  rw [writeSetting_stream_state] at hoff
  rw [writeSetting_lane]
  simp only [Bool.or_eq_true, not_or, Bool.not_eq_true] at hbusy
  simpa [State.enableBusy, hoff, State.isReady] using hbusy.2

/-- A stream halted while RUNNING with nothing delivered that it still holds is OFF at once (R111). -/
theorem stopAtOnce_acts (b : Bay) (u : State) (h : (u.stream b).state = .running) :
    ActsAt b u (
      let u1 := u.putStream b (drainingStream (u.stream b))
      if (u1.stream b).delivery = [] then
        raiseCause .streamStopped b (u1.putStream b { u1.stream b with state := .off, revisions := [] })
      else u1) := by
  refine .ite (fun hempty => ?_) fun _ => (Change.drain h).acts
  have hstate : ((u.putStream b (drainingStream (u.stream b))).stream b).state = .draining := by
    rw [State.stream_putStream_self]
    rfl
  have hburst : ((u.putStream b (drainingStream (u.stream b))).stream b).burst = none := by
    rw [State.stream_putStream_self]
    rfl
  have hdrained := Change.drained hstate hempty
  rw [← hburst] at hdrained
  exact ((Change.drain h).acts.then hdrained).then (.raise .streamStopped)

theorem haltStream_acts (b : Bay) (s : State) : ActsAt b s (haltStream b s) := by
  unfold haltStream
  simp only
  split
  · exact .refl
  · next h =>
    refine handThen_acts _ _ _ (.inr (.inl (by simp [h]))) ?_
    rintro u ⟨l, rfl, -⟩
    exact (Change.halt (s := s.putLane b l) h).acts
  · next h =>
    refine handThen_acts _ _ _ (.inr (.inl (by simp [h]))) ?_
    rintro u ⟨l, rfl, -⟩
    exact stopAtOnce_acts b _ h
  · exact .refl

theorem disableRequest_acts (b : Bay) (w : SettingFields) (s : State) :
    ActsAt b s (disableRequest b w s) := by
  unfold disableRequest
  exact .ite (fun _ => (answer_aside ..).acts) fun _ =>
    (((writeSetting_acts b false w s).trans (haltStream_acts ..)).then .read).trans
      (answer_aside ..).acts

theorem hubWriteRequest_acts (divisor : BitVec 16) (code : Byte) (s : State) :
    ActsAt 0 s (hubWriteRequest divisor code s) := by
  unfold hubWriteRequest
  refine .ite (fun _ => (answer_aside ..).acts) fun _ => ActsAt.trans ?_ (answer_aside ..).acts
  have hdivisor : ActsAt 0 s (writeDivisor (takeDivisor divisor) s) :=
    (Change.divisor _ (le_clamp ..) (clamp_le (by decide) _)).acts
  exact .ite (fun _ => hdivisor) fun _ =>
    hdivisor.then (.epoch 0 _ (EpochLength.slots_pos _))

theorem freezeRequest_acts (s : State) : ActsAt 0 s (freezeRequest s) := by
  unfold freezeRequest
  exact .ite (fun _ => (answer_aside ..).acts) fun _ =>
    (Aside.acts (by constructor <;> rfl)).trans (answer_aside ..).acts

theorem thawRequest_acts (s : State) : ActsAt 0 s (thawRequest s) := by
  unfold thawRequest
  refine .ite (fun _ => (answer_aside ..).acts) fun _ => .ite (fun _ => ?_) fun _ => ?_
  · have hload : ActsAt 0 s (loadSnapshot s) :=
      (Aside.acts (by constructor <;> rfl)).then (.rebuild (some s.now) (.inr rfl))
    exact hload.trans (answer_aside ..).acts
  · exact (Aside.acts (by constructor <;> rfl)).trans (answer_aside ..).acts

theorem peekRequest_acts (b : Bay) (s : State) : ActsAt b s (peekRequest b s) := by
  unfold peekRequest
  exact .ite (fun _ => (answer_aside ..).acts) fun _ => (answer_aside ..).acts

theorem pokeRequest_acts (b : Bay) (row : Tab 16 (Byte × Byte)) (s : State) :
    ActsAt b s (pokeRequest b row s) := by
  unfold pokeRequest
  exact .ite (fun _ => (Aside.acts (t := pokeSnapshot b row s) (by constructor <;> rfl)).trans
    (answer_aside ..).acts) fun _ => (answer_aside ..).acts

/-- BAY RESET with the lane closed last, once its bay is free and its stream OFF. -/
theorem resetBay_eq (b : Bay) (s : State) :
    resetBay b s = readRevisions (searchStart (clearRow b (clearHistory b (refreshStream b
      ((stopStream b (freeBay b s)).putLane b (resetLane (s.lane b))))))) := by
  simp only [resetBay]
  rw [freeBay_putLane]
  generalize freeBay b s = u
  rfl

theorem clearHistory_aside (b : Bay) (s : State) : Aside s (clearHistory b s) := by
  constructor <;> rfl

theorem resetBay_acts (b : Bay) (s : State) : ActsAt b s (resetBay b s) := by
  have hstate : (if (s.lane b).state = .absent then LaneState.absent else .detected) = .detected
      ∨ (if (s.lane b).state = .absent then LaneState.absent else .detected) = .absent := by
    split <;> simp
  have hclose := Change.close _ hstate (stopped_idle b s)
  rw [stopStream_lane, freeBay_lane] at hclose
  have hclosed : ActsAt b s _ := (stopped_acts b s).then hclose
  rw [resetBay_eq]
  exact (((hclosed.trans (clearHistory_aside ..).acts).trans (clearRow_aside ..).acts).trans
    (searchStart_acts ..)).then .read

end Sys2Proof.Machine
end

section
/-! PROOF. What one command and one step can do, and the one induction by which a law is kept. -/

namespace Sys2Proof.Machine

/-! ## What one command can do -/

/-- A store as a reset leaves it: all at reset values, or with the tables in service and the sequence
kept (R131, R132). -/
def ResetStore (x : Store) : Prop :=
  x = Store.reset ∨ ∃ y, x = keptStore y

/-- The whole of what one command can do to the state. -/
inductive Event (s : State) : State → Prop where
  | acts {t : State} (h : Acts s t) : Event s t
  | clear (causes : Byte) {t : State}
      (h : Acts (s.setAttention (clearCauses causes s.attention)) t) : Event s t
  | configure (mask route : Byte) {t : State}
      (h : Acts (s.setAttention { s.attention with mask := mask, route := route }) t) : Event s t
  | boundary (order : List Duty) (hheld : s.pins.resetHeld = false) {t : State}
      (h : Acts (advanceSample (completeOverdue order s)) t) : Event s t
  | reset (c : ResetCause) (x : Store) (h : ResetStore x) : Event s (hubReset c x s)
  | release {t : State} (h : Acts (s.setPins { s.pins with resetHeld := false }) t) : Event s t
  | command {t : State}
      (h : Acts ((hubReset .command (keptStore s.store) (deselect s)).setPins
        { present := s.pins.present, resetHeld := false }) t) : Event s t

theorem ActsAt.event {b : Bay} {s t : State} (h : ActsAt b s t) : Event s t := .acts h.any

theorem Event.refl (s : State) : Event s s := .acts .refl

theorem Event.ite {p : Prop} [Decidable p] {s t u : State} (h : p → Event s t) (k : ¬p → Event s u) :
    Event s (if p then t else u) := by
  split
  · exact h ‹_›
  · exact k ‹_›

theorem takeBoundary_event (order : List Duty) (s : State) (h : s.pins.resetHeld = false) :
    Event s (takeBoundary order s) :=
  .boundary order h (boundaryDuties_acts ..)

theorem releaseReset_acts (order : List Duty) (s : State) :
    Acts (s.setPins { s.pins with resetHeld := false }) (releaseReset order s) := by
  refine (boundaryDuties_acts false order _).trans (.foldl (fun u b => ?_) bays _)
  unfold arriveHeld
  split
  · exact (detectDrive_acts b u).any
  · exact .refl

/-- A request that the port takes, or none. -/
theorem request_event {s : State} {b : Bay} {effect : State → State} (h : ActsAt b s (effect s)) :
    Event s (if s.portTakes then effect s else s) :=
  .ite (fun _ => h.event) fun _ => .refl s

/-- One frame, its revisions read at the end of its event. -/
theorem ActsAt.read {b : Bay} {s t : State} (h : ActsAt b s t) : ActsAt b s (readRevisions t) :=
  h.then .read

theorem takeEvent_event (c : Instr) (s : State) : Event s (takeEvent c s) := by
  cases c with
  | powerOn => exact .reset _ _ (.inl rfl)
  | pinReset => exact .reset _ _ (.inr ⟨_, rfl⟩)
  | resetRelease order => exact .ite (fun _ => .release (releaseReset_acts ..)) fun _ => .refl s
  | sampleBoundary order =>
    exact .ite (fun _ => .refl s) fun h => takeBoundary_event order s (by simpa using h)
  | slotStart order =>
    exact .ite (fun h => takeBoundary_event order s (by simp at h; exact h.1)) fun _ => .refl s
  | epochEnd order =>
    exact .ite (fun h => takeBoundary_event order s (by simp at h; exact h.1)) fun _ => .refl s
  | rebuildComplete searchFirst => exact (completeRebuild_acts ..).event
  | searchStart => exact (searchStart_acts 0 s).event
  | searchComplete =>
    refine (completeSearch_acts ((s.engine.map Search.bay).getD 0) s fun sr h => ?_).event
    rw [h]
    rfl
  | burstComplete b => exact (completeBurst_acts ..).event
  | revisionComplete b record => exact (completeRevision_acts ..).event
  | drainComplete b => exact (completeDrain_acts ..).event
  | laneTransmit b => exact (transmitHead_acts ..).event
  | presenceRise b =>
    refine .ite (fun _ => .refl s) fun _ => .ite (fun _ => ?_) fun _ => ?_
    · exact (setPresence_aside ..).acts.event (b := b)
    · exact ((setPresence_aside b true s).acts.trans (detectDrive_acts ..)).event
  | presenceFall b =>
    refine .ite (fun _ => .refl s) fun _ => .ite (fun _ => ?_) fun _ => ?_
    · exact (setPresence_aside ..).acts.event (b := b)
    · exact ((setPresence_aside b false s).acts.trans (loseDrive_acts ..)).read.event
  | badFrame b why =>
    refine .ite (fun hready => .ite (fun hbad => ?_) fun _ => (faultLane_acts ..).read.event)
      fun _ => .refl s
    exact (Change.lane { s.lane b with bad := (s.lane b).bad + 1 } rfl rfl rfl
      (.inr ⟨Nat.lt_succ_iff.mp hbad, isReady_iff.mp hready⟩) (.inl le_rfl)).acts.event
  | unknownFrame b kind payload =>
    refine .ite (fun _ => .refl s) fun h => ?_
    exact ((goodFrame_acts b s).trans
      (refuse_acts _ _ _ _ _ (.inl (by rwa [goodFrame_lane_state])))).read.event
  | hello b payload =>
    refine .ite (fun _ => .refl s) fun h => ?_
    exact ((goodFrame_acts b s).trans
      (takeHello_acts b payload _ (by rwa [goodFrame_lane_state]))).read.event
  | notice b payload =>
    exact (receiveFrame_acts b _ _ _ s (takeNoticeFrame_acts b payload)).read.event
  | commit b payload => exact (receiveFrame_acts b _ _ _ s (takeCommitTag_acts b _)).read.event
  | abort b payload => exact (receiveFrame_acts b _ _ _ s (takeAbortTag_acts b _)).read.event
  | residual b payload => exact (receiveFrame_acts b _ _ _ s (takeReport_acts b payload)).read.event
  | badRequest why => exact request_event (b := 0) (Aside.acts (by constructor <;> rfl))
  | settingRead b => exact request_event (b := b) (answer_aside ..).acts
  | streamEnable b w => exact request_event (enableRequest_acts b w s)
  | streamDisable b w => exact request_event (disableRequest_acts b w s)
  | hubRead => exact request_event (b := 0) (answer_aside ..).acts
  | hubWrite divisor code => exact request_event (hubWriteRequest_acts divisor code s)
  | freeze => exact request_event (freezeRequest_acts s)
  | thaw => exact request_event (thawRequest_acts s)
  | peekRow b => exact request_event (peekRequest_acts b s)
  | pokeRow b row => exact request_event (pokeRequest_acts b row s)
  | activeRowRead b => exact request_event (b := b) (answer_aside ..).acts
  | bayInspect b page => exact request_event (b := b) (answer_aside ..).acts
  | exposureRead b offset count => exact request_event (b := b) (answer_aside ..).acts
  | attentionRead => exact request_event (b := 0) (answer_aside ..).acts
  | attentionClear causes =>
    exact .ite (fun _ => .clear causes (ActsAt.any (b := 0) (answer_aside ..).acts)) fun _ => .refl s
  | attentionConfigure mask route =>
    exact .ite (fun _ => .configure mask route
      (ActsAt.any (b := 0) (answer_aside ..).acts)) fun _ => .refl s
  | bayReset b =>
    have hanswer := answer_aside .bayReset statusOk (fun _ => [bayByte b]) (resetBay b s)
    exact request_event (effect := fun u => answer .bayReset statusOk (fun _ => [bayByte b])
      (resetBay b u)) ((resetBay_acts b s).trans hanswer.acts)
  | hubReset =>
    have harmed : Aside s (s.setPort { s.port with resetArmed := true }) := by constructor <;> rfl
    have hanswer := answer_aside .hubReset statusOk (fun _ => [])
      (s.setPort { s.port with resetArmed := true })
    exact request_event (b := 0) (effect := fun u => answer .hubReset statusOk (fun _ => [])
      (u.setPort { u.port with resetArmed := true })) (harmed.acts.trans hanswer.acts)
  | hubResetAtCsnRise => exact .ite (fun _ => .command (releaseReset_acts ..)) fun _ => .refl s

theorem takeEvent_of_exec {c : Instr} {s t : State} (h : exec c s = .next t) : takeEvent c s = t := by
  rw [takeEvent, h]

theorem exec_event {c : Instr} {s t : State} (h : exec c s = .next t) : Event s t :=
  takeEvent_of_exec h ▸ takeEvent_event c s

theorem countPeriod_event (s : State) : Event s (countPeriod s) := by
  unfold countPeriod
  refine .ite (fun _ => .refl s) fun hheld => .ite (fun _ => ?_) fun h => ?_
  · exact takeBoundary_event _ s (by simpa using hheld)
  · exact (Change.divider (not_le.mp h)).acts.event (b := 0)

/-- A step takes the front command off the queue, or lets one period pass. -/
theorem step_event {s t : State} (h : step s = .next t) :
    ∃ u, (u = s ∨ ∃ x, u = s.setPending x) ∧ Event u t := by
  unfold step at h
  split at h
  · cases h
    exact ⟨s, .inl rfl, countPeriod_event s⟩
  · exact ⟨_, .inr ⟨_, rfl⟩, exec_event h⟩

/-! ## Laws that every step keeps -/

/-- What a law must be kept by to be kept by every step. -/
structure StepLaw (P : State → Prop) : Prop where
  change : ∀ s t, AnyChange s t → P s → P t
  clear : ∀ s causes, P s → P (s.setAttention (clearCauses causes s.attention))
  configure : ∀ s mask route, P s →
    P (s.setAttention { s.attention with mask := mask, route := route })
  advance : ∀ order s, P s → P (completeOverdue order s) → P (advanceSample (completeOverdue order s))
  pins : ∀ s x, P s → P (s.setPins x)
  reset : ∀ c x s, ResetStore x → P (hubReset c x s)

theorem StepLaw.acts {P : State → Prop} (hP : StepLaw P) {s t : State} (h : Acts s t) : P s → P t :=
  h.keeps hP.change

theorem StepLaw.event {P : State → Prop} (hP : StepLaw P) {s t : State} (h : Event s t)
    (hs : P s) : P t := by
  cases h with
  | acts h => exact hP.acts h hs
  | clear causes h => exact hP.acts h (hP.clear s causes hs)
  | configure mask route h => exact hP.acts h (hP.configure s mask route hs)
  | boundary order _ h =>
    exact hP.acts h (hP.advance order s hs (hP.acts (completeOverdue_acts order s) hs))
  | reset c x h => exact hP.reset c x s h
  | release h => exact hP.acts h (hP.pins s _ hs)
  | command h => exact hP.acts h (hP.pins _ _ (hP.reset _ _ _ (.inr ⟨_, rfl⟩)))

theorem StepLaw.step {P : State → Prop} (hP : StepLaw P) {s t : State} (h : step s = .next t)
    (hs : P s) : P t := by
  obtain ⟨u, rfl | ⟨x, rfl⟩, hu⟩ := step_event h
  · exact hP.event hu hs
  · exact hP.event hu (hP.change _ _ (.bay 0 (.aside (by constructor <;> rfl))) hs)

end Sys2Proof.Machine
end

section
/-! PROOF. Every law of Safety.lean about setting records, clock, causes, bounded work, revisions, held
resets and tags is kept by every step (StepKeepsRecordsAndTags). -/

namespace Sys2Proof.Machine

/-! ## Setting records (R167) -/

/-- A setting record in its ranges (R167). -/
def Setting.InRange (x : Setting) : Prop :=
  (x.burst = 4 ∨ x.burst = 8) ∧ 8 ≤ x.lead ∧ x.lead ≤ 64 ∧ x.gain ≤ 255 ∧ x.limit ≤ 4095
    ∧ 1 ≤ x.shift ∧ x.shift ≤ 7 ∧ x.deadband ≤ 15

theorem settingsLawful_iff {s : State} : SettingsLawful s ↔ ∀ b, (s.setting b).InRange := Iff.rfl

theorem settingsLawful_of_settings {s t : State} (h : t.settings = s.settings) (hs : SettingsLawful s) :
    SettingsLawful t := by
  intro b
  rw [State.setting, h]
  exact hs b

theorem takeSetting_inRange (e : Bool) (w : SettingFields) : (takeSetting e w).InRange := by
  refine ⟨?_, le_clamp .., clamp_le (by decide) _, ?_, clamp_le (by decide) _, le_clamp ..,
    clamp_le (by decide) _, clamp_le (by decide) _⟩
  · show (if _ then 8 else 4) = 4 ∨ (if _ then 8 else 4) = 8
    split <;> simp
  · exact Nat.le_of_lt_succ w.gain.isLt

theorem reset_settingsLawful : SettingsLawful State.reset := by
  intro b
  have h : State.reset.setting b = Setting.reset := Tab.get_fill ..
  rw [h]
  decide

/-- What a small change does to the setting records: nothing, but for a write of taken values. -/
theorem AnyChange.settings {s t : State} (h : AnyChange s t) :
    t.settings = s.settings ∨ ∃ b e w, t.settings = s.settings.upd b (takeSetting e w) := by
  cases h with
  | ended => exact .inl rfl
  | retired => exact .inl rfl
  | bay b h =>
    cases h with
    | aside h => exact .inl h.settings
    | setting x h =>
      obtain ⟨e, w, rfl⟩ := h
      exact .inr ⟨b, e, w, rfl⟩
    | post p r =>
      rw [forgetExpired_eq]
      exact .inl rfl
    | start h =>
      rw [startStream, if_pos h]
      exact .inl rfl
    | _ => exact .inl rfl

theorem settingsLawful_stepLaw : StepLaw SettingsLawful where
  change s t h hs := by
    obtain h | ⟨b, e, w, h⟩ := h.settings
    · exact settingsLawful_of_settings h hs
    · intro c
      rw [State.setting, h, Tab.get_upd]
      split
      · exact takeSetting_inRange e w
      · exact hs c
  clear _ _ hs := hs
  configure _ _ _ hs := hs
  advance order s _ h := by
    generalize completeOverdue order s = u at h ⊢
    exact h
  pins _ _ hs := hs
  reset c x s _ := by
    have h : (hubReset c x s).settings = State.reset.settings := rfl
    exact settingsLawful_of_settings h reset_settingsLawful

/-! ## REBUILT's bay set (R176) -/

theorem raiseCause_rebuiltSet (c : Cause) (b : Bay) (s : State) :
    (raiseCause c b s).attention.sets.get Cause.rebuilt.bit = s.attention.sets.get Cause.rebuilt.bit := by
  cases c
  case rebuilt => rfl
  all_goals exact Tab.get_upd_ne _ _ (by decide)

theorem AnyChange.rebuiltSet {s t : State} (h : AnyChange s t) :
    t.attention.sets.get Cause.rebuilt.bit = s.attention.sets.get Cause.rebuilt.bit := by
  cases h with
  | ended => rfl
  | retired => rfl
  | bay b h =>
    cases h with
    | aside h => rw [h.attention]
    | raise c => exact raiseCause_rebuiltSet ..
    | post p r => rw [forgetExpired_eq]; rfl
    | start h => rw [startStream, if_pos h]; rfl
    | _ => rfl

theorem rebuiltSetEmpty_stepLaw : StepLaw RebuiltSetEmpty where
  change s t h hs := h.rebuiltSet.trans hs
  clear s causes hs := by
    have h : (clearCauses causes s.attention).sets.get Cause.rebuilt.bit
        = if causes.getLsbD 6 then 0 else s.attention.sets.get Cause.rebuilt.bit := Tab.get_gen ..
    show (clearCauses causes s.attention).sets.get Cause.rebuilt.bit = 0
    rw [h, hs, ite_self]
  configure _ _ _ hs := hs
  advance order s _ h := by
    generalize completeOverdue order s = u at h ⊢
    exact h
  pins _ _ hs := hs
  reset c x s _ := by
    have h : (hubReset c x s).attention.sets = Tab.fill 8 0 := rfl
    unfold RebuiltSetEmpty
    rw [h, Tab.get_fill]

/-! ## The clock and the epoch counter (R44, R47, R119) -/

theorem AnyChange.timeLawful {s t : State} (h : AnyChange s t) (hs : TimeLawful s) : TimeLawful t := by
  cases h with
  | ended => exact hs
  | retired => exact hs
  | bay b h =>
    cases h with
    | aside h =>
      unfold TimeLawful
      rw [h.time, h.epochCount, h.epochLength]
      exact hs
    | epoch n e h =>
      obtain ⟨hlo, hhi, hdivider, hpending, -⟩ := hs
      exact ⟨hlo, hhi, hdivider, hpending, h⟩
    | divider h =>
      obtain ⟨hlo, hhi, -, hpending, hepoch⟩ := hs
      exact ⟨hlo, hhi, h, hpending, hepoch⟩
    | divisor d hmin hmax =>
      obtain ⟨hlo, hhi, hdivider, -, hepoch⟩ := hs
      refine ⟨hlo, hhi, hdivider, fun x hx => ?_, hepoch⟩
      simp only [writeDivisor, State.setTime_time] at hx
      split at hx
      · cases hx
      · next hne =>
        obtain rfl := Option.some.inj hx
        exact ⟨hmin, hmax, hne⟩
    | post p r => rw [forgetExpired_eq]; exact hs
    | start h => rw [startStream, if_pos h]; exact hs
    | _ => exact hs

theorem timeLawful_stepLaw : StepLaw TimeLawful where
  change _ _ h := h.timeLawful
  clear _ _ hs := hs
  configure _ _ _ hs := hs
  advance order s _ h := by
    obtain ⟨hlo, hhi, -, hpending, hepoch⟩ := h
    generalize completeOverdue order s = u at hlo hhi hpending hepoch ⊢
    have hforce : 500 ≤ u.time.pendingDivisor.getD u.time.divisor
        ∧ u.time.pendingDivisor.getD u.time.divisor ≤ 2000 := by
      cases hd : u.time.pendingDivisor with
      | none => exact ⟨hlo, hhi⟩
      | some d =>
        obtain ⟨hmin, hmax, -⟩ := hpending d hd
        exact ⟨hmin, hmax⟩
    have hpos : 0 < u.time.pendingDivisor.getD u.time.divisor := by omega
    exact ⟨hforce.1, hforce.2, hpos, fun d hd => (by cases hd), hepoch⟩
  pins _ _ hs := hs
  reset c x s hx := by
    have hepoch : x.epochCount < x.epochLength.slots := by
      obtain rfl | ⟨y, rfl⟩ := hx <;> exact EpochLength.slots_pos _
    have htime : (hubReset c x s).time = State.reset.time := rfl
    unfold TimeLawful
    rw [htime]
    exact ⟨by decide, by decide, by decide, fun d hd => (by cases hd), hepoch⟩

end Sys2Proof.Machine
end

section
/-! PROOF. Bounded work (R59, R102, R109; assumption 5) and the reading of revisions (R109) are kept by
every step. -/

namespace Sys2Proof.Machine

/-! ## The starts of a stream's work -/

/-- The start of the stream's burst has `Q`, and the record and start of each of its revisions `R`. -/
def Stream.WorkIn (Q : Sample → Prop) (R : Sample → Sample → Prop) (t : Stream) : Prop :=
  (∀ x, t.burst = some x → Q x.start) ∧ ∀ v ∈ t.revisions, R v.record v.start

theorem of_putStream {P : Stream → Prop} {s : State} {b c : Bay} {x : Stream} (hx : b = c → P x)
    (hs : P (s.stream c)) : P ((s.putStream b x).stream c) := by
  rw [State.stream_putStream]
  split
  · exact hx ‹_›
  · exact hs

section
variable {Q : Sample → Prop} {R : Sample → Sample → Prop} {t : Stream} {now : Sample}

theorem workIn_empty {x : Stream} (hb : x.burst = none) (hr : x.revisions = []) : x.WorkIn Q R :=
  ⟨fun y hy => by simp [hb] at hy, fun v hv => by simp [hr] at hv⟩

theorem workIn_takeChange (h : t.WorkIn Q R) (hnow : ∀ m, R m now) (a z : Sample) :
    (takeChange now a z t).WorkIn Q R := by
  obtain ⟨hburst, hrev⟩ := h
  constructor
  · intro x hx
    simp only [takeChange, Option.map_eq_some_iff] at hx
    obtain ⟨y, hy, rfl⟩ := hx
    split <;> exact hburst y hy
  · intro v hv
    simp only [takeChange, reviseRecords, List.mem_append, List.mem_map] at hv
    obtain hv | ⟨d, -, rfl⟩ := hv
    · exact hrev v hv
    · exact hnow d.first

theorem workIn_deliverBurst (h : t.WorkIn Q R) (hnow : ∀ m, R m now) (x : Burst) :
    (deliverBurst now x t).WorkIn Q R := by
  refine ⟨fun y hy => (nomatch hy), fun v hv => ?_⟩
  simp only [deliverBurst] at hv
  split at hv
  · obtain hv | rfl := (List.mem_append.mp hv).imp_right List.mem_singleton.mp
    · exact h.2 v hv
    · exact hnow _
  · exact h.2 v hv

theorem readRevision_record (s : State) (b : Bay) (v : Revision) :
    (readRevision s b v).record = v.record := by
  unfold readRevision
  split <;> rfl

theorem readRevision_start (s : State) (b : Bay) (v : Revision) :
    (readRevision s b v).start = v.start := by
  unfold readRevision
  split <;> rfl

theorem readRevisions_stream (s : State) (b : Bay) :
    (readRevisions s).stream b
      = { s.stream b with revisions := (s.stream b).revisions.map (readRevision s b) } :=
  Tab.get_gen ..

theorem workIn_readRevisions {s : State} {c : Bay} (h : (s.stream c).WorkIn Q R) :
    ((readRevisions s).stream c).WorkIn Q R := by
  rw [readRevisions_stream]
  refine ⟨h.1, fun v hv => ?_⟩
  obtain ⟨w, hw, rfl⟩ := List.mem_map.mp hv
  rw [readRevision_record, readRevision_start]
  exact h.2 w hw

end

/-! ## Small changes start work in the current sample alone -/

theorem AnyChange.now {s t : State} (h : AnyChange s t) : t.now = s.now := by
  cases h with
  | ended => rfl
  | retired => rfl
  | bay b h =>
    cases h with
    | aside h => exact congrArg TimeBase.sample h.time
    | post p r => rw [forgetExpired_eq]; rfl
    | start h => rw [startStream, if_pos h]; rfl
    | _ => rfl

theorem AnyChange.rebuild {s t : State} (h : AnyChange s t) :
    t.rebuild = s.rebuild ∨ t.rebuild = none ∨ t.rebuild = some s.now := by
  cases h with
  | ended => exact .inl rfl
  | retired => exact .inl rfl
  | bay b h =>
    cases h with
    | aside h => exact .inl h.rebuild
    | rebuild x h => exact .inr h
    | post p r => rw [forgetExpired_eq]; exact .inl rfl
    | start h => rw [startStream, if_pos h]; exact .inl rfl
    | _ => exact .inl rfl

theorem AnyChange.workIn {s t : State} (h : AnyChange s t) {Q : Sample → Prop}
    {R : Sample → Sample → Prop} (hQ : Q s.now) (hR : ∀ m, R m s.now) (c : Bay)
    (hs : (s.stream c).WorkIn Q R) : (t.stream c).WorkIn Q R := by
  cases h with
  | ended => exact hs
  | retired =>
    have hretired : (s.setStreams (Tab.gen 16 fun b => retireRecords s.now (s.stream b))).stream c
        = retireRecords s.now (s.stream c) := Tab.get_gen ..
    rw [hretired]
    exact hs
  | bay b h =>
    cases h with
    | aside h =>
      rw [State.stream, h.streams]
      exact hs
    | rebuild | epoch | divider | divisor | raise | lane | move | free | reseek | expire => exact hs
    | setting x _ => exact of_putStream (s := s.setSettings _) (fun hb => hb ▸ hs) hs
    | close x _ _ => exact of_putStream (s := s.putLane b _) (fun hb => hb ▸ hs) hs
    | admission caps _ => exact of_putStream (s := s.putLane b _) (fun hb => hb ▸ hs) hs
    | post p r =>
      rw [forgetExpired_eq]
      exact hs
    | forecast a z =>
      rw [forecastChange_stream]
      split
      · exact workIn_takeChange hs hR _ _
      · exact hs
    | read => exact workIn_readRevisions hs
    | stop => exact of_putStream (fun _ => workIn_empty rfl rfl) hs
    | deliver x _ => exact of_putStream (fun hb => workIn_deliverBurst (hb ▸ hs) hR x) hs
    | drop m =>
      refine of_putStream (fun hb => ?_) hs
      subst hb
      exact ⟨hs.1, fun v hv => hs.2 v (List.mem_of_mem_filter hv)⟩
    | burst _ =>
      refine of_putStream (fun hb => ?_) hs
      subst hb
      refine ⟨fun x hx => ?_, hs.2⟩
      obtain rfl := Option.some.inj hx
      exact hQ
    | start h _ =>
      rw [startStream, if_pos h]
      exact of_putStream (fun hb => hb ▸ hs) hs
    | halt _ => exact of_putStream (fun hb => hb ▸ hs) hs
    | drain _ =>
      refine of_putStream (fun hb => ?_) hs
      subst hb
      exact ⟨fun x hx => (nomatch hx), hs.2⟩
    | drained _ _ => exact of_putStream (fun _ => workIn_empty rfl rfl) hs

theorem Acts.now {s t : State} (h : Acts s t) : t.now = s.now :=
  h.keeps (P := fun u => u.now = s.now) (fun _ _ k hu => k.now.trans hu) rfl

theorem Acts.workIn {s t : State} (h : Acts s t) {Q : Sample → Prop} {R : Sample → Sample → Prop}
    (hQ : Q s.now) (hR : ∀ m, R m s.now) (c : Bay) (hs : (s.stream c).WorkIn Q R) :
    (t.stream c).WorkIn Q R := by
  refine (h.keeps (P := fun u => u.now = s.now ∧ (u.stream c).WorkIn Q R) ?_ ⟨rfl, hs⟩).2
  rintro u v k ⟨hnow, hu⟩
  exact ⟨k.now.trans hnow, k.workIn (hnow ▸ hQ) (hnow ▸ hR) c hu⟩

theorem workBounded_iff {s : State} : WorkBounded s ↔ (∀ m, s.rebuild = some m → (s.now - m).toNat ≤ 7)
    ∧ ∀ b, (s.stream b).WorkIn (fun m => (s.now - m).toNat ≤ 1) (fun _ m => (s.now - m).toNat ≤ 1) :=
  Iff.rfl

theorem AnyChange.workBounded {s t : State} (h : AnyChange s t) (hs : WorkBounded s) :
    WorkBounded t := by
  obtain ⟨hrebuild, hwork⟩ := workBounded_iff.mp hs
  rw [workBounded_iff, h.now]
  refine ⟨fun m hm => ?_, fun b => h.workIn (by simp) (by simp) b (hwork b)⟩
  obtain heq | heq | heq := h.rebuild <;> rw [heq] at hm
  · exact hrebuild m hm
  · cases hm
  · obtain rfl := Option.some.inj hm
    simp

/-! ## The work that has reached its bound is completed -/

/-- A fold establishes of every entry what the step at the entry establishes and no step undoes. -/
theorem foldl_establishes {α : Type} {f : State → α → State} {P : α → State → Prop}
    (hkeep : ∀ s a c, P c s → P c (f s a)) (hmake : ∀ s a, P a (f s a)) (l : List α) (s : State) :
    ∀ c ∈ l, P c (l.foldl f s) := by
  have hfold (l : List α) (s : State) (c : α) (h : P c s) : P c (l.foldl f s) := by
    induction l generalizing s with
    | nil => exact h
    | cons a l ih => exact ih _ (hkeep s a c h)
  induction l generalizing s with
  | nil => simp
  | cons a l ih =>
    intro c hc
    obtain rfl | hc := List.mem_cons.mp hc
    · exact hfold l _ _ (hmake s c)
    · exact ih _ c hc

theorem faultLane_stream_self (b : Bay) (s : State) :
    (faultLane b s).stream b = stoppedStream (s.stream b) := by
  rw [faultLane_eq, State.stream, searchStart_streams]
  show (stopStream b (freeBay b s)).stream b = _
  rw [stopStream_stream_self, freeBay_stream_own]

/-- The stream of the frame's own bay after a rule that hands a frame: stopped, or as the rule's further
steps leave it. -/
theorem handThen_stream_of {P : Stream → Prop} {b : Bay} {f : Frame} {rest : State → State} {s : State}
    (hstop : ∀ x, P (stoppedStream x)) (hrest : ∀ l, P ((rest (s.putLane b l)).stream b)) :
    P ((handThen b f rest s).stream b) := by
  have hsame := hrest (s.lane b)
  rw [putLane_same] at hsame
  unfold handThen
  split
  · rw [faultLane_stream_self]
    exact hstop _
  · unfold handFrame
    split
    · exact hsame
    · exact hrest _

theorem completeBurst_burst (b : Bay) (s : State) : ((completeBurst b s).stream b).burst = none := by
  unfold completeBurst
  split
  · next h => exact h
  · rw [readRevisions_stream]
    refine handThen_stream_of (P := fun t => t.burst = none) (fun _ => rfl) fun l => ?_
    rw [State.stream_putStream_self]
    rfl

/-- The stream's burst started in the sample `now`. -/
def Stream.FreshBurst (now : Sample) (t : Stream) : Prop :=
  t.WorkIn (· = now) fun _ _ => True

/-- Every revision of the stream started in the sample `now`. -/
def Stream.FreshRevisions (now : Sample) (t : Stream) : Prop :=
  t.WorkIn (fun _ => True) fun _ m => m = now

theorem freshBurst_of_none {now : Sample} {t : Stream} (h : t.burst = none) : t.FreshBurst now :=
  ⟨fun x hx => by simp [h] at hx, fun _ _ => trivial⟩

theorem overdueBurst_fresh (s : State) (b : Bay) : ((overdueBurst s b).stream b).FreshBurst s.now := by
  unfold overdueBurst
  split
  · next x hx =>
    split
    · next hstart =>
      refine ⟨fun y hy => ?_, fun _ _ => trivial⟩
      obtain rfl := Option.some.inj (hx.symm.trans hy)
      exact hstart
    · exact freshBurst_of_none (completeBurst_burst ..)
  · next h => exact freshBurst_of_none h

/-- A completed revision leaves its record's revisions out, and adds none to its own stream. -/
theorem completeRevision_workIn (b : Bay) (m : Sample) (s : State) {R : Sample → Sample → Prop}
    (h : (s.stream b).WorkIn (fun _ => True) fun r v => r = m ∨ R r v) :
    ((completeRevision b m s).stream b).WorkIn (fun _ => True) R := by
  unfold completeRevision
  split
  · next hnone =>
    refine ⟨fun _ _ => trivial, fun v hv => (h.2 v hv).resolve_left ?_⟩
    simpa using List.find?_eq_none.mp hnone v hv
  · refine workIn_readRevisions (handThen_stream_of (P := Stream.WorkIn (fun _ => True) R)
      (fun _ => workIn_empty rfl rfl) fun l => ?_)
    rw [State.stream_putStream_self]
    refine ⟨fun _ _ => trivial, fun v hv => ?_⟩
    obtain ⟨hmem, hne⟩ := List.mem_filter.mp hv
    exact (h.2 v hmem).resolve_left (by simpa using hne)

theorem overdueRevisions_fresh (s : State) (b : Bay) :
    ((overdueRevisions s b).stream b).FreshRevisions s.now := by
  have hfold (ms : List Sample) (u : State)
      (h : (u.stream b).WorkIn (fun _ => True) fun r m => r ∈ ms ∨ m = s.now) :
      ((ms.foldl (fun u m => completeRevision b m u) u).stream b).FreshRevisions s.now := by
    induction ms generalizing u with
    | nil => exact ⟨h.1, fun v hv => (h.2 v hv).resolve_left (by simp)⟩
    | cons m ms ih =>
      refine ih _ (completeRevision_workIn b m u ⟨h.1, fun v hv => ?_⟩)
      have hv' : v.record ∈ m :: ms ∨ v.start = s.now := h.2 v hv
      rwa [List.mem_cons, or_assoc] at hv'
  refine hfold _ s ⟨fun _ _ => trivial, fun v hv => ?_⟩
  by_cases hstart : v.start = s.now
  · exact .inr hstart
  · exact .inl (List.mem_map_of_mem (List.mem_filter.mpr ⟨hv, by simpa using hstart⟩))

theorem mem_bays (b : Bay) : b ∈ bays := List.mem_finRange b

/-- A rebuild's completion leaves no rebuild, or one that starts now. -/
theorem completeRebuild_rebuild (x : Bool) (s : State) :
    (completeRebuild x s).rebuild = none ∨ (completeRebuild x s).rebuild = some s.now := by
  have hkeep (u v : State) (h : AnyChange u v)
      (hu : u.now = s.now ∧ (u.rebuild = none ∨ u.rebuild = some s.now)) :
      v.now = s.now ∧ (v.rebuild = none ∨ v.rebuild = some s.now) := by
    refine ⟨h.now.trans hu.1, ?_⟩
    obtain heq | heq := h.rebuild
    · rw [heq]
      exact hu.2
    · rwa [hu.1] at heq
  unfold completeRebuild
  split
  · next h => exact .inl (by simpa using h)
  · have hdone (t : State) (h : ActsAt 0 (raiseCause .rebuilt 0 ((recomputeExposure s).setRebuild none)) t) :
        t.rebuild = none ∨ t.rebuild = some s.now := (h.any.keeps hkeep ⟨rfl, .inl rfl⟩).2
    simp only
    split
    · exact hdone _ ((searchStart_acts ..).trans (takeDueCommit_acts ..))
    · exact hdone _ ((takeDueCommit_acts ..).trans (searchStart_acts ..))

/-- After the overdue work no rebuild reaches its bound at the boundary about to come. -/
theorem overdueRebuild_young (order : List Duty) (s : State) (m : Sample)
    (h : (overdueRebuild order s).rebuild = some m) : (s.now - m).toNat ≤ 6 := by
  unfold overdueRebuild at h
  split at h
  · next k hk =>
    split at h
    · obtain hx | hx := completeRebuild_rebuild (searchBeforeCommit order) s
      · rw [hx] at h
        cases h
      · obtain rfl := Option.some.inj (hx.symm.trans h)
        simp
    · next hyoung =>
      obtain rfl := Option.some.inj (hk.symm.trans h)
      simp only [eighthBoundary, decide_eq_true_eq] at hyoung
      omega
  · next hk =>
    rw [hk] at h
    cases h

theorem Acts.freshBurst {s t : State} (h : Acts s t) {c : Bay}
    (hs : (s.stream c).FreshBurst s.now) : (t.stream c).FreshBurst t.now := by
  rw [h.now]
  exact h.workIn (Q := (· = s.now)) (R := fun _ _ => True) rfl (fun _ => trivial) c hs

theorem Acts.freshRevisions {s t : State} (h : Acts s t) {c : Bay}
    (hs : (s.stream c).FreshRevisions s.now) : (t.stream c).FreshRevisions t.now := by
  rw [h.now]
  exact h.workIn (Q := fun _ => True) (R := fun _ m => m = s.now) trivial (fun _ => rfl) c hs

theorem overdueBursts_fresh (s : State) (b : Bay) :
    ((bays.foldl overdueBurst s).stream b).FreshBurst (bays.foldl overdueBurst s).now := by
  refine foldl_establishes (P := fun c u => (u.stream c).FreshBurst u.now)
    (fun u a c h => (overdueBurst_acts u a).any.freshBurst h) (fun u a => ?_) bays s b (mem_bays b)
  rw [(overdueBurst_acts u a).any.now]
  exact overdueBurst_fresh u a

theorem overdueRevisionsAll_fresh (s : State) (b : Bay) :
    ((bays.foldl overdueRevisions s).stream b).FreshRevisions (bays.foldl overdueRevisions s).now := by
  refine foldl_establishes (P := fun c u => (u.stream c).FreshRevisions u.now)
    (fun u a c h => (overdueRevisions_acts u a).any.freshRevisions h) (fun u a => ?_) bays s b
    (mem_bays b)
  rw [(overdueRevisions_acts u a).any.now]
  exact overdueRevisions_fresh u a

/-- When the sample advances every burst and revision in computation started in the sample that ends, and
no rebuild has passed its bound. -/
theorem completeOverdue_fresh (order : List Duty) (s : State) :
    (∀ b, ((completeOverdue order s).stream b).WorkIn (· = s.now) fun _ m => m = s.now)
      ∧ ∀ m, (completeOverdue order s).rebuild = some m → (s.now - m).toNat ≤ 6 := by
  have hbursts := Acts.foldl (fun u b => (overdueBurst_acts u b).any) bays s
  have hburst := overdueBursts_fresh s
  unfold completeOverdue
  generalize bays.foldl overdueBurst s = u at hbursts hburst ⊢
  have hrevs := Acts.foldl (fun u b => (overdueRevisions_acts u b).any) bays u
  have hrev := overdueRevisionsAll_fresh u
  generalize bays.foldl overdueRevisions u = v at hrevs hrev ⊢
  have hsearch := overdueSearch_acts v
  generalize overdueSearch v = w at hsearch ⊢
  have hlast := (overdueRebuild_acts order w).any
  have hnow : (overdueRebuild order w).now = s.now :=
    (hbursts.trans (hrevs.trans (hsearch.trans hlast))).now
  constructor
  · intro b
    rw [← hnow]
    exact ⟨((hrevs.trans (hsearch.trans hlast)).freshBurst (hburst b)).1,
      ((hsearch.trans hlast).freshRevisions (hrev b)).2⟩
  · intro m hm
    rw [← hnow, hlast.now]
    exact overdueRebuild_young order w m hm

theorem reset_workBounded : WorkBounded State.reset := by
  refine workBounded_iff.mpr ⟨fun m hm => (nomatch hm), fun b => ?_⟩
  have h : State.reset.stream b = Stream.reset := Tab.get_fill ..
  rw [h]
  exact workIn_empty rfl rfl

theorem workBounded_stepLaw : StepLaw WorkBounded where
  change _ _ h := h.workBounded
  clear _ _ hs := hs
  configure _ _ _ hs := hs
  advance order s _ _ := by
    obtain ⟨hwork, hrebuild⟩ := completeOverdue_fresh order s
    have hnow := (completeOverdue_acts order s).now
    generalize completeOverdue order s = u at hwork hrebuild hnow ⊢
    have hnext : (advanceSample u).now = s.now + 1 := by
      show u.now + 1 = _
      rw [hnow]
    have hone : (s.now + 1 - s.now).toNat ≤ 1 := by bv_omega
    rw [workBounded_iff, hnext]
    refine ⟨fun m hm => ?_, fun b => ⟨fun x hx => ?_, fun v hv => ?_⟩⟩
    · have := hrebuild m hm
      bv_omega
    · rw [(hwork b).1 x hx]
      exact hone
    · rw [(hwork b).2 v hv]
      exact hone
  pins _ _ hs := hs
  reset c x s _ := by
    have h : (hubReset c x s).streams = State.reset.streams := rfl
    obtain ⟨-, hwork⟩ := workBounded_iff.mp reset_workBounded
    refine workBounded_iff.mpr ⟨fun m hm => (nomatch hm), fun b => ?_⟩
    rw [State.stream, h]
    exact hwork b

end Sys2Proof.Machine
end

section
/-! PROOF. The reading of revisions (R109), held resets (R46, R163) and tags (R17, R32) are kept by every
step; StepKeepsRecordsAndTags from all its laws. -/

namespace Sys2Proof.Machine

/-! ## Revisions with their values (R109; assumption 15) -/

theorem revisionsRead_of_streams {s t : State} (h : t.streams = s.streams) (hs : RevisionsRead s) :
    RevisionsRead t := by
  intro b v hv
  rw [State.stream, h] at hv
  exact hs b v hv

/-- A stream whose revisions are among those it had, or none, has read what it holds. -/
theorem revisionsRead_putStream {s : State} {b : Bay} {t : Stream}
    (h : ∀ v ∈ t.revisions, v ∈ (s.stream b).revisions) (hs : RevisionsRead s) :
    RevisionsRead (s.putStream b t) := by
  intro c v hv
  rw [State.stream_putStream] at hv
  split at hv
  · exact hs b v (h v hv)
  · exact hs c v hv

theorem revisionsRead_refreshStream {s : State} (b : Bay) (hs : RevisionsRead s) :
    RevisionsRead (refreshStream b s) :=
  revisionsRead_putStream (fun _ hv => hv) hs

theorem revisionsRead_answer {s : State} (k : RequestKind) (status : Byte) (payload : State → List Byte)
    (hs : RevisionsRead s) : RevisionsRead (answer k status payload s) := hs

theorem takeCommit_streams (s : State) : (takeCommit s).streams = s.streams := by
  obtain ⟨-, h⟩ | ⟨-, h⟩ := takeCommit_cases s <;> rw [h]
  rfl

theorem takeDueCommit_streams (s : State) : (takeDueCommit s).streams = s.streams := by
  unfold takeDueCommit
  split
  · exact takeCommit_streams _
  · rfl

theorem completeRebuild_streams (x : Bool) (s : State) : (completeRebuild x s).streams = s.streams := by
  unfold completeRebuild
  split
  · rfl
  · simp only
    split
    · rw [takeDueCommit_streams, searchStart_streams]
      rfl
    · rw [searchStart_streams, takeDueCommit_streams]
      rfl

theorem rerunSearch_streams (b : Bay) (p : Pos) (s : State) :
    (rerunSearch b p s).streams = s.streams := by
  unfold rerunSearch
  split
  · rfl
  · split
    · rfl
    · rw [searchStart_streams]
      rfl

theorem revisionsRead_completeSearch {s : State} (hs : RevisionsRead s) :
    RevisionsRead (completeSearch s) := by
  unfold completeSearch
  split
  · exact hs
  · split
    · simp only
      split
      · exact readRevisions_read _
      · exact revisionsRead_of_streams (rerunSearch_streams ..) hs
    · exact revisionsRead_of_streams (searchStart_streams _) hs

theorem revisionsRead_completeBurst {s : State} (b : Bay) (hs : RevisionsRead s) :
    RevisionsRead (completeBurst b s) := by
  unfold completeBurst
  split
  · exact hs
  · exact readRevisions_read _

theorem revisionsRead_completeRevision {s : State} (b : Bay) (m : Sample) (hs : RevisionsRead s) :
    RevisionsRead (completeRevision b m s) := by
  unfold completeRevision
  split
  · exact hs
  · exact readRevisions_read _

theorem revisionsRead_completeDrain {s : State} (b : Bay) (hs : RevisionsRead s) :
    RevisionsRead (completeDrain b s) := by
  unfold completeDrain
  simp only
  split
  · exact revisionsRead_putStream (fun v hv => by cases hv) hs
  · exact hs

theorem transmitHead_streams (b : Bay) (s : State) : (transmitHead b s).streams = s.streams := by
  unfold transmitHead
  split <;> rfl

theorem detectDrive_streams (b : Bay) (s : State) : (detectDrive b s).streams = s.streams := by
  unfold detectDrive
  split <;> rfl

theorem revisionsRead_writeSetting {s : State} (b : Bay) (x : Setting) (hs : RevisionsRead s) :
    RevisionsRead (writeSetting b x s) := by
  have h : RevisionsRead (refreshStream b (s.setSettings (s.settings.upd b x))) :=
    revisionsRead_refreshStream b hs
  unfold writeSetting
  simp only
  split
  · exact h
  · exact h

theorem revisionsRead_startStream {s : State} (b : Bay) (hs : RevisionsRead s) :
    RevisionsRead (startStream b s) := by
  unfold startStream
  split
  · exact revisionsRead_putStream (fun _ hv => hv) hs
  · exact hs

theorem revisionsRead_enableRequest {s : State} (b : Bay) (w : SettingFields) (hs : RevisionsRead s) :
    RevisionsRead (enableRequest b w s) := by
  unfold enableRequest
  simp only
  split
  · exact hs
  · exact revisionsRead_answer _ _ _
      (revisionsRead_startStream b (revisionsRead_writeSetting b _ hs))

theorem revisionsRead_disableRequest {s : State} (b : Bay) (w : SettingFields) (hs : RevisionsRead s) :
    RevisionsRead (disableRequest b w s) := by
  unfold disableRequest
  simp only
  split
  · exact hs
  · exact revisionsRead_answer _ _ _ (readRevisions_read _)

theorem revisionsRead_releaseReset (order : List Duty) (s : State) :
    RevisionsRead (releaseReset order s) := by
  have hfold (l : List Bay) (u : State) (hu : RevisionsRead u) :
      RevisionsRead (l.foldl arriveHeld u) := by
    induction l generalizing u with
    | nil => exact hu
    | cons b l ih =>
      refine ih _ ?_
      unfold arriveHeld
      split
      · exact revisionsRead_of_streams (detectDrive_streams ..) hu
      · exact hu
  exact hfold _ _ (readRevisions_read _)

theorem reset_stream (b : Bay) : State.reset.stream b = Stream.reset := Tab.get_fill ..

theorem revisionsRead_hubReset (c : ResetCause) (x : Store) (s : State) :
    RevisionsRead (hubReset c x s) := by
  have h : (hubReset c x s).streams = State.reset.streams := rfl
  refine revisionsRead_of_streams h fun b v hv => ?_
  rw [reset_stream] at hv
  cases hv

theorem ite_of {P : State → Prop} {p : Prop} [Decidable p] {t u : State} (h : P t) (k : P u) :
    P (if p then t else u) := by
  split <;> assumption

/-- An event that starts revisions reads their values at its end; any other keeps the revisions. -/
theorem revisionsRead_takeEvent (c : Instr) {s : State} (hs : RevisionsRead s) :
    RevisionsRead (takeEvent c s) := by
  cases c with
  | powerOn => exact revisionsRead_hubReset _ _ _
  | pinReset => exact revisionsRead_hubReset _ _ _
  | resetRelease order => exact ite_of (revisionsRead_releaseReset _ _) hs
  | sampleBoundary order => exact ite_of hs (readRevisions_read _)
  | slotStart order => exact ite_of (readRevisions_read _) hs
  | epochEnd order => exact ite_of (readRevisions_read _) hs
  | rebuildComplete x => exact revisionsRead_of_streams (completeRebuild_streams x s) hs
  | searchStart => exact revisionsRead_of_streams (searchStart_streams s) hs
  | searchComplete => exact revisionsRead_completeSearch hs
  | burstComplete b => exact revisionsRead_completeBurst b hs
  | revisionComplete b m => exact revisionsRead_completeRevision b m hs
  | drainComplete b => exact revisionsRead_completeDrain b hs
  | laneTransmit b => exact revisionsRead_of_streams (transmitHead_streams b s) hs
  | presenceRise b =>
    exact ite_of hs (ite_of (P := RevisionsRead) hs
      (revisionsRead_of_streams (detectDrive_streams b (setPresence b true s)) hs))
  | presenceFall b => exact ite_of hs (ite_of (P := RevisionsRead) hs (readRevisions_read _))
  | badFrame b => exact ite_of (ite_of (P := RevisionsRead) hs (readRevisions_read _)) hs
  | unknownFrame b => exact ite_of hs (readRevisions_read _)
  | hello b => exact ite_of hs (readRevisions_read _)
  | notice | commit | abort | residual => exact readRevisions_read _
  | badRequest | settingRead | hubRead | activeRowRead | bayInspect | exposureRead | attentionRead
  | attentionClear | attentionConfigure | hubReset => exact ite_of hs hs
  | streamEnable b w => exact ite_of (revisionsRead_enableRequest b w hs) hs
  | streamDisable b w => exact ite_of (revisionsRead_disableRequest b w hs) hs
  | hubWrite divisor code =>
    refine ite_of (ite_of (P := RevisionsRead) hs ?_) hs
    exact revisionsRead_answer _ _ _ (ite_of (P := RevisionsRead) hs hs)
  | freeze => exact ite_of (ite_of (P := RevisionsRead) hs hs) hs
  | thaw => exact ite_of (ite_of (P := RevisionsRead) hs (ite_of (P := RevisionsRead) hs hs)) hs
  | peekRow b => exact ite_of (ite_of (P := RevisionsRead) hs hs) hs
  | pokeRow b row => exact ite_of (ite_of (P := RevisionsRead) hs hs) hs
  | bayReset b => exact ite_of (revisionsRead_answer _ _ _ (readRevisions_read _)) hs
  | hubResetAtCsnRise => exact ite_of (revisionsRead_releaseReset _ _) hs

theorem revisionsRead_step {s t : State} (h : step s = .next t) (hs : RevisionsRead s) :
    RevisionsRead t := by
  unfold step at h
  split at h
  · cases h
    unfold countPeriod
    exact ite_of hs (ite_of (P := RevisionsRead) (readRevisions_read _) hs)
  · exact takeEvent_of_exec h ▸ revisionsRead_takeEvent _ hs

/-! ## A held reset (R46, R131, R132, R163; assumption 1) -/

theorem AnyChange.resetHeld {s t : State} (h : AnyChange s t) :
    t.pins.resetHeld = s.pins.resetHeld := by
  cases h with
  | ended => rfl
  | retired => rfl
  | bay b h =>
    cases h with
    | aside h => exact h.resetHeld
    | post p r => rw [forgetExpired_eq]; rfl
    | start h => rw [startStream, if_pos h]; rfl
    | _ => rfl

theorem Acts.resetHeld {s t : State} (h : Acts s t) : t.pins.resetHeld = s.pins.resetHeld :=
  h.keeps (P := fun u => u.pins.resetHeld = s.pins.resetHeld) (fun _ _ k hu => k.resetHeld.trans hu) rfl

theorem heldAtReset_of_released {s : State} (h : s.pins.resetHeld = false) : HeldAtReset s :=
  fun hheld => absurd (h.symm.trans hheld) (by decide)

theorem heldAtReset_hubReset (c : ResetCause) {x : Store} (hx : ResetStore x) (s : State) :
    HeldAtReset (hubReset c x s) := by
  intro _
  refine ⟨x, c, ?_⟩
  obtain rfl | ⟨y, rfl⟩ := hx <;> rfl

/-- An event that begins with no reset held ends so, but for a reset. -/
theorem Event.heldAtReset {s t : State} (h : Event s t) (hs : s.pins.resetHeld = false) :
    HeldAtReset t := by
  cases h with
  | acts h => exact heldAtReset_of_released (h.resetHeld.trans hs)
  | clear causes h => exact heldAtReset_of_released (h.resetHeld.trans hs)
  | configure mask route h => exact heldAtReset_of_released (h.resetHeld.trans hs)
  | boundary order _ h =>
    refine heldAtReset_of_released (h.resetHeld.trans ?_)
    have hover := (completeOverdue_acts order s).resetHeld
    generalize completeOverdue order s = u at hover
    exact hover.trans hs
  | reset c x hx => exact heldAtReset_hubReset c hx s
  | release h => exact heldAtReset_of_released h.resetHeld
  | command h => exact heldAtReset_of_released h.resetHeld

section
variable {s : State} (hs : HeldAtReset s) (hheld : s.pins.resetHeld = true)
include hs hheld

/-- What a held part holds where commands look. -/
theorem HeldAtReset.reads : s.queue = [] ∧ s.engine = none ∧ s.rebuild = none
    ∧ s.lanes = Tab.fill 16 Lane.reset ∧ s.streams = Tab.fill 16 Stream.reset
    ∧ s.port.resetArmed = false := by
  obtain ⟨x, c, h⟩ := hs hheld
  rw [h]
  exact ⟨rfl, rfl, rfl, rfl, rfl, rfl⟩

theorem HeldAtReset.lane (b : Bay) : s.lane b = Lane.reset := by
  obtain ⟨-, -, -, h, -⟩ := hs.reads hheld
  rw [State.lane, h, Tab.get_fill]

theorem HeldAtReset.stream (b : Bay) : s.stream b = Stream.reset := by
  obtain ⟨-, -, -, -, h, -⟩ := hs.reads hheld
  rw [State.stream, h, Tab.get_fill]

theorem HeldAtReset.revisionsRead : RevisionsRead s := by
  intro b v hv
  rw [hs.stream hheld] at hv
  cases hv

theorem HeldAtReset.searchStart_eq : searchStart s = s := by
  obtain ⟨hqueue, hengine, hrebuild, -⟩ := hs.reads hheld
  have h : searchStart s = (s.setQueue []).setEngine none := by
    simp [searchStart, hengine, hrebuild, hqueue, scanQueue]
  rw [h, ← hqueue, ← hengine]
  rfl

theorem HeldAtReset.setPresence (b : Bay) (x : Bool) : HeldAtReset (setPresence b x s) := by
  intro _
  obtain ⟨y, c, h⟩ := hs hheld
  refine ⟨y, c, ?_⟩
  conv_lhs => rw [Machine.setPresence, h]
  simp only [Machine.setPresence, hheld]
  rfl

/-- While a reset is held no command but a reset and its release does more than move a presence line. -/
theorem HeldAtReset.takeEvent (c : Instr) : HeldAtReset (takeEvent c s) := by
  have habsent (b : Bay) : (s.lane b).state = .absent := by rw [hs.lane hheld]; rfl
  have hready (b : Bay) : s.isReady b = false := by simp [State.isReady, habsent]
  have htakes : s.portTakes = false := by simp [State.portTakes, hheld]
  obtain ⟨-, hengine, hrebuild, -, -, harmed⟩ := hs.reads hheld
  have hrequest (t : State) : HeldAtReset (if s.portTakes then t else s) := by
    rw [if_neg (by simp [htakes])]
    exact hs
  have hframe (b : Bay) (kind : Byte) (len : Option Nat) (payload : List Byte) (take : State → State) :
      HeldAtReset (readRevisions (receiveFrame b kind len payload take s)) := by
    rw [receiveFrame, if_pos (habsent b), readRevisions_of_read (hs.revisionsRead hheld)]
    exact hs
  have hsame {u : State} (h : u = s) : HeldAtReset u := h ▸ hs
  cases c with
  | powerOn => exact heldAtReset_hubReset _ (.inl rfl) s
  | pinReset => exact heldAtReset_hubReset _ (.inr ⟨_, rfl⟩) s
  | resetRelease order =>
    refine ite_of (heldAtReset_of_released ?_) hs
    exact (releaseReset_acts order s).resetHeld
  | sampleBoundary order => exact hsame (if_pos hheld)
  | slotStart order => exact hsame (if_neg (by simp [hheld]))
  | epochEnd order => exact hsame (if_neg (by simp [hheld]))
  | rebuildComplete x => exact hsame (if_pos (by simp [hrebuild]))
  | searchStart => exact hsame (hs.searchStart_eq hheld)
  | searchComplete =>
    refine hsame ?_
    show completeSearch s = s
    rw [completeSearch, hengine]
  | burstComplete b =>
    refine hsame ?_
    show completeBurst b s = s
    rw [completeBurst, hs.stream hheld]
    rfl
  | revisionComplete b m =>
    refine hsame ?_
    show completeRevision b m s = s
    rw [completeRevision, hs.stream hheld]
    rfl
  | drainComplete b =>
    refine hsame (if_neg ?_)
    rw [hs.stream hheld]
    exact fun h => by cases h.1
  | laneTransmit b =>
    refine hsame ?_
    show transmitHead b s = s
    rw [transmitHead, hs.lane hheld]
    rfl
  | presenceRise b =>
    refine ite_of hs ?_
    rw [if_pos hheld]
    exact hs.setPresence hheld b true
  | presenceFall b =>
    refine ite_of hs ?_
    rw [if_pos hheld]
    exact hs.setPresence hheld b false
  | badFrame b => exact hsame (if_neg (by simp [hready]))
  | unknownFrame b => exact hsame (if_pos (habsent b))
  | hello b => exact hsame (if_pos (habsent b))
  | notice | commit | abort | residual => exact hframe _ _ _ _ _
  | hubResetAtCsnRise => exact hsame (if_neg (by simp [harmed]))
  | _ => exact hrequest _

end

theorem heldAtReset_step {s t : State} (h : step s = .next t) (hs : HeldAtReset s) :
    HeldAtReset t := by
  by_cases hheld : s.pins.resetHeld = true
  · unfold step at h
    split at h
    · cases h
      rw [countPeriod, if_pos hheld]
      exact hs
    · next c rest _ =>
      have hpopped : HeldAtReset (s.setPending rest) := by
        intro _
        obtain ⟨x, k, hx⟩ := hs hheld
        refine ⟨x, k, ?_⟩
        conv_lhs => rw [hx]
        rfl
      exact takeEvent_of_exec h ▸ hpopped.takeEvent hheld c
  · have hfalse : s.pins.resetHeld = false := by simpa using hheld
    obtain ⟨u, rfl | ⟨x, rfl⟩, hu⟩ := step_event h
    · exact hu.heldAtReset hfalse
    · exact hu.heldAtReset hfalse

/-! ## Tags (R17, R32) -/

/-- The tags of one bay: those of its records are distinct, and none is the last-expired tag. -/
def TagsApart (last : Option Tag) (seeks : Pos → Option Seek) : Prop :=
  (∀ p q r t, seeks p = some r → seeks q = some t → r.tag = t.tag → p = q)
    ∧ ∀ p r, seeks p = some r → last ≠ some r.tag

theorem tagsLawful_iff {s : State} :
    TagsLawful s ↔ ∀ b, TagsApart (s.lane b).lastExpired (s.seekAt b) := Iff.rfl

section
variable {last : Option Tag} {seeks : Pos → Option Seek} (h : TagsApart last seeks)
include h

theorem TagsApart.clear : TagsApart none seeks :=
  ⟨h.1, fun _ _ _ => by simp⟩

/-- Records of the same tags at the same places, or fewer, are apart as well. -/
theorem TagsApart.mono {seeks' : Pos → Option Seek}
    (hsub : ∀ p r, seeks' p = some r → ∃ x, seeks p = some x ∧ x.tag = r.tag) :
    TagsApart last seeks' := by
  refine ⟨fun p q r t hr ht htag => ?_, fun p r hr => ?_⟩
  · obtain ⟨x, hx, hxr⟩ := hsub p r hr
    obtain ⟨y, hy, hyt⟩ := hsub q t ht
    exact h.1 p q x y hx hy (hxr.trans (htag.trans hyt.symm))
  · obtain ⟨x, hx, hxr⟩ := hsub p r hr
    rw [← hxr]
    exact h.2 p x hx

theorem TagsApart.expire {p : Pos} {r : Seek} (hr : seeks p = some r) :
    TagsApart (some r.tag) fun q => if p = q then none else seeks q := by
  refine ⟨fun q q' x y hx hy htag => ?_, fun q x hx heq => ?_⟩
  · simp only [Option.ite_none_left_eq_some] at hx hy
    exact h.1 q q' x y hx.2 hy.2 htag
  · simp only [Option.ite_none_left_eq_some] at hx
    exact hx.1 (h.1 p q r x hr hx.2 (Option.some.inj heq))

theorem TagsApart.post {p : Pos} {r : Seek} (hnew : ∀ q x, seeks q = some x → x.tag ≠ r.tag) :
    TagsApart (if last = some r.tag then none else last) fun q => if p = q then some r else seeks q := by
  refine ⟨fun q q' x y hx hy htag => ?_, fun q x hx => ?_⟩
  · beta_reduce at hx hy
    split at hx <;> split at hy
    · next hq hq' => exact hq.symm.trans hq'
    · obtain rfl := Option.some.inj hx
      exact absurd htag.symm (hnew q' y hy)
    · obtain rfl := Option.some.inj hy
      exact absurd htag (hnew q x hx)
    · exact h.1 q q' x y hx hy htag
  · beta_reduce at hx
    split at hx
    · obtain rfl := Option.some.inj hx
      split
      · simp
      · assumption
    · split
      · simp
      · exact h.2 q x hx

end

/-- A lane replaced by one with the same last-expired tag, or with none, keeps the tags apart. -/
theorem tagsLawful_putLane {s : State} {b : Bay} {l : Lane}
    (hl : l.lastExpired = (s.lane b).lastExpired ∨ l.lastExpired = none) (hs : TagsLawful s) :
    TagsLawful (s.putLane b l) := by
  intro c
  show TagsApart ((s.putLane b l).lane c).lastExpired (s.seekAt c)
  rw [State.lane_putLane]
  split
  · next hc =>
    subst hc
    obtain hl | hl := hl <;> rw [hl]
    · exact hs b
    · exact TagsApart.clear (hs b)
  · exact hs c

theorem seekAt_putSeek_fun (s : State) (b c : Bay) (p : Pos) (x : Option Seek) :
    (s.putSeek b p x).seekAt c = if b = c then (fun q => if p = q then x else s.seekAt c q)
      else s.seekAt c := by
  funext q
  rw [State.seekAt_putSeek]
  by_cases hc : b = c <;> simp [hc]

theorem tagsLawful_of {s t : State} (hlanes : t.lanes = s.lanes) (hseeks : t.seeks = s.seeks)
    (hs : TagsLawful s) : TagsLawful t := by
  intro b
  rw [State.lane, hlanes]
  unfold State.seekAt
  rw [hseeks]
  exact hs b

theorem tagsLawful_mono {s t : State} (hlanes : t.lanes = s.lanes)
    (hsub : ∀ b p r, t.seekAt b p = some r → ∃ x, s.seekAt b p = some x ∧ x.tag = r.tag)
    (hs : TagsLawful s) : TagsLawful t := by
  intro b
  rw [State.lane, hlanes]
  exact TagsApart.mono (hs b) (hsub b)

theorem endSeeks_seekAt (s : State) (b : Bay) (p : Pos) :
    (endSeeks s).seekAt b p = (s.seekAt b p).bind (endedSeek s.now) := by
  simp [endSeeks, State.seekAt]

theorem endedSeek_some {m : Sample} {x r : Seek} (h : endedSeek m x = some r) :
    r = x ∨ r = { x with state := .tail } := by
  unfold endedSeek at h
  split at h
  · split at h
    · cases h
    · exact .inr (Option.some.inj h).symm
  · split at h
    · cases h
    · exact .inl (Option.some.inj h).symm

theorem AnyChange.tagsLawful {s t : State} (h : AnyChange s t) (hs : TagsLawful s) : TagsLawful t := by
  cases h with
  | retired => exact hs
  | ended =>
    refine tagsLawful_mono (s := s) rfl (fun b p r hr => ?_) hs
    rw [endSeeks_seekAt, Option.bind_eq_some_iff] at hr
    obtain ⟨x, hx, hr⟩ := hr
    refine ⟨x, hx, ?_⟩
    obtain rfl | rfl := endedSeek_some hr <;> rfl
  | bay b h =>
    cases h with
    | aside h => exact tagsLawful_of h.lanes h.seeks hs
    | lane l _ _ hexpired => exact tagsLawful_putLane (.inl hexpired) hs
    | move x => exact tagsLawful_putLane (.inr rfl) hs
    | close x =>
      have hclosed := tagsLawful_putLane (b := b) (l := closedLane (s.lane b) x) (.inr rfl) hs
      exact hclosed
    | admission caps =>
      have hadmitted := tagsLawful_putLane (b := b) (l := readyLane (s.lane b) caps) (.inr rfl) hs
      exact hadmitted
    | free p =>
      refine tagsLawful_mono (s := s) rfl (fun c q r hr => ?_) hs
      rw [State.seekAt_putSeek, Option.ite_none_left_eq_some] at hr
      exact ⟨r, hr.2, rfl⟩
    | reseek p r x hr htag =>
      refine tagsLawful_mono (s := s) rfl (fun c q y hy => ?_) hs
      rw [State.seekAt_putSeek] at hy
      split at hy
      · next hc =>
        obtain ⟨rfl, rfl⟩ := hc
        obtain rfl := Option.some.inj hy
        exact ⟨r, hr, htag.symm⟩
      · exact ⟨y, hy, rfl⟩
    | post p r hnew hready =>
      rw [forgetExpired_eq]
      intro c
      show TagsApart (((s.putSeek b p (some r)).putLane b _).lane c).lastExpired
        ((s.putSeek b p (some r)).seekAt c)
      rw [State.lane_putLane, seekAt_putSeek_fun]
      by_cases hc : b = c
      · subst hc
        rw [if_pos rfl, if_pos rfl]
        exact TagsApart.post (hs b) hnew
      · rw [if_neg hc, if_neg hc]
        exact hs c
    | expire p r hr =>
      intro c
      show TagsApart (((s.putSeek b p none).putLane b _).lane c).lastExpired
        ((s.putSeek b p none).seekAt c)
      rw [State.lane_putLane, seekAt_putSeek_fun]
      by_cases hc : b = c
      · subst hc
        rw [if_pos rfl, if_pos rfl]
        exact TagsApart.expire (hs b) hr
      · rw [if_neg hc, if_neg hc]
        exact hs c
    | start h => rw [startStream, if_pos h]; exact hs
    | _ => exact hs

theorem reset_seekAt (b : Bay) (p : Pos) : State.reset.seekAt b p = none := by
  simp [State.seekAt, State.reset]

theorem reset_tagsLawful : TagsLawful State.reset :=
  fun b => ⟨fun p q r t hr => by simp [reset_seekAt] at hr, fun p r hr => by simp [reset_seekAt] at hr⟩

theorem tagsLawful_stepLaw : StepLaw TagsLawful where
  change _ _ h := h.tagsLawful
  clear _ _ hs := hs
  configure _ _ _ hs := hs
  advance order s _ h := by
    generalize completeOverdue order s = u at h ⊢
    exact h
  pins _ _ hs := hs
  reset c x s _ := tagsLawful_of (s := State.reset) rfl rfl reset_tagsLawful

/-- Settles O56: each law is kept by every small change, or, where an event keeps it as a whole, by every
event. -/
theorem stepKeepsRecordsAndTags : Obligations.StepKeepsRecordsAndTags :=
  ⟨fun _ _ h => ⟨settingsLawful_stepLaw.step h, timeLawful_stepLaw.step h,
    rebuiltSetEmpty_stepLaw.step h, revisionsRead_step h, workBounded_stepLaw.step h,
    heldAtReset_step h⟩, fun _ _ h => tagsLawful_stepLaw.step h⟩

end Sys2Proof.Machine
end

section
/-! PROOF. The laws of the lanes and the streams are kept by every step (StepKeepsLanesAndStreams). -/

namespace Sys2Proof.Machine

/-! ## The laws of one bay -/

/-- The law of one lane, beside its stream and its bay's records (R40, R99, R112, R151, R154, R158, R162). -/
structure LaneLaw (l : Lane) (t : Stream) (seeks : Pos → Option Seek) : Prop where
  unready : l.state ≠ .ready → t.state = .off ∧ l.bad = 0 ∧ ∀ p, seeks p = none
  bad : l.bad ≤ 3
  queue : l.queue.length ≤ 32
  absent : l.state = .absent → l.caps = none ∧ l.queue = []
  caps : ∀ c, l.caps = some c → c.Lawful

/-- The law of one stream under its setting record and its drive's capabilities (R96, R97, R99, R102,
R104). -/
structure StreamLaw (x : Setting) (caps : Option Caps) (t : Stream) : Prop where
  burstLen : t.burstLen = effectiveBurst x caps
  lead : t.lead = effectiveStreamLead x caps
  burst : t.state ≠ .running → t.burst = none
  idle : t.state = .off ∨ t.state = .starting → t.delivery = [] ∧ t.revisions = []
  coverage : t.state = .starting → t.coverage = none
  revised : ∀ d ∈ t.delivery, d.revised = true → d.burst = 8

theorem laneStreamLawful_iff {s : State} : LaneStreamLawful s ↔
    ∀ b, LaneLaw (s.lane b) (s.stream b) (s.seekAt b)
      ∧ StreamLaw (s.setting b) (s.lane b).caps (s.stream b) := by
  constructor
  · rintro ⟨hl, hst⟩ b
    obtain ⟨hunready, hbad, hqueue, habsent, hcaps⟩ := hl b
    obtain ⟨hlen, hlead, hburst, hidle, hcoverage, hrevised⟩ := hst b
    exact ⟨⟨hunready, hbad, hqueue, habsent, hcaps⟩,
      ⟨hlen, hlead, hburst, hidle, hcoverage, hrevised⟩⟩
  · intro h
    refine ⟨fun b => ?_, fun b => ?_⟩
    · obtain ⟨hunready, hbad, hqueue, habsent, hcaps⟩ := (h b).1
      exact ⟨hunready, hbad, hqueue, habsent, hcaps⟩
    · obtain ⟨hlen, hlead, hburst, hidle, hcoverage, hrevised⟩ := (h b).2
      exact ⟨hlen, hlead, hburst, hidle, hcoverage, hrevised⟩

/-! ## What keeps the law of a stream -/

section
variable {x : Setting} {caps : Option Caps} {t : Stream} (h : StreamLaw x caps t)
include h

theorem StreamLaw.stop : StreamLaw x caps (stoppedStream t) where
  burstLen := h.burstLen
  lead := h.lead
  burst _ := rfl
  idle _ := ⟨rfl, rfl⟩
  coverage hs := by cases hs
  revised _ hd := by cases hd

/-- The effective values recomputed for another setting record or other capabilities (R97). -/
theorem StreamLaw.refresh (y : Setting) (k : Option Caps) :
    StreamLaw y k { t with burstLen := effectiveBurst y k, lead := effectiveStreamLead y k } where
  burstLen := rfl
  lead := rfl
  burst := h.burst
  idle := h.idle
  coverage := h.coverage
  revised := h.revised

/-- Other deliveries and revisions, none where there were none, of the law's bursts. -/
theorem StreamLaw.work {ds : List Delivery} {rs : List Revision} {b : Option Burst}
    (hb : t.burst = none → b = none) (hidle : t.delivery = [] → t.revisions = [] → ds = [] ∧ rs = [])
    (hds : ∀ d ∈ ds, d.revised = true → d.burst = 8) :
    StreamLaw x caps { t with delivery := ds, revisions := rs, burst := b } where
  burstLen := h.burstLen
  lead := h.lead
  burst hs := hb (h.burst hs)
  idle hs := by
    obtain ⟨hd, hr⟩ := h.idle hs
    exact hidle hd hr
  coverage := h.coverage
  revised := hds

theorem StreamLaw.takeChange (now a z : Sample) : StreamLaw x caps (takeChange now a z t) := by
  refine h.work (fun hb => by simp [hb]) (fun hd hr => by simp [hd, hr, reviseRecords]) fun d hd => ?_
  simp only [reviseRecords, List.mem_map] at hd
  obtain ⟨y, hy, rfl⟩ := hd
  split
  · next hhit =>
    intro _
    simp only [revisable, Bool.and_eq_true, beq_iff_eq] at hhit
    exact hhit.2.1.1
  · exact h.revised y hy

theorem StreamLaw.read (s : State) (b : Bay) :
    StreamLaw x caps { t with revisions := t.revisions.map (readRevision s b) } :=
  h.work (fun hb => hb) (fun hd hr => ⟨hd, by simp [hr]⟩) h.revised

theorem StreamLaw.retire (now : Sample) : StreamLaw x caps (retireRecords now t) :=
  h.work (fun hb => hb) (fun hd hr => ⟨by simp [hd], hr⟩)
    fun d hd => h.revised d (List.mem_of_mem_filter hd)

theorem StreamLaw.drop (m : Sample) : StreamLaw x caps (dropRevision m t) :=
  h.work (fun hb => hb) (fun hd hr => ⟨hd, by simp [hr]⟩) h.revised

/-- Only a RUNNING stream computes a burst (R102). -/
theorem StreamLaw.running {y : Burst} (hy : t.burst = some y) : t.state = .running := by
  by_contra hne
  rw [h.burst hne] at hy
  cases hy

theorem StreamLaw.deliver {y : Burst} (hy : t.burst = some y) (now : Sample) :
    StreamLaw x caps (deliverBurst now y t) := by
  have hrun := h.running hy
  refine ⟨h.burstLen, h.lead, fun _ => rfl, fun hs => ?_, fun hs => ?_, fun d hd => ?_⟩
  · exact absurd (hs.imp hrun.symm.trans hrun.symm.trans) (by simp)
  · exact absurd (hrun.symm.trans hs) (by simp)
  · simp only [deliverBurst, List.mem_append, List.mem_singleton] at hd
    obtain hd | rfl := hd
    · exact h.revised d hd
    · split
      · next hhit =>
        intro _
        simp only [revisable, Bool.and_eq_true, beq_iff_eq] at hhit
        exact hhit.2.1.1
      · intro hfalse
        cases hfalse

theorem StreamLaw.startBurst (y : Burst) :
    StreamLaw x caps { t with state := .running, burst := some y } where
  burstLen := h.burstLen
  lead := h.lead
  burst hs := absurd rfl hs
  idle hs := absurd hs (by simp)
  coverage hs := by cases hs
  revised := h.revised

theorem StreamLaw.start (hoff : t.state = .off) :
    StreamLaw x caps { t with state := .starting, coverage := none, delivery := [] } where
  burstLen := h.burstLen
  lead := h.lead
  burst _ := h.burst (by simp [hoff])
  idle _ := ⟨rfl, (h.idle (.inl hoff)).2⟩
  coverage _ := rfl
  revised _ hd := by cases hd

theorem StreamLaw.halt (hstarting : t.state = .starting) : StreamLaw x caps { t with state := .off } where
  burstLen := h.burstLen
  lead := h.lead
  burst _ := h.burst (by simp [hstarting])
  idle _ := h.idle (.inr hstarting)
  coverage hs := by cases hs
  revised := h.revised

theorem StreamLaw.drain : StreamLaw x caps (drainingStream t) where
  burstLen := h.burstLen
  lead := h.lead
  burst _ := rfl
  idle hs := absurd hs (by simp [drainingStream])
  coverage hs := by cases hs
  revised := h.revised

theorem StreamLaw.drained (hempty : t.delivery = []) :
    StreamLaw x caps { t with state := .off, burst := none, revisions := [] } where
  burstLen := h.burstLen
  lead := h.lead
  burst _ := rfl
  idle _ := ⟨hempty, rfl⟩
  coverage hs := by cases hs
  revised := h.revised

end

/-! ## What keeps the law of a lane -/

section
variable {l : Lane} {t : Stream} {seeks : Pos → Option Seek} (h : LaneLaw l t seeks)
include h

theorem LaneLaw.ready_of_on (hon : t.state ≠ .off) : l.state = .ready := by
  by_contra hne
  exact hon (h.unready hne).1

theorem LaneLaw.ready_of_seek {p : Pos} (hp : seeks p ≠ none) : l.state = .ready := by
  by_contra hne
  exact hp ((h.unready hne).2.2 p)

/-- Another stream, which is OFF where the old one is; other records, none where there were none. -/
theorem LaneLaw.beside {t' : Stream} {seeks' : Pos → Option Seek}
    (ht : t.state = .off → l.state ≠ .ready → t'.state = .off)
    (hp : (∀ p, seeks p = none) → l.state ≠ .ready → ∀ p, seeks' p = none) : LaneLaw l t' seeks' where
  unready hne := by
    obtain ⟨hoff, hbad, hnone⟩ := h.unready hne
    exact ⟨ht hoff hne, hbad, hp hnone hne⟩
  bad := h.bad
  queue := h.queue
  absent := h.absent
  caps := h.caps

/-- A lane moved to another state than READY or ABSENT, its bay idle (R157). -/
theorem LaneLaw.moved {x : LaneState} (hx : x ≠ .absent)
    (hidle : l.state = .ready → t.state = .off ∧ ∀ p, seeks p = none) :
    LaneLaw (movedLane l x) t seeks where
  unready _ := by
    by_cases hready : l.state = .ready
    · exact ⟨(hidle hready).1, rfl, (hidle hready).2⟩
    · obtain ⟨hoff, -, hnone⟩ := h.unready hready
      exact ⟨hoff, rfl, hnone⟩
  bad := Nat.zero_le _
  queue := Nat.zero_le _
  absent hs := absurd hs hx
  caps := h.caps

theorem LaneLaw.closed {x : LaneState}
    (hidle : l.state = .ready → t.state = .off ∧ ∀ p, seeks p = none) :
    LaneLaw (closedLane l x) t seeks where
  unready _ := by
    by_cases hready : l.state = .ready
    · exact ⟨(hidle hready).1, rfl, (hidle hready).2⟩
    · obtain ⟨hoff, -, hnone⟩ := h.unready hready
      exact ⟨hoff, rfl, hnone⟩
  bad := Nat.zero_le _
  queue := Nat.zero_le _
  absent _ := ⟨rfl, rfl⟩
  caps _ hc := by cases hc

theorem LaneLaw.readied {caps : Caps} (hcaps : caps.Lawful) : LaneLaw (readyLane l caps) t seeks where
  unready hne := absurd rfl hne
  bad := Nat.zero_le _
  queue := h.queue
  absent hs := by cases hs
  caps _ hc := Option.some.inj hc ▸ hcaps

end

theorem LaneLaw.lastExpired {l : Lane} {t : Stream} {seeks : Pos → Option Seek} (h : LaneLaw l t seeks)
    (x : Option Tag) : LaneLaw { l with lastExpired := x } t seeks where
  unready := h.unready
  bad := h.bad
  queue := h.queue
  absent := h.absent
  caps := h.caps

/-! ## Every small change keeps the laws of every bay -/

/-- The laws of bay `b`. -/
def State.BayLaw (s : State) (b : Bay) : Prop :=
  LaneLaw (s.lane b) (s.stream b) (s.seekAt b) ∧ StreamLaw (s.setting b) (s.lane b).caps (s.stream b)

section
variable {s : State} {b c : Bay}

theorem bayLaw_putStream {t : Stream} (hc : s.BayLaw c) (ht : b = c →
    LaneLaw (s.lane b) t (s.seekAt b) ∧ StreamLaw (s.setting b) (s.lane b).caps t) :
    (s.putStream b t).BayLaw c := by
  unfold State.BayLaw
  rw [State.stream_putStream]
  by_cases h : b = c
  · subst h
    rw [if_pos rfl]
    exact ht rfl
  · rw [if_neg h]
    exact hc

theorem bayLaw_putLane {l : Lane} (hc : s.BayLaw c) (hl : b = c →
    LaneLaw l (s.stream b) (s.seekAt b) ∧ StreamLaw (s.setting b) l.caps (s.stream b)) :
    (s.putLane b l).BayLaw c := by
  unfold State.BayLaw
  rw [State.lane_putLane]
  by_cases h : b = c
  · subst h
    rw [if_pos rfl]
    exact hl rfl
  · rw [if_neg h]
    exact hc

theorem bayLaw_putSeek {p : Pos} {x : Option Seek} (hc : s.BayLaw c)
    (hx : b = c → x = none ∨ (s.lane b).state = .ready) : (s.putSeek b p x).BayLaw c := by
  refine ⟨hc.1.beside (fun hoff _ => hoff) fun hnone hne q => ?_, hc.2⟩
  rw [State.seekAt_putSeek]
  split
  · next h =>
    obtain ⟨rfl, -⟩ := h
    exact (hx rfl).resolve_right hne
  · exact hnone q

/-- A lane and the effective values of its stream changed together. -/
theorem bayLaw_refresh_putLane {l : Lane} (hc : s.BayLaw c)
    (hl : b = c → LaneLaw l (s.stream b) (s.seekAt b)) :
    (refreshStream b (s.putLane b l)).BayLaw c := by
  by_cases h : b = c
  · subst h
    unfold State.BayLaw refreshStream
    rw [State.stream_putStream_self, State.putStream_lane, State.lane_putLane_self]
    exact ⟨(hl rfl).beside (fun hoff _ => hoff) fun hnone _ => hnone, hc.2.refresh _ _⟩
  · unfold State.BayLaw refreshStream
    rw [State.stream_putStream_ne _ _ h, State.putStream_lane, State.lane_putLane_ne _ _ h]
    exact hc

theorem bayLaw_refresh_setting {x : Setting} (hc : s.BayLaw c) :
    (refreshStream b (s.setSettings (s.settings.upd b x))).BayLaw c := by
  have hset (d : Bay) : (s.setSettings (s.settings.upd b x)).setting d = if b = d then x else s.setting d :=
    Tab.get_upd ..
  by_cases h : b = c
  · subst h
    unfold State.BayLaw refreshStream
    rw [State.stream_putStream_self, State.putStream_setting, hset, if_pos rfl]
    exact ⟨hc.1.beside (fun hoff _ => hoff) fun hnone _ => hnone, hc.2.refresh _ _⟩
  · unfold State.BayLaw refreshStream
    rw [State.stream_putStream_ne _ _ h, State.putStream_setting, hset c, if_neg h]
    exact hc

/-- A bay that a rule sends a frame about has a lane that is not ABSENT. -/
theorem not_absent_of_served (hb : s.BayLaw b) (h : s.Served b) : (s.lane b).state ≠ .absent := by
  obtain ⟨hlane, hstream⟩ := hb
  have hready (k : (s.lane b).state = .ready) : (s.lane b).state ≠ .absent := by simp [k]
  obtain h | h | h | h | ⟨p, h⟩ := h
  · exact h
  · exact hready (hlane.ready_of_on h)
  · obtain ⟨x, hx⟩ := Option.ne_none_iff_exists'.mp h
    exact hready (hlane.ready_of_on (by simp [hstream.running hx]))
  · refine hready (hlane.ready_of_on fun hoff => h (hstream.idle (.inl hoff)).2)
  · exact hready (hlane.ready_of_seek h)

theorem Change.bayLaw {t : State} (h : Change b s t) (hb : s.BayLaw b) (hc : s.BayLaw c) :
    t.BayLaw c := by
  obtain ⟨hlane, hstream⟩ := hb
  cases h with
  | aside h =>
    unfold State.BayLaw State.lane State.stream State.setting State.seekAt
    rw [h.lanes, h.streams, h.settings, h.seeks]
    exact hc
  | rebuild | epoch | divider | divisor | raise => exact hc
  | setting x _ => exact bayLaw_refresh_setting hc
  | lane l hstate hcaps _ hbad hqueue =>
    refine bayLaw_putLane hc fun _ => ⟨⟨fun hne => ?_, ?_, ?_, fun habsent => ?_, ?_⟩, by rwa [hcaps]⟩
    · rw [hstate] at hne
      obtain ⟨hoff, hzero, hnone⟩ := hlane.unready hne
      refine ⟨hoff, ?_, hnone⟩
      obtain hbad | ⟨-, hready⟩ := hbad
      · omega
      · exact absurd hready hne
    · have := hlane.bad
      omega
    · have := hlane.queue
      omega
    · rw [hstate] at habsent
      obtain ⟨hnocaps, hempty⟩ := hlane.absent habsent
      refine ⟨hcaps.trans hnocaps, ?_⟩
      obtain hqueue | ⟨-, hserved⟩ := hqueue
      · rwa [hempty, List.length_nil, Nat.le_zero, List.length_eq_zero_iff] at hqueue
      · exact absurd habsent (not_absent_of_served ⟨hlane, hstream⟩ hserved)
    · rw [hcaps]
      exact hlane.caps
  | move x hx hidle =>
    refine bayLaw_putLane hc fun _ => ⟨hlane.moved ?_ fun hready => ?_, hstream⟩
    · obtain rfl | rfl := hx <;> simp
    · obtain ⟨hstopped, hfree⟩ := hidle hready
      exact ⟨hstopped ▸ rfl, hfree⟩
  | close x hx hidle =>
    refine bayLaw_refresh_putLane (l := closedLane (s.lane b) x) hc fun _ => hlane.closed fun hready => ?_
    obtain ⟨hstopped, hfree⟩ := hidle hready
    exact ⟨hstopped ▸ rfl, hfree⟩
  | admission caps hcaps => exact bayLaw_refresh_putLane hc fun _ => hlane.readied hcaps
  | free p => exact bayLaw_putSeek hc fun _ => .inl rfl
  | reseek p r x hr _ => exact bayLaw_putSeek hc fun _ => .inr (hlane.ready_of_seek (p := p) (by simp [hr]))
  | post p r _ hready =>
    rw [forgetExpired_eq]
    have hposted : (s.putSeek b p (some r)).BayLaw c := bayLaw_putSeek hc fun _ => .inr hready
    have hown : (s.putSeek b p (some r)).BayLaw b :=
      bayLaw_putSeek ⟨hlane, hstream⟩ fun _ => .inr hready
    exact bayLaw_putLane hposted fun _ => ⟨hown.1.lastExpired _, hown.2⟩
  | expire p r _ =>
    have hfreed : (s.putSeek b p none).BayLaw c := bayLaw_putSeek hc fun _ => .inl rfl
    have hown : (s.putSeek b p none).BayLaw b := bayLaw_putSeek ⟨hlane, hstream⟩ fun _ => .inl rfl
    exact bayLaw_putLane hfreed fun _ => ⟨hown.1.lastExpired _, hown.2⟩
  | forecast a z =>
    unfold State.BayLaw
    rw [forecastChange_stream]
    split
    · exact ⟨hc.1.beside (fun hoff _ => hoff) fun hnone _ => hnone, hc.2.takeChange _ _ _⟩
    · exact hc
  | read =>
    unfold State.BayLaw
    rw [readRevisions_stream]
    exact ⟨hc.1.beside (fun hoff _ => hoff) fun hnone _ => hnone, hc.2.read _ _⟩
  | stop =>
    exact bayLaw_putStream hc fun _ =>
      ⟨hlane.beside (fun _ _ => rfl) fun hnone _ => hnone, hstream.stop⟩
  | deliver x hx =>
    exact bayLaw_putStream hc fun _ =>
      ⟨hlane.beside (fun hoff _ => hoff) fun hnone _ => hnone, hstream.deliver hx _⟩
  | drop m =>
    exact bayLaw_putStream hc fun _ =>
      ⟨hlane.beside (fun hoff _ => hoff) fun hnone _ => hnone, hstream.drop m⟩
  | burst hon =>
    have hready := hlane.ready_of_on (by obtain h | h := hon <;> simp [h])
    exact bayLaw_putStream hc fun _ =>
      ⟨hlane.beside (fun _ hne => absurd hready hne) fun hnone _ => hnone, hstream.startBurst _⟩
  | start hoff hready =>
    rw [startStream, if_pos hoff]
    exact bayLaw_putStream hc fun _ =>
      ⟨hlane.beside (fun _ hne => absurd hready hne) fun hnone _ => hnone, hstream.start hoff⟩
  | halt hstarting =>
    exact bayLaw_putStream hc fun _ =>
      ⟨hlane.beside (fun _ _ => rfl) fun hnone _ => hnone, hstream.halt hstarting⟩
  | drain hrunning =>
    have hready := hlane.ready_of_on (by simp [hrunning])
    exact bayLaw_putStream hc fun _ =>
      ⟨hlane.beside (fun _ hne => absurd hready hne) fun hnone _ => hnone, hstream.drain⟩
  | drained _ hempty =>
    exact bayLaw_putStream hc fun _ =>
      ⟨hlane.beside (fun _ _ => rfl) fun hnone _ => hnone, hstream.drained hempty⟩

end

theorem AnyChange.laneStreamLawful {s t : State} (h : AnyChange s t) (hs : LaneStreamLawful s) :
    LaneStreamLawful t := by
  rw [laneStreamLawful_iff] at hs ⊢
  intro c
  cases h with
  | bay b h => exact h.bayLaw (hs b) (hs c)
  | ended =>
    refine ⟨(hs c).1.beside (fun hoff _ => hoff) fun hnone _ p => ?_, (hs c).2⟩
    rw [endSeeks_seekAt, hnone p]
    rfl
  | retired =>
    have hretired : (s.setStreams (Tab.gen 16 fun b => retireRecords s.now (s.stream b))).stream c
        = retireRecords s.now (s.stream c) := Tab.get_gen ..
    rw [hretired]
    exact ⟨(hs c).1.beside (fun hoff _ => hoff) fun hnone _ => hnone, (hs c).2.retire _⟩

theorem reset_lane (b : Bay) : State.reset.lane b = Lane.reset := Tab.get_fill ..

theorem reset_setting (b : Bay) : State.reset.setting b = Setting.reset := Tab.get_fill ..

theorem reset_laneStreamLawful : LaneStreamLawful State.reset := by
  rw [laneStreamLawful_iff]
  intro b
  rw [reset_lane, reset_stream, reset_setting]
  exact ⟨⟨fun _ => ⟨rfl, rfl, reset_seekAt b⟩, by decide, by decide, fun _ => ⟨rfl, rfl⟩,
      fun _ hc => nomatch hc⟩,
    ⟨rfl, rfl, fun _ => rfl, fun _ => ⟨rfl, rfl⟩, fun hs => (nomatch hs), fun _ hd => (nomatch hd)⟩⟩

theorem laneStreamLawful_stepLaw : StepLaw LaneStreamLawful where
  change _ _ h := h.laneStreamLawful
  clear _ _ hs := hs
  configure _ _ _ hs := hs
  advance order s _ h := by
    generalize completeOverdue order s = u at h ⊢
    exact h
  pins _ _ hs := hs
  reset c x s _ := by
    have hreset := laneStreamLawful_iff.mp reset_laneStreamLawful
    exact laneStreamLawful_iff.mpr hreset

/-- Settles O55: every small change keeps the laws of every bay. -/
theorem stepKeepsLanesAndStreams : Obligations.StepKeepsLanesAndStreams :=
  fun _ _ h => laneStreamLawful_stepLaw.step h

end Sys2Proof.Machine
end

section
/-! PROOF. The statements' `BayReleased` and `LaneFaulted` of a bay that is freed and stopped, and the
events that release one: a FAULT, a lost drive, a restart and BAY RESET. -/

namespace Sys2Proof.Machine

/-! ## The queue and the engine of a freed bay (R64, R78) -/

section
variable {b : Bay} {s : State} (hq : QueueLawful s)
include hq

/-- Under the queue's law the entries that leave with a bay's seeks are the bay's. -/
theorem freeBay_queue : (freeBay b s).queue = s.queue.filter fun e => e.bay ≠ b := by
  rw [freeBay_eq]
  refine List.filter_congr fun e he => ?_
  have hposted : s.isPosted e.bay e.pos = true :=
    (hq.2.1 e.bay e.pos).mp (List.mem_map_of_mem (f := fun e => (e.bay, e.pos)) he)
  by_cases hb : e.bay = b
  · subst hb
    simp [State.unposts, positions, hposted]
  · simp [State.unposts, hb]

theorem freeBay_engine : (freeBay b s).engine = s.engine.filter fun sr => sr.bay ≠ b := by
  rw [freeBay_eq]
  show s.engine.filter _ = _
  cases he : s.engine with
  | none => rfl
  | some sr =>
    have hposted := (hq.2.2 sr he).1
    simp only [Option.filter_some]
    by_cases hb : sr.bay = b
    · subst hb
      simp [State.unposts, positions, hposted]
    · simp [State.unposts, hb]

end

theorem freeBay_exposureAt (b : Bay) (s : State) (c : Bay) (i : Fin 64) :
    (freeBay b s).exposureAt c i =
      if s.rebuild.isSome ∨ i = positionOf s.slot then s.exposureAt c i
      else s.exposureAt c i - s.bayLoad b c (slotAt s.slot i) := by
  rw [freeBay_eq, freedAt_exposureAt, bayLoad_eq]

/-! ## What the reading of revisions leaves -/

section
variable (s : State)

@[simp] theorem readRevisions_lane (b : Bay) : (readRevisions s).lane b = s.lane b := rfl
@[simp] theorem readRevisions_seekAt (b : Bay) (p : Pos) :
    (readRevisions s).seekAt b p = s.seekAt b p := rfl
@[simp] theorem readRevisions_exposureAt (b : Bay) (i : Fin 64) :
    (readRevisions s).exposureAt b i = s.exposureAt b i := rfl
@[simp] theorem readRevisions_queue : (readRevisions s).queue = s.queue := rfl
@[simp] theorem readRevisions_attention : (readRevisions s).attention = s.attention := rfl

@[simp] theorem searchStart_attention : (searchStart s).attention = s.attention :=
  (searchStart_aside s).attention

end

/-! ## The release (R38, R39, R53, R66, R78, R80, R112, R113) -/

/-- `u` is `v` beside the lane and the stopped stream of bay `b` and the blocks that no release reads. -/
structure StoppedBeside (b : Bay) (v u : State) : Prop where
  seeks : u.seeks = v.seeks
  exposure : u.exposure = v.exposure
  queue : u.queue = v.queue
  engine : u.engine = v.engine
  streams : ∀ c, c ≠ b → u.stream c = v.stream c
  stopped : u.stream b = stoppedStream (u.stream b)

/-- A search is the one that ran before or one on the place of an entry that the scan took. -/
theorem searchStart_engine_place {s : State} {P : Bay × Pos → Prop} {sr : Search}
    (h : (searchStart s).engine = some sr) (hengine : ∀ x, s.engine = some x → P (x.bay, x.pos))
    (hqueue : ∀ e ∈ s.queue, P (e.bay, e.pos)) : P (sr.bay, sr.pos) := by
  unfold searchStart at h
  split at h
  · obtain ⟨e, he, -, htry⟩ := scanQueue_some s s.queue sr h
    obtain ⟨r, -, rfl, -⟩ := trySeek_some htry
    exact hqueue e he
  · exact hengine sr h

theorem readRevision_setStreams (s : State) (x : Tab 16 Stream) (b : Bay) (v : Revision) :
    readRevision (s.setStreams x) b v = readRevision s b v := rfl

/-- A search start is found again from the state after it and the revisions read. -/
theorem readRevisions_searchStart_undo (u : State) :
    searchStart (((readRevisions (searchStart u)).setQueue u.queue).setEngine u.engine)
      = readRevisions (searchStart u) := by
  rw [readRevisions_eq]
  generalize (readRevisions (searchStart u)).streams = x
  have hundo : (((searchStart u).setStreams x).setQueue u.queue).setEngine u.engine
      = u.setStreams x := congrArg (State.setStreams · x) (searchStart_undo u)
  rw [hundo, searchStart_setStreams]

/-- A bay freed, its stream stopped, then the search that is allowed and the reading of revisions. -/
theorem bayReleased_of {b : Bay} {s u : State} (hq : QueueLawful s)
    (hu : StoppedBeside b (freeBay b s) u) : BayReleased b s (readRevisions (searchStart u)) := by
  have hqueue : u.queue = s.queue.filter fun e => e.bay ≠ b := hu.queue.trans (freeBay_queue hq)
  have hengine : u.engine = s.engine.filter fun sr => sr.bay ≠ b := hu.engine.trans (freeBay_engine hq)
  have hseek (c : Bay) (p : Pos) :
      (readRevisions (searchStart u)).seekAt c p = if b = c then none else s.seekAt c p := by
    rw [← freeBay_seekAt]
    unfold State.seekAt
    rw [← hu.seeks, ← searchStart_seeks u]
    rfl
  have hstream (c : Bay) : (readRevisions (searchStart u)).stream c
      = { u.stream c with revisions := (u.stream c).revisions.map (readRevision (searchStart u) c) } := by
    rw [readRevisions_stream, State.stream, searchStart_streams]
    rfl
  constructor
  case freed => exact fun p => (hseek b p).trans (if_pos rfl)
  case others => exact fun c p hc => (hseek c p).trans (if_neg hc.symm)
  case queue =>
    show (searchStart u).queue.map _ = _
    rw [searchStart_places, hqueue, List.filter_map]
    rfl
  case engineKept =>
    intro sr hsr hb
    have hkept : u.engine = some sr := by
      rw [hengine, hsr]
      simp [hb]
    show (searchStart u).engine = some sr
    rw [searchStart_of_searching hkept, hkept]
  case engineLeft =>
    intro sr hsr
    refine searchStart_engine_place (s := u) (P := fun x => x.1 ≠ b) hsr (fun x hx => ?_) fun e he => ?_
    · rw [hengine] at hx
      simpa using (Option.filter_eq_some_iff.mp hx).2
    · rw [hqueue] at he
      simpa using List.of_mem_filter he
  case exposure =>
    intro c i
    rw [← freeBay_exposureAt]
    unfold State.exposureAt
    rw [← hu.exposure]
    show ((searchStart u).exposure.get c).get i = _
    rw [searchStart_eq]
    rfl
  case streamOff =>
    rw [hstream, hu.stopped]
    exact ⟨rfl, rfl, rfl, rfl, rfl⟩
  case streams =>
    intro c hc
    have hpublished : (s.bayPublished b).stream c = u.stream c := by
      rw [hu.streams c hc, State.stream, ← freeBay_streams]
      rfl
    rw [hstream, readRevisions_stream, ← hpublished]
    rfl
  case search =>
    show Host.Outcome.next (searchStart _) = _
    rw [← hqueue, ← hengine, readRevisions_searchStart_undo]

/-! ## The FAULT of a lane (R153, R157, R158) -/

theorem raiseCause_attention {c : Cause} (h : c ≠ .rebuilt) (b : Bay) (s : State) :
    (raiseCause c b s).attention = { s.attention with
      pending := s.attention.pending ||| BitVec.twoPow 8 c.bit.val
      sets := s.attention.sets.upd c.bit (s.attention.sets.get c.bit ||| BitVec.twoPow 16 b.val) } := by
  rw [raiseCause, if_neg h]
  rfl

section
variable (b : Bay) (s : State)

/-- A READY lane's FAULT before the search it allows. -/
def State.faulted : State :=
  raiseCause .laneFault b ((stopStream b (freeBay b s)).putLane b (movedLane (s.lane b) .fault))

theorem faulted_beside : StoppedBeside b (freeBay b s) (s.faulted b) := by
  unfold State.faulted
  generalize freeBay b s = v
  refine ⟨rfl, rfl, rfl, rfl, fun c hc => State.stream_putStream_ne v _ hc.symm, ?_⟩
  show (stopStream b v).stream b = stoppedStream ((stopStream b v).stream b)
  rw [stopStream_stream_self]
  rfl

theorem faultLane_lanes : (faultLane b s).lanes = s.lanes.upd b (movedLane (s.lane b) .fault) := by
  rw [faultLane_eq, searchStart_lanes, ← freeBay_lanes b s]
  generalize freeBay b s = v
  rfl

theorem faultLane_attention : (faultLane b s).attention = (raiseCause .laneFault b s).attention := by
  rw [faultLane_eq, searchStart_attention]
  have h := freeBay_attention b s
  generalize freeBay b s = v at h ⊢
  rw [raiseCause, raiseCause, ← h]
  rfl

theorem faultLane_lane (c : Bay) : (faultLane b s).lane c
    = if b = c then movedLane (s.lane b) .fault else s.lane c := by
  rw [State.lane, faultLane_lanes, Tab.get_upd]
  rfl

/-- A lane that goes to FAULT does so as the statements say. -/
theorem faultLane_faulted {b : Bay} {s : State} (hq : QueueLawful s) :
    LaneFaulted b s (readRevisions (faultLane b s)) where
  frame := ((faultLane_keeps b s).trans (readRevisions_keeps _)).eventPart
  lane := by
    rw [readRevisions_lane, faultLane_lane, if_pos rfl]
    rfl
  lanes c hc := by
    rw [readRevisions_lane, faultLane_lane, if_neg hc.symm]
  attention := by
    rw [readRevisions_attention, faultLane_attention, raiseCause_attention (by decide)]
    rfl
  effective := by
    rw [readRevisions_stream, faultLane_stream_self]
    exact ⟨rfl, rfl⟩
  released := by
    rw [faultLane_eq]
    exact bayReleased_of hq (faulted_beside b s)

end

/-! ### What the release takes back

A FAULT does not depend on what the rule's other steps did to the bay itself. -/

theorem faultLane_congr {b : Bay} {s u : State}
    (hfree : stopStream b (freeBay b u) = (stopStream b (freeBay b s)).putLane b (u.lane b))
    (hlane : movedLane (u.lane b) .fault = movedLane (s.lane b) .fault) :
    faultLane b u = faultLane b s := by
  rw [faultLane_eq, faultLane_eq, hfree, putLane_putLane, hlane]

/-- The lane's state, count, queue and last-expired tag are lost with the FAULT. -/
theorem faultLane_putLane {b : Bay} {s : State} {l : Lane}
    (h : movedLane l .fault = movedLane (s.lane b) .fault) :
    faultLane b (s.putLane b l) = faultLane b s := by
  refine faultLane_congr ?_ (by rw [State.lane_putLane_self, h])
  rw [freeBay_putLane, State.lane_putLane_self]
  generalize freeBay b s = v
  rfl

/-- All but the stream's effective values is lost with the FAULT. -/
theorem faultLane_putStream {b : Bay} {s : State} {t : Stream}
    (h : stoppedStream t = stoppedStream (s.stream b)) :
    faultLane b (s.putStream b t) = faultLane b s := by
  refine faultLane_congr ?_ rfl
  rw [freeBay_putStream_own]
  have hown := freeBay_stream_own b s
  have hlane : (s.putStream b t).lane b = (freeBay b s).lane b := (freeBay_lane b s b).symm
  rw [hlane]
  generalize freeBay b s = v at hown ⊢
  have hstop : stopStream b (v.putStream b t) = stopStream b v := by
    rw [stopStream, State.stream_putStream_self, h, ← hown]
    unfold State.putStream stopStream State.putStream
    simp only [State.setStreams_twice, State.setStreams_streams]
    congr 1
    refine Tab.ext_get fun c => ?_
    simp only [Tab.get_upd]
    split <;> rfl
  rw [hstop]
  exact (putLane_same (stopStream b v) b).symm

end Sys2Proof.Machine
end

section
/-! PROOF. The obligations on events that release a bay: bad frames and refused frames that fault a lane,
a lost drive, a restart and BAY RESET. -/

namespace Sys2Proof.Machine

/-! ## Bad frames and refusals (R152, R153, R158) -/

theorem exec_badFrame_of_ready {b : Bay} {s : State} (h : (s.lane b).state = .ready) (why : FrameFault) :
    exec (.badFrame b why) s = .next (if (s.lane b).bad + 1 < 4 then
      s.putLane b { s.lane b with bad := (s.lane b).bad + 1 } else readRevisions (faultLane b s)) :=
  congrArg _ (if_pos (isReady_iff.mpr h))

theorem exec_badFrame_of_unready {b : Bay} {s : State} (h : (s.lane b).state ≠ .ready)
    (why : FrameFault) : exec (.badFrame b why) s = .next s :=
  congrArg _ (if_neg (mt isReady_iff.mp h))

theorem exec_unknownFrame_of_present {b : Bay} {s : State} (h : (s.lane b).state ≠ .absent) (kind : Byte)
    (payload : List Byte) : exec (.unknownFrame b kind payload) s
      = .next (readRevisions (refuse b none .malformed kind (goodFrame b s))) :=
  congrArg _ (if_neg h)

theorem goodFrame_queue (b : Bay) (s : State) : ((goodFrame b s).lane b).queue = (s.lane b).queue := by
  rw [goodFrame, State.lane_putLane_self]

/-- A good frame's effect on the count is lost with the FAULT. -/
theorem faultLane_goodFrame (b : Bay) (s : State) : faultLane b (goodFrame b s) = faultLane b s :=
  faultLane_putLane rfl

/-- Settles O28: the FAULT of a READY lane is one operation, whichever rule brings it. -/
theorem badFramesAndOverflowFaultTheLane : Obligations.BadFramesAndOverflowFaultTheLane := by
  refine ⟨fun s b why => ⟨fun h => exec_badFrame_of_unready h why, fun h hbad => ?few, fun h hbad hq => ?fourth⟩,
    fun s b kind payload hfull => ⟨fun h hq => ?overflow, fun h hread => ?lost⟩⟩
  case few =>
    rw [exec_badFrame_of_ready h, if_pos (by omega)]
  case fourth =>
    refine ⟨_, ?_, faultLane_faulted hq⟩
    rw [exec_badFrame_of_ready h, if_neg (by omega)]
  case overflow =>
    refine ⟨_, ?_, faultLane_faulted hq⟩
    rw [exec_unknownFrame_of_present (by simp [h]), refuse, sendFrame,
      handThen_of_full (by rw [goodFrame_queue, hfull]) (by rw [goodFrame_lane_state, h]), id_eq,
      faultLane_goodFrame]
  case lost =>
    have hunready : (s.lane b).state ≠ .ready := by obtain h | h := h <;> simp [h]
    have hpresent : (s.lane b).state ≠ .absent := by obtain h | h := h <;> simp [h]
    rw [exec_unknownFrame_of_present hpresent, refuse, sendFrame,
      handThen_of_full_unready (by rw [goodFrame_queue, hfull]) (by rwa [goodFrame_lane_state]), id_eq,
      readRevisions_of_streams (s := s) (t := goodFrame b s) hread rfl]
    rfl

/-! ## Presence falling (R97, R151, R157) -/

/-- The state with bay `b`'s presence line high. -/
def State.gone (s : State) (b : Bay) : State :=
  s.setPins { s.pins with present := s.pins.present.upd b false }

theorem exec_presenceFall_of_present {b : Bay} {s : State} (h : s.pins.present.get b = true)
    (hheld : s.pins.resetHeld = false) :
    exec (.presenceFall b) s = .next (readRevisions (loseDrive b (s.gone b))) := by
  show Host.Outcome.next (if _ then _ else if _ then _ else _) = _
  rw [if_neg (by simp [h]), if_neg (by simp [hheld])]
  rfl

theorem effectiveBurst_none (x : Setting) : effectiveBurst x none = 4 := by
  simp [effectiveBurst]

/-- Without capabilities a lane has the least effective values (R97). -/
theorem refreshStream_of_no_caps {b : Bay} {s : State} (h : (s.lane b).caps = none) :
    refreshStream b s
      = s.putStream b { s.stream b with burstLen := 4, lead := min (s.setting b).lead 8 } := by
  rw [refreshStream, h, effectiveBurst_none]
  rfl

section
variable (s : State) (b : Bay) (l : Lane)

/-- A bay freed and stopped, its lane then left as `l`. -/
def State.closedBay : State :=
  refreshStream b ((stopStream b (freeBay b s)).putLane b l)

theorem closedBay_stream_self : (s.closedBay b l).stream b = { stoppedStream (s.stream b) with
    burstLen := effectiveBurst (s.setting b) l.caps
    lead := effectiveStreamLead (s.setting b) l.caps } := by
  have hown := freeBay_stream_own b s
  have hsetting : (freeBay b s).setting b = s.setting b :=
    congrArg (Tab.get · b) (freeBay_keeps b s).settings
  unfold State.closedBay
  generalize freeBay b s = v at hown hsetting ⊢
  rw [refreshStream, State.stream_putStream_self, State.lane_putLane_self, State.putLane_stream,
    stopStream_stream_self, hown]
  show ({ stoppedStream (s.stream b) with
    burstLen := effectiveBurst (v.setting b) l.caps, lead := effectiveStreamLead (v.setting b) l.caps }
      : Stream) = _
  rw [hsetting]

theorem closedBay_stopped : (s.closedBay b l).stream b = stoppedStream ((s.closedBay b l).stream b) := by
  rw [closedBay_stream_self]
  rfl

theorem closedBay_beside : StoppedBeside b (freeBay b s) (s.closedBay b l) := by
  have hstopped := closedBay_stopped s b l
  unfold State.closedBay at hstopped ⊢
  generalize freeBay b s = v at hstopped ⊢
  refine ⟨rfl, rfl, rfl, rfl, fun c hc => ?_, hstopped⟩
  exact (State.stream_putStream_ne _ _ hc.symm).trans (State.stream_putStream_ne v _ hc.symm)

theorem closedBay_keeps : KeepsSetup s (s.closedBay b l) := by
  have h := freeBay_keeps b s
  unfold State.closedBay
  generalize freeBay b s = v at h ⊢
  exact h.trans (by constructor <;> rfl)

theorem closedBay_lanes : (s.closedBay b l).lanes = s.lanes.upd b l := by
  rw [← freeBay_lanes b s]
  unfold State.closedBay
  generalize freeBay b s = v
  rfl

theorem closedBay_lane (c : Bay) : (s.closedBay b l).lane c = if b = c then l else s.lane c := by
  rw [State.lane, closedBay_lanes, Tab.get_upd]
  rfl

theorem closedBay_attention : (s.closedBay b l).attention = s.attention := by
  rw [← freeBay_attention b s]
  unfold State.closedBay
  generalize freeBay b s = v
  rfl

end

theorem loseDrive_gone_of_ready {b : Bay} {s : State} (h : (s.lane b).state = .ready) :
    loseDrive b (s.gone b)
      = searchStart (raiseCause .depart b ((s.closedBay b (closedLane (s.lane b) .absent)).gone b)) := by
  have hready : (s.gone b).isReady b = true := isReady_iff.mpr h
  have hpins : (s.closedBay b (closedLane (s.lane b) .absent)).pins = s.pins := (closedBay_keeps s b (closedLane (s.lane b) .absent)).pins
  rw [loseDrive_of_ready hready]
  show searchStart (raiseCause .depart b _) = searchStart (raiseCause .depart b (State.setPins _ _))
  rw [hpins, State.closedBay, State.gone, freeBay_setPins]
  generalize freeBay b s = v
  rfl

/-- A bay's presence falls on a READY lane: the bay is released and its lane is ABSENT. -/
theorem presenceFall_of_ready {b : Bay} {s : State} (hq : QueueLawful s)
    (h : (s.lane b).state = .ready) :
    let t := readRevisions (loseDrive b (s.gone b))
    KeepsSetup (s.gone b) t ∧ t.lanes = s.lanes.upd b (closedLane (s.lane b) .absent)
      ∧ t.attention = (raiseCause .depart b s).attention
      ∧ ((t.stream b).burstLen = 4 ∧ (t.stream b).lead = min (s.setting b).lead 8)
      ∧ BayReleased b s t := by
  have hself := closedBay_stream_self s b (closedLane (s.lane b) .absent)
  have hbeside := closedBay_beside s b (closedLane (s.lane b) .absent)
  have hkeeps := closedBay_keeps s b (closedLane (s.lane b) .absent)
  have hlanes := closedBay_lanes s b (closedLane (s.lane b) .absent)
  have hattention := closedBay_attention s b (closedLane (s.lane b) .absent)
  rw [loseDrive_gone_of_ready h]
  generalize s.closedBay b _ = v at hself hbeside hkeeps hlanes hattention ⊢
  have hpins : KeepsSetup (s.gone b) (v.gone b) := by
    refine ⟨hkeeps.time, hkeeps.receivers, hkeeps.history, hkeeps.rebuild, hkeeps.settings, hkeeps.store,
      hkeeps.acc, hkeeps.port, ?_, hkeeps.pending⟩
    simp [State.gone, hkeeps.pins]
  refine ⟨hpins.trans ((raiseCause_keeps .depart b _).trans ((searchStart_keeps _).trans
    (readRevisions_keeps _))), ?_, ?_, ?_, ?_⟩
  · show (searchStart _).lanes = _
    rw [searchStart_lanes]
    exact hlanes
  · rw [readRevisions_attention, searchStart_attention, raiseCause, raiseCause, ← hattention]
    rfl
  · rw [readRevisions_stream, State.stream, searchStart_streams]
    show (v.stream b).burstLen = 4 ∧ (v.stream b).lead = _
    rw [hself]
    exact ⟨effectiveBurst_none _, rfl⟩
  · refine bayReleased_of hq ?_
    exact ⟨hbeside.seeks, hbeside.exposure, hbeside.queue, hbeside.engine, hbeside.streams,
      hbeside.stopped⟩

theorem loseDrive_gone_of_unready {b : Bay} {s : State} (h : (s.lane b).state ≠ .ready) :
    loseDrive b (s.gone b) = refreshStream b (raiseCause .depart b
      ((s.gone b).putLane b (closedLane (s.lane b) .absent))) := by
  have hready : (s.gone b).isReady b ≠ true := mt isReady_iff.mp h
  rw [loseDrive, if_neg hready]
  rfl

theorem depart_attention (b : Bay) (s : State) :
    (raiseCause .depart b s).attention = { s.attention with
      pending := s.attention.pending ||| 0x02#8
      sets := s.attention.sets.upd Cause.depart.bit
        (s.attention.sets.get Cause.depart.bit ||| BitVec.twoPow 16 b.val) } :=
  raiseCause_attention (by decide) b s

/-- Settles O27: a READY lane's bay is closed as at a FAULT; of any other only the lane and the effective
values change. -/
theorem presenceFallLosesTheDrive : Obligations.PresenceFallLosesTheDrive := by
  intro s b
  refine ⟨fun h => ?unchanged, fun h hheld => ?held, fun h hheld hq hread =>
    ⟨_, exec_presenceFall_of_present h hheld, ?_⟩⟩
  case unchanged =>
    show Host.Outcome.next (if _ then _ else _) = _
    rw [if_pos (by simp [h])]
  case held =>
    show Host.Outcome.next (if _ then _ else if _ then _ else _) = _
    rw [if_neg (by simp [h]), if_pos hheld]
    rfl
  by_cases hready : (s.lane b).state = .ready
  · obtain ⟨hkeeps, hlanes, hattention, heffective, hreleased⟩ := presenceFall_of_ready hq hready
    refine ⟨hkeeps.eventPart, ?_, fun c hc => ?_, hattention.trans (depart_attention b s), heffective.1,
      heffective.2, fun _ => hreleased, fun h => absurd hready h⟩
    · rw [State.lane, hlanes, Tab.get_upd, if_pos rfl]
      rfl
    · rw [State.lane, hlanes, Tab.get_upd, if_neg hc.symm]
      rfl
  · have hrefreshed : RevisionsRead (loseDrive b (s.gone b)) := by
      rw [loseDrive_gone_of_unready hready]
      exact revisionsRead_refreshStream b hread
    rw [readRevisions_of_read hrefreshed, loseDrive_gone_of_unready hready]
    rw [refreshStream_of_no_caps (congrArg Lane.caps (State.lane_putLane_self (s.gone b) b _))]
    have hself := State.stream_putStream_self (raiseCause .depart b
        ((s.gone b).putLane b (closedLane (s.lane b) .absent))) b
        { s.stream b with burstLen := 4, lead := min (s.setting b).lead 8 }
    exact ⟨rfl, State.lane_putLane_self .., fun c hc => State.lane_putLane_ne (s.gone b) _ hc.symm,
      depart_attention b s, congrArg Stream.burstLen hself, congrArg Stream.lead hself,
      fun h => absurd h hready, fun _ => ⟨rfl, rfl, rfl, rfl, rfl⟩⟩

end Sys2Proof.Machine
end

section
/-! PROOF. The obligations on BAY RESET and on a restart. -/

namespace Sys2Proof.Machine

/-! ## BAY RESET (R42, R160, R173) -/

theorem searchStart_setPort (s : State) (p : Port) :
    searchStart (s.setPort p) = (searchStart s).setPort p := by
  have htry (b : Bay) (q : Pos) : trySeek (s.setPort p) b q = trySeek s b q := rfl
  have hscan := scanQueue_congr htry s.queue
  unfold searchStart
  simp only [State.setPort_engine, State.setPort_rebuild, State.setPort_queue, hscan]
  split <;> rfl

/-- What a bay that is closed with its lane left as `l` shows of it once the search it allows has
started. -/
theorem closedBay_searched {s u : State} {b : Bay} {l : Lane}
    (hlanes : u.lanes = (s.closedBay b l).lanes) (hattention : u.attention = (s.closedBay b l).attention)
    (hstreams : u.streams = (s.closedBay b l).streams) :
    let t := readRevisions (searchStart u)
    t.lane b = l ∧ (∀ c, c ≠ b → t.lane c = s.lane c) ∧ t.attention = s.attention
      ∧ (t.stream b).burstLen = effectiveBurst (s.setting b) l.caps
      ∧ (t.stream b).lead = effectiveStreamLead (s.setting b) l.caps := by
  have hlane := closedBay_lane s b l
  have hself := closedBay_stream_self s b l
  have hcauses := closedBay_attention s b l
  generalize s.closedBay b l = v at hlanes hattention hstreams hlane hself hcauses
  have hkept (c : Bay) : (readRevisions (searchStart u)).lane c = if b = c then l else s.lane c := by
    rw [readRevisions_lane, State.lane, searchStart_lanes, hlanes]
    exact hlane c
  refine ⟨(hkept b).trans (if_pos rfl), fun c hc => (hkept c).trans (if_neg hc.symm), ?_, ?_, ?_⟩
  · rw [readRevisions_attention, searchStart_attention, hattention, hcauses]
  all_goals
    rw [readRevisions_stream, State.stream, searchStart_streams, hstreams]
  · exact congrArg Stream.burstLen hself
  · exact congrArg Stream.lead hself

/-- The state of bay `b` after BAY RESET, but for the search it allows. -/
def State.resetBeside (s : State) (b : Bay) : State :=
  (clearRow b (clearHistory b (s.closedBay b (resetLane (s.lane b))))).setPort
    (s.port.answer 0xAE#8 [0x00#8, BitVec.ofNat 8 b.val])

theorem resetBeside_blocks (s : State) (b : Bay) :
    (s.resetBeside b).lanes = (s.closedBay b (resetLane (s.lane b))).lanes
      ∧ (s.resetBeside b).attention = (s.closedBay b (resetLane (s.lane b))).attention
      ∧ (s.resetBeside b).streams = (s.closedBay b (resetLane (s.lane b))).streams := by
  unfold State.resetBeside
  generalize s.closedBay b _ = v
  exact ⟨rfl, rfl, rfl⟩

theorem resetBay_closed (b : Bay) (s : State) : resetBay b s
    = readRevisions (searchStart (clearRow b (clearHistory b (s.closedBay b (resetLane (s.lane b)))))) :=
  resetBay_eq b s

theorem exec_bayReset_of_taken {s : State} (b : Bay) (h : s.portTakes = true) :
    exec (.bayReset b) s = .next (readRevisions (searchStart (s.resetBeside b))) := by
  have hport : (s.closedBay b (resetLane (s.lane b))).port = s.port := (closedBay_keeps s b _).port
  show Host.Outcome.next (if _ then _ else _) = _
  rw [if_pos h, State.resetBeside, searchStart_setPort, ← hport]
  dsimp only
  rw [resetBay_closed]
  generalize s.closedBay b _ = v
  have hkeeps := searchStart_keeps (clearRow b (clearHistory b v))
  generalize searchStart _ = u at hkeeps
  show Host.Outcome.next ((readRevisions u).setPort (u.port.answer _ _)) = _
  rw [hkeeps.port]
  rfl

/-- Settles O48: the bay is closed as by any release, in the state its presence gives. -/
theorem bayResetReleasesTheBay : Obligations.BayResetReleasesTheBay := by
  intro s b htakes hq
  have hbeside := closedBay_beside s b (resetLane (s.lane b))
  have hkeeps := closedBay_keeps s b (resetLane (s.lane b))
  obtain ⟨hbesideLanes, hbesideAttention, hbesideStreams⟩ := resetBeside_blocks s b
  obtain ⟨hlane, hlanes, hattention, hburst, hlead⟩ :=
    closedBay_searched hbesideLanes hbesideAttention hbesideStreams
  refine ⟨_, exec_bayReset_of_taken b htakes, ?frame, hlane, hlanes, hattention,
    hburst.trans (effectiveBurst_none _), hlead, ?released⟩
  all_goals
    unfold State.resetBeside
    generalize s.closedBay b _ = v at hbeside hkeeps ⊢
  case frame =>
    have hset : KeepsSetup (((s.setHistory (s.history.upd b (Tab.fill 72 0))).setAcc
        (s.acc.upd b (Tab.fill 16 0))).setPort (s.port.answer 0xAE#8 [0x00#8, BitVec.ofNat 8 b.val]))
        ((clearRow b (clearHistory b v)).setPort
          (s.port.answer 0xAE#8 [0x00#8, BitVec.ofNat 8 b.val])) := by
      refine ⟨hkeeps.time, hkeeps.receivers, ?_, hkeeps.rebuild, hkeeps.settings, hkeeps.store, ?_, rfl,
        hkeeps.pins, hkeeps.pending⟩
      · exact congrArg (Tab.upd · b _) hkeeps.history
      · exact congrArg (Tab.upd · b _) hkeeps.acc
    exact (hset.trans ((searchStart_keeps _).trans (readRevisions_keeps _))).eventPart
  case released =>
    exact bayReleased_of hq ⟨hbeside.seeks, hbeside.exposure, hbeside.queue, hbeside.engine,
      hbeside.streams, hbeside.stopped⟩

/-! ## A restart (R41, R154, R155) -/

theorem leNat_four (i0 i1 i2 i3 : Byte) :
    BitVec.ofNat 32 (leNat [i0, i1, i2, i3]) = i3 ++ i2 ++ i1 ++ i0 := by
  apply BitVec.eq_of_toNat_eq
  rw [BitVec.toNat_append, BitVec.toNat_append, BitVec.toNat_append, Nat.shiftLeft_eq, Nat.shiftLeft_eq,
    Nat.shiftLeft_eq, mul_comm, mul_comm _ (2 ^ 8), mul_comm _ (2 ^ 8),
    ← Nat.two_pow_add_eq_or_of_lt i2.isLt, ← Nat.two_pow_add_eq_or_of_lt i1.isLt,
    ← Nat.two_pow_add_eq_or_of_lt i0.isLt]
  simp only [leNat, BitVec.toNat_ofNat]
  omega

/-- What an acceptable HELLO declares (R150, R154). -/
theorem capsOf_hello (mb ml i0 i1 i2 i3 : Byte) : capsOf [1, mb, ml, i0, i1, i2, i3]
    = { protocol := 1, maxBurst := if mb = 8 then 8 else 4, maxLead := max 8 (min 64 ml.toNat)
        identity := i3 ++ i2 ++ i1 ++ i0 } := by
  rw [← leNat_four]
  rfl

theorem effectiveBurst_some (x : Setting) (c : Caps) (mb : Byte)
    (h : c.maxBurst = if mb = 8 then 8 else 4) :
    effectiveBurst x (some c) = if x.burst = 8 ∧ mb = 8 then 8 else 4 := by
  have hmax : (if mb = 8 then 8 else 4) = 8 ↔ mb = 8 := by
    split <;> simp_all
  simp only [effectiveBurst, Option.map_some, Option.getD_some, h, hmax]

/-- The lane that a restart leaves: READY with the new capabilities, its WELCOME alone to send. -/
def restartedLane (l : Lane) (caps : Caps) (welcome : Frame) : Lane :=
  { readyLane l caps with queue := [welcome] }

/-- The WELCOME of bay `b` with the effective values of `caps` (R154). -/
def State.restartWelcome (s : State) (b : Bay) (caps : Caps) : Frame :=
  .welcome b s.time.divisor s.now (effectiveBurst (s.setting b) (some caps))
    (effectiveStreamLead (s.setting b) (some caps))

theorem State.restartWelcome_eq {s t : State} (hsettings : t.settings = s.settings)
    (htime : t.time = s.time) (b : Bay) (caps : Caps) : t.restartWelcome b caps = s.restartWelcome b caps := by
  simp only [State.restartWelcome, State.setting, State.now, hsettings, htime]

/-- The effective values are those of the capabilities, whatever else the lane holds. -/
theorem refreshStream_putLane {s : State} {b : Bay} {l m : Lane} (h : l.caps = m.caps) :
    refreshStream b (s.putLane b l) = (refreshStream b (s.putLane b m)).putLane b l := by
  simp only [refreshStream, State.lane_putLane_self, h]
  exact congrArg (State.putStream · b _) (putLane_putLane s b m l).symm

/-- A lane's admission with room for its WELCOME. -/
theorem admitDrive_of_room {b : Bay} {s : State} (caps : Caps) (h : (s.lane b).queue.length < 32) :
    admitDrive b caps s = refreshStream b (s.putLane b { readyLane (s.lane b) caps with
      queue := (s.lane b).queue ++ [s.restartWelcome b caps] }) := by
  have hlane : (refreshStream b (s.putLane b (readyLane (s.lane b) caps))).lane b
      = readyLane (s.lane b) caps := by
    rw [refreshStream_lane, State.lane_putLane_self]
  have hwelcome : (refreshStream b (s.putLane b (readyLane (s.lane b) caps))).welcomeFrame b
      = s.restartWelcome b caps := by
    rw [State.welcomeFrame, refreshStream, State.stream_putStream_self, State.lane_putLane_self]
    rfl
  rw [admitDrive, sendFrame, handThen_of_room (by rwa [hlane]), id_eq, hlane, hwelcome]
  exact (refreshStream_putLane (by rfl)).symm

/-- A restart with the lane written last, once its bay is free and its stream OFF. -/
theorem restartDrive_goodFrame (b : Bay) (caps : Caps) (s : State) :
    restartDrive b caps (goodFrame b s)
      = searchStart (s.closedBay b (restartedLane (s.lane b) caps (s.restartWelcome b caps))) := by
  have hkeeps := freeBay_keeps b s
  rw [restartDrive, goodFrame, State.lane_putLane_self, putLane_putLane, freeBay_putLane, State.closedBay,
    ← State.restartWelcome_eq hkeeps.settings hkeeps.time]
  generalize freeBay b s = v
  have hlane : (stopStream b (v.putLane b { s.lane b with bad := 0, queue := [] })).lane b
      = { s.lane b with bad := 0, queue := [] } := by
    rw [stopStream_lane, State.lane_putLane_self]
  have hroom := Nat.zero_lt_succ 31
  rw [admitDrive_of_room caps (by rw [hlane]; exact hroom), hlane]
  have hput : stopStream b (v.putLane b { s.lane b with bad := 0, queue := [] })
      = (stopStream b v).putLane b { s.lane b with bad := 0, queue := [] } := rfl
  rw [hput, putLane_putLane]
  rfl

/-- Settles O31: the bay is closed as by any release, its lane left READY. -/
theorem helloRestartsTheDrive : Obligations.HelloRestartsTheDrive := by
  intro s b mb ml i0 i1 i2 i3 hready hq caps bl lead
  have hcaps : capsOf [1, mb, ml, i0, i1, i2, i3] = caps := capsOf_hello mb ml i0 i1 i2 i3
  have hbl : effectiveBurst (s.setting b) (some caps) = bl := effectiveBurst_some (s.setting b) caps mb rfl
  have hwelcome : s.restartWelcome b caps = .welcome b s.time.divisor s.now bl lead := by
    rw [State.restartWelcome, hbl]
    rfl
  have hexec : exec (.hello b [1, mb, ml, i0, i1, i2, i3]) s
      = .next (readRevisions (searchStart (s.closedBay b (restartedLane (s.lane b) caps
          (.welcome b s.time.divisor s.now bl lead))))) := by
    have hunabsent : (s.lane b).state ≠ .absent := by simp [hready]
    have hgood : (goodFrame b s).isReady b = true := isReady_iff.mpr (by rwa [goodFrame_lane_state])
    show Host.Outcome.next (if _ then _ else _) = _
    rw [if_neg hunabsent, takeHello, if_neg (by simp [byteAt]), if_pos hgood, hcaps,
      restartDrive_goodFrame, hwelcome]
  obtain ⟨hlane, hlanes, hattention, hburst, hlead⟩ := closedBay_searched (s := s) (b := b)
    (l := restartedLane (s.lane b) caps (.welcome b s.time.divisor s.now bl lead)) (Eq.refl _) (Eq.refl _)
    (Eq.refl _)
  exact ⟨_, hexec, ((closedBay_keeps ..).trans ((searchStart_keeps _).trans
    (readRevisions_keeps _))).eventPart, hlane, hlanes, hattention, hburst.trans hbl, hlead,
    bayReleased_of hq (closedBay_beside ..)⟩

end Sys2Proof.Machine
end

section
/-! PROOF. The completion of a search (R74, R76, R77): CompletedSearchGrants. -/

namespace Sys2Proof.Machine

/-! ## The steps of a grant -/

/-- An addition reads the table, the rebuild, the slot and the active table alone. -/
theorem addExposure_at (b : Bay) (r : Seek) (s : State) (c : Bay) (i : Fin 64) :
    (addExposure b r s).exposureAt c i =
      if s.rebuild.isSome then s.exposureAt c i
      else s.exposureAt c i + s.loadOn b r c (slotAt s.slot i) :=
  changeExposure_at ..

theorem addExposure_congr {s t : State} (h : KeepsSetup s t) (he : t.exposure = s.exposure)
    (b : Bay) (r : Seek) : (addExposure b r t).exposure = (addExposure b r s).exposure := by
  refine Tab.ext_get fun c => Tab.ext_get fun i => ?_
  refine (addExposure_at b r t c i).trans (Eq.trans ?_ (addExposure_at b r s c i).symm)
  rw [h.rebuild, h.slot, h.loadOn, State.exposureAt, he]
  rfl

/-- The FORCED_GRANT of a record that is OVER or DELAYED (R77). -/
def State.forcedGrant (s : State) (b : Bay) (g : Seek) : Attention :=
  let m := g.markers.getD ⟨false, false⟩
  if m.overLimit || m.delayed then (raiseCause .forcedGrant b s).attention else s.attention

/-- The state of a grant before the search it allows. -/
def State.grantAt (s : State) (b : Bay) (p : Pos) (g : Seek) : State :=
  (((((s.putSeek b p (some g)).setExposure (addExposure b g s).exposure).setQueue
    (s.queue.filter fun e => (e.bay, e.pos) ≠ (b, p))).setEngine none).setStreams
    (publishWhole b g s).streams).setAttention (s.forcedGrant b g)

theorem grantSteps_eq (b : Bay) (p : Pos) (g : Seek) (s : State) :
    grantSteps b p g s = searchStart (s.grantAt b p g) := by
  unfold grantSteps
  rw [dequeue_eq]
  dsimp only
  generalize hx : ((s.putSeek b p (some g)).setQueue ((s.putSeek b p (some g)).queue.filter
    fun e => (e.bay, e.pos) ≠ (b, p))).setEngine none = x
  have hkeeps : KeepsSetup s x := by
    rw [← hx]
    constructor <;> rfl
  have hexposure : addExposure b g x = x.setExposure (addExposure b g s).exposure := by
    rw [← addExposure_congr hkeeps (by rw [← hx]; rfl)]
    exact changeExposure_eq ..
  have hstreams : publishWhole b g (x.setExposure (addExposure b g s).exposure)
      = (x.setExposure (addExposure b g s).exposure).setStreams (publishWhole b g s).streams := by
    refine (forecastChange_eq ..).trans (congrArg (State.setStreams _) ?_)
    exact forecastChange_streams_congr (by rw [← hx]; rfl) hkeeps.time hkeeps.store ..
  rw [hexposure, hstreams, State.grantAt, State.forcedGrant, ← hx]
  congr 1
  split <;> rfl

/-! ## The queue's law (R64, R66, R67) -/

/-- A search that a start takes is on a posted seek and has a candidate. -/
theorem queueLawful_searchStart {s : State} (hnodup : (s.queue.map fun e => (e.bay, e.pos)).Nodup)
    (hposted : ∀ b p, (b, p) ∈ (s.queue.map fun e => (e.bay, e.pos)) ↔ s.isPosted b p = true)
    (hengine : s.engine = none) : QueueLawful (searchStart s) := by
  have hisPosted (b : Bay) (p : Pos) : (searchStart s).isPosted b p = s.isPosted b p := by
    rw [State.isPosted, State.seekAt, searchStart_seeks]
    rfl
  refine ⟨by rwa [searchStart_places], fun b p => ?_, fun sr hsr => ?_⟩
  · rw [searchStart_places, hisPosted]
    exact hposted b p
  · rw [hisPosted]
    unfold searchStart at hsr
    split at hsr
    · obtain ⟨e, he, -, htry⟩ := scanQueue_some s s.queue sr hsr
      obtain ⟨r, -, rfl, hcandidates⟩ := trySeek_some htry
      exact ⟨(hposted e.bay e.pos).mp (List.mem_map_of_mem (f := fun e => (e.bay, e.pos)) he), hcandidates⟩
    · rw [hengine] at hsr
      cases hsr

theorem queueLawful_grantSteps {s : State} {b : Bay} {p : Pos} {g : Seek} (hq : QueueLawful s)
    (hg : g.state ≠ .posted) : QueueLawful (grantSteps b p g s) := by
  have hplaces : ((s.grantAt b p g).queue.map fun e => (e.bay, e.pos))
      = (s.queue.map fun e => (e.bay, e.pos)).filter (· ≠ (b, p)) := by
    show (s.queue.filter _).map _ = _
    rw [List.filter_map]
    rfl
  rw [grantSteps_eq]
  refine queueLawful_searchStart ?_ (fun c q => ?_) rfl
  · rw [hplaces]
    exact hq.1.filter _
  · rw [hplaces, List.mem_filter, hq.2.1 c q]
    show _ ↔ ((s.putSeek b p (some g)).seekAt c q).any _ = true
    rw [State.seekAt_putSeek]
    by_cases h : b = c ∧ p = q
    · obtain ⟨rfl, rfl⟩ := h
      simp [hg]
    · have hne : ¬ (c, q) = (b, p) := fun he => h ⟨(Prod.mk.inj he).1.symm, (Prod.mk.inj he).2.symm⟩
      rw [if_neg h, decide_eq_true hne, and_iff_left rfl]
      rfl

/-! ## The completion of a search -/

theorem exec_searchComplete_of_chosen {s : State} {sr : Search} {r : Seek} {c : Slot} {o : Bool}
    (hsr : s.engine = some sr) (hr : s.seekAt sr.bay sr.pos = some r) (hc : chooseSlot sr = some (c, o))
    (hnear : atOrBefore (s.slot + 2) c = true) :
    exec .searchComplete s = .next (readRevisions (handThen sr.bay (grantFrame (grantedSeek r c o))
      (grantSteps sr.bay sr.pos (grantedSeek r c o)) s)) := by
  show Host.Outcome.next (completeSearch s) = _
  unfold completeSearch
  simp only [hsr, hr, hc, hnear, if_true]

theorem forcedGrant_grantedSeek (s : State) (b : Bay) (r : Seek) (c : Slot) (o : Bool) :
    s.forcedGrant b (grantedSeek r c o) = if o || earlier r.latest c then
      { s.attention with
        pending := s.attention.pending ||| 0x08#8
        sets := s.attention.sets.upd Cause.forcedGrant.bit
          (s.attention.sets.get Cause.forcedGrant.bit ||| BitVec.twoPow 16 b.val) }
      else s.attention := by
  unfold State.forcedGrant
  rw [raiseCause_attention (by decide)]
  rfl

theorem grantAt_keeps (s : State) (b : Bay) (p : Pos) (g : Seek) : KeepsSetup s (s.grantAt b p g) := by
  constructor <;> rfl

/-- Settles O17: the steps of a grant are one change of the state and then the search it allows. -/
theorem completedSearchGrants : Obligations.CompletedSearchGrants := by
  intro s sr r c o hsr hr hc hnear hroom late g
  refine ⟨_, (exec_searchComplete_of_chosen hsr hr hc hnear).trans
    (congrArg _ (congrArg _ (handThen_of_room hroom))), ?_⟩
  rw [grantSteps_eq]
  generalize hu : s.putLane sr.bay _ = u
  have hkeeps : KeepsSetup s u := by
    rw [← hu]
    constructor <;> rfl
  have hlane (b : Bay) : (readRevisions (searchStart (u.grantAt sr.bay sr.pos (grantedSeek r c o)))).lane b
      = u.lane b := by
    rw [readRevisions_lane, State.lane, searchStart_lanes]
    rfl
  have hseekAt (b : Bay) (p : Pos) :
      (readRevisions (searchStart (u.grantAt sr.bay sr.pos (grantedSeek r c o)))).seekAt b p
        = if sr.bay = b ∧ sr.pos = p then some g else s.seekAt b p := by
    rw [readRevisions_seekAt, State.seekAt, searchStart_seeks]
    refine (State.seekAt_putSeek u sr.bay b sr.pos p (some g)).trans ?_
    rw [← hu]
    rfl
  refine ⟨?frame, ?seek, fun b p hne => ?seeks, ?lane, fun b hb => ?lanes, ?queue, fun b i => ?exposure,
    ?search, ?published, ?attention⟩
  case frame =>
    exact (hkeeps.trans ((grantAt_keeps u sr.bay sr.pos _).trans ((searchStart_keeps _).trans
      (readRevisions_keeps _)))).eventPart
  case seek => exact (hseekAt ..).trans (if_pos ⟨rfl, rfl⟩)
  case seeks =>
    exact (hseekAt b p).trans (if_neg fun h => hne (Prod.ext h.1.symm h.2.symm))
  case lane =>
    rw [hlane, ← hu, State.lane_putLane_self]
    rfl
  case lanes =>
    rw [hlane, ← hu, State.lane_putLane_ne _ _ hb.symm]
  case queue =>
    rw [readRevisions_queue, searchStart_places, ← hu]
    show (s.queue.filter _).map _ = _
    rw [List.filter_map]
    rfl
  case exposure =>
    rw [readRevisions_exposureAt, State.exposureAt, searchStart_eq]
    show (addExposure sr.bay g u).exposureAt b i = _
    rw [addExposure_at, hkeeps.rebuild, hkeeps.slot, hkeeps.loadOn, ← hu]
    rfl
  case search =>
    rw [← hu]
    exact congrArg Host.Outcome.next (readRevisions_searchStart_undo _)
  case published =>
    refine changePublished_readRevisions ?_
    rw [searchStart_streams]
    show (publishWhole sr.bay g u).streams = _
    exact forecastChange_streams_congr (by rw [← hu]; rfl) hkeeps.time hkeeps.store ..
  case attention =>
    rw [readRevisions_attention, searchStart_attention]
    show u.forcedGrant sr.bay _ = _
    rw [forcedGrant_grantedSeek, ← hu]
    rfl

end Sys2Proof.Machine
end

section
/-! PROOF. COMMIT and ABORT: CommitBindsTheGrantedSeek and AbortWithdrawsTheSeek. -/

namespace Sys2Proof.Machine

/-! ## The tag a frame names -/

section
variable {s : State} {b : Bay} {x : Byte} {p : Pos} {r : Seek}

theorem goodFrame_findTag_of_seekAt (htags : TagsLawful s) (hr : s.seekAt b p = some r) :
    (goodFrame b s).findTag b r.tag = some (p, r) := by
  show s.findTag b r.tag = _
  exact findTag_of_seekAt htags hr

theorem goodFrame_findTag_none {tag : Tag} (h : ∀ p r, s.seekAt b p = some r → r.tag ≠ tag) :
    (goodFrame b s).findTag b tag = none := by
  show s.findTag b tag = _
  exact findTag_eq_none_iff.mpr h

/-! ## COMMIT (R20, R21) -/

/-- Bay `b`'s seek at position `p` bound by a COMMIT (R20). -/
def bindSeek (b : Bay) (p : Pos) (r : Seek) (s : State) : State :=
  s.putSeek b p (some { r with state := .committed })

/-- What a COMMIT is answered where it binds nothing (R20, R21). -/
def commitReply (s : State) (b : Bay) (tag : Tag) : Frame :=
  match s.findTag b tag with
  | some (_, r) => if r.state = .posted then .refuse (some tag) .notGranted kindCommit
      else .confirm tag r.launchAt
  | none => if (s.lane b).lastExpired = some tag then .tardy tag else .refuse (some tag) .noSeek kindCommit

theorem takeCommitTag_granted {tag : Tag} (hfind : s.findTag b tag = some (p, r))
    (hstate : r.state = .granted) :
    takeCommitTag b tag s = handThen b (.confirm tag r.launchAt) (bindSeek b p r) s := by
  simp only [takeCommitTag, hfind, hstate]
  rfl

/-- A COMMIT that finds no GRANTED seek of its tag is answered by a frame alone. -/
theorem takeCommitTag_other {tag : Tag} (h : ∀ p r, s.findTag b tag = some (p, r) → r.state ≠ .granted) :
    takeCommitTag b tag s = sendFrame b (commitReply s b tag) s := by
  unfold takeCommitTag commitReply
  cases hfind : s.findTag b tag with
  | none =>
    dsimp only
    split <;> rfl
  | some found =>
    obtain ⟨p, r⟩ := found
    have hgranted := h p r hfind
    cases hstate : r.state with
    | granted => exact absurd hstate hgranted
    | posted | committed | running | tail =>
      simp only [hstate]
      rfl

theorem exec_commit_of_ready (h : (s.lane b).state = .ready) : exec (.commit b [x]) s
    = .next (readRevisions (takeCommitTag b (x.extractLsb' 0 4) (goodFrame b s))) := by
  rw [← tagOf_eq_extractLsb']
  show Host.Outcome.next (readRevisions (receiveFrame ..)) = _
  rw [receiveFrame_of_ready h kindCommit rfl]
  rfl

/-- A frame handed with room is all that a COMMIT or an ABORT that sends it changes of the lane. -/
theorem handThen_goodFrame {f : Frame} {rest : State → State} (hroom : s.hasRoom b 1) :
    handThen b f rest (goodFrame b s)
      = rest (s.putLane b { s.lane b with bad := 0, queue := (s.lane b).queue ++ [f] }) := by
  have hgood : ((goodFrame b s).lane b).queue.length < 32 := by
    rw [goodFrame_queue]
    exact hroom
  rw [handThen_of_room hgood, goodFrame, State.lane_putLane_self, putLane_putLane]

theorem exec_commit_replied (h : (s.lane b).state = .ready) (hroom : s.hasRoom b 1)
    (hread : RevisionsRead s)
    (hother : ∀ p r, (goodFrame b s).findTag b (x.extractLsb' 0 4) = some (p, r) → r.state ≠ .granted) :
    exec (.commit b [x]) s = .next (s.putLane b { s.lane b with
      bad := 0, queue := (s.lane b).queue ++ [commitReply (goodFrame b s) b (x.extractLsb' 0 4)] }) := by
  rw [exec_commit_of_ready h, takeCommitTag_other hother, sendFrame, handThen_goodFrame hroom]
  exact congrArg _ (readRevisions_of_streams (s := s) hread rfl)

end

/-- Settles O35, by the state of the seek that the COMMIT names. -/
theorem commitBindsTheGrantedSeek : Obligations.CommitBindsTheGrantedSeek := by
  intro s b x hready hroom hread htags tag replied
  refine ⟨fun p r hr htag => ?live, fun hnone => ?dead⟩
  case live =>
    have hfind := goodFrame_findTag_of_seekAt htags hr
    have hother (h : r.state ≠ .granted) : exec (.commit b [x]) s
        = .next (replied (commitReply (goodFrame b s) b tag)) := by
      refine exec_commit_replied hready hroom hread fun q y hy => ?_
      obtain ⟨rfl, rfl⟩ := Prod.mk.inj (Option.some.inj (hy.symm.trans (htag ▸ hfind)))
      exact h
    have hreply : commitReply (goodFrame b s) b tag = if r.state = .posted then
        .refuse (some tag) .notGranted kindCommit else .confirm tag r.launchAt := by
      rw [commitReply, ← htag, hfind]
    rw [hreply] at hother
    refine ⟨fun hstate => ?_, fun hstate => ?_, fun hstate => ?_⟩
    · rw [htag] at hfind
      rw [exec_commit_of_ready hready, takeCommitTag_granted hfind hstate, handThen_goodFrame hroom]
      exact congrArg _ (readRevisions_of_streams (s := s) hread rfl)
    · exact (hother (by simp [hstate])).trans (by rw [if_pos hstate]; rfl)
    · have hpast : r.state ≠ .granted ∧ r.state ≠ .posted := by
        obtain h | h | h := hstate <;> simp [h]
      exact (hother hpast.1).trans (by rw [if_neg hpast.2])
  case dead =>
    have hfind := goodFrame_findTag_none hnone
    have hreply : commitReply (goodFrame b s) b tag = if (s.lane b).lastExpired = some tag then
        .tardy tag else .refuse (some tag) .noSeek kindCommit := by
      rw [commitReply, hfind, goodFrame, State.lane_putLane_self]
    refine (exec_commit_replied hready hroom hread fun p r h => nomatch h.symm.trans hfind).trans ?_
    show Host.Outcome.next (replied (commitReply (goodFrame b s) b tag)) = _
    rw [hreply]
    rfl

/-! ## ABORT (R27 to R30) -/

theorem exec_abort_of_ready {s : State} {b : Bay} (x : Byte) (h : (s.lane b).state = .ready) :
    exec (.abort b [x]) s
      = .next (readRevisions (takeAbortTag b (x.extractLsb' 0 4) (goodFrame b s))) := by
  rw [← tagOf_eq_extractLsb']
  show Host.Outcome.next (readRevisions (receiveFrame ..)) = _
  rw [receiveFrame_of_ready h kindAbort rfl]
  rfl

section
variable {s : State} {b : Bay} {tag : Tag} {p : Pos} {r : Seek} (hfind : s.findTag b tag = some (p, r))
include hfind

/-- The state of an ABORT of a POSTED seek before the search it allows (R28, R78). -/
def withdrawnState (b : Bay) (p : Pos) (s : State) : State :=
  ((s.putSeek b p none).setQueue (s.queue.filter fun e => (e.bay, e.pos) ≠ (b, p))).setEngine
    (s.engine.filter fun sr => (sr.bay, sr.pos) ≠ (b, p))

theorem takeAbortTag_posted (h : r.state = .posted) :
    takeAbortTag b tag s = searchStart (withdrawnState b p s) := by
  simp only [takeAbortTag, hfind, h, abandonSearch_eq, dequeue_eq]
  rfl

/-- The state of an ABORT of a granted seek not yet launched (R28, R38, R53). -/
def abortedState (b : Bay) (p : Pos) (r : Seek) (s : State) : State :=
  ((s.putSeek b p none).setExposure (removeExposure b r s).exposure).setStreams (publishWhole b r s).streams

theorem takeAbortTag_granted (h : r.state = .granted ∨ r.state = .committed) :
    takeAbortTag b tag s = abortedState b p r s := by
  have htake : takeAbortTag b tag s = publishWhole b r (removeExposure b r (s.putSeek b p none)) := by
    obtain h | h := h <;> simp only [takeAbortTag, hfind, h]
  have hkeeps : KeepsSetup s (s.putSeek b p none) := by constructor <;> rfl
  rw [htake, removeExposure_eq, removeExposure_congr hkeeps rfl]
  refine (forecastChange_eq ..).trans (congrArg (State.setStreams _) ?_)
  exact forecastChange_streams_congr rfl rfl rfl ..

theorem takeAbortTag_ignored (h : r.state = .tail ∨ r.state = .running ∧ r.abortIndex.isSome) :
    takeAbortTag b tag s = s := by
  obtain h | ⟨h, hcut⟩ := h
  · simp only [takeAbortTag, hfind, h]
  · simp only [takeAbortTag, hfind, h, if_pos hcut]

end

/-- Settles O36, by the state of the seek that the ABORT names. -/
theorem abortWithdrawsTheSeek : Obligations.AbortWithdrawsTheSeek := by
  intro s b x hready hread htags tag heard
  have hexec := exec_abort_of_ready x hready
  have hheard : goodFrame b s = heard := rfl
  refine ⟨fun p r hr htag => ?live, fun hnone hroom => ?dead⟩
  case dead =>
    have hfind := goodFrame_findTag_none hnone
    have htake : takeAbortTag b tag (goodFrame b s)
        = sendFrame b (.refuse (some tag) .noSeek kindAbort) (goodFrame b s) := by
      simp only [takeAbortTag, hfind]
      rfl
    rw [hexec, htake, sendFrame, handThen_goodFrame hroom]
    exact congrArg _ (readRevisions_of_streams (s := s) hread rfl)
  case live =>
    have hfind : (goodFrame b s).findTag b tag = some (p, r) :=
      htag ▸ goodFrame_findTag_of_seekAt htags hr
    rw [hheard] at hexec hfind
    refine ⟨fun hstate => ?posted, fun hstate => ?granted, fun hstate => ?ignored⟩
    case ignored =>
      rw [hexec, takeAbortTag_ignored hfind hstate]
      exact congrArg _ (readRevisions_of_streams (s := s) (t := heard) hread rfl)
    case posted =>
      have hread : RevisionsRead (searchStart (withdrawnState b p heard)) :=
        revisionsRead_of_streams (s := s) (by rw [searchStart_streams]; rfl) hread
      have hqueue : ∀ e ∈ (withdrawnState b p heard).queue, (e.bay, e.pos) ≠ (b, p) := fun e he =>
        of_decide_eq_true (List.mem_filter.mp (show e ∈ s.queue.filter _ from he)).2
      have hengine : ∀ sr, (withdrawnState b p heard).engine = some sr → (sr.bay, sr.pos) ≠ (b, p) :=
        fun sr hsr =>
          of_decide_eq_true (Option.filter_eq_some_iff.mp (show s.engine.filter _ = _ from hsr)).2
      rw [hexec, takeAbortTag_posted hfind hstate, readRevisions_of_read hread]
      refine ⟨_, rfl, searchStart_eq _, ?_, fun sr hsr hne => ?_, fun sr hsr => ?_, ?_⟩
      · rw [searchStart_places]
        show (s.queue.filter _).map _ = _
        rw [List.filter_map]
        rfl
      · have hkept : (withdrawnState b p heard).engine = some sr :=
          Option.filter_eq_some_iff.mpr ⟨hsr, decide_eq_true hne⟩
        rw [searchStart_of_searching hkept, hkept]
      · exact searchStart_engine_place (P := (· ≠ (b, p))) hsr hengine hqueue
      · exact congrArg (exec .searchStart) (searchStart_undo (withdrawnState b p heard))
    case granted =>
      rw [hexec, takeAbortTag_granted hfind hstate]
      refine ⟨_, rfl, rfl, fun c i => removeExposure_at b r heard c i, ?_⟩
      exact changePublished_readRevisions (forecastChange_streams_congr rfl rfl rfl ..)

end Sys2Proof.Machine
end

section
/-! PROOF. The sample boundary without overdue work: what it does whatever the order of the duties, and
what each duty does. HistoryGainsTheNewSample and MidSlotBoundary. -/

namespace Sys2Proof.Machine

/-! ## No overdue work (R59, R75, R102, R109) -/

section
variable {s : State} (h : NothingOverdue s)
include h

theorem overdueBurst_of_nothing (b : Bay) : overdueBurst s b = s := by
  unfold overdueBurst
  split
  · next x hx => exact if_pos (h.1 b x hx)
  · rfl

theorem overdueRevisions_of_nothing (b : Bay) : overdueRevisions s b = s := by
  have hnone : (s.stream b).revisions.filter (fun v => v.start != s.now) = [] :=
    List.filter_eq_nil_iff.mpr fun v hv => by simp [h.2.1 b v hv]
  rw [overdueRevisions, hnone]
  rfl

theorem overdueSearch_of_nothing : overdueSearch s = s := by
  unfold overdueSearch
  split
  · next sr hsr => exact if_neg (by simpa [eighthBoundary] using h.2.2.1 sr hsr)
  · rfl

theorem overdueRebuild_of_nothing (order : List Duty) : overdueRebuild order s = s := by
  unfold overdueRebuild
  split
  · next m hm => exact if_neg (by simpa [eighthBoundary] using h.2.2.2 m hm)
  · rfl

theorem completeOverdue_of_nothing (order : List Duty) : completeOverdue order s = s := by
  rw [completeOverdue, List.foldl_fixed' (overdueBurst_of_nothing h),
    List.foldl_fixed' (overdueRevisions_of_nothing h), overdueSearch_of_nothing h,
    overdueRebuild_of_nothing h]

/-- The boundary that follows a state with nothing overdue. -/
theorem exec_sampleBoundary_of_nothing (hheld : s.pins.resetHeld = false) (order : List Duty) :
    exec (.sampleBoundary order) s
      = .next (boundaryDuties s.time.pendingDivisor.isSome order (advanceSample s)) := by
  show Host.Outcome.next (if _ then _ else _) = _
  rw [if_neg (by simp [hheld]), takeBoundary, completeOverdue_of_nothing h]

theorem exec_slotStart_of_nothing (hheld : s.pins.resetHeld = false) (hslot : s.slotStartNext = true)
    (order : List Duty) : exec (.slotStart order) s
      = .next (boundaryDuties s.time.pendingDivisor.isSome order (advanceSample s)) := by
  show Host.Outcome.next (if _ then _ else _) = _
  rw [if_pos (by simp [hheld, hslot]), takeBoundary, completeOverdue_of_nothing h]

end

/-! ## What no duty changes -/

theorem takeCommit_history (s : State) : (takeCommit s).history = s.history := by
  unfold takeCommit
  split <;> rfl

theorem takeCommit_time (s : State) : (takeCommit s).time = s.time := by
  unfold takeCommit
  split <;> rfl

theorem advanceEpoch_time_history (s : State) :
    (advanceEpoch s).time = s.time ∧ (advanceEpoch s).history = s.history := by
  unfold advanceEpoch
  split
  · exact ⟨rfl, rfl⟩
  · split
    · exact ⟨rfl, rfl⟩
    · exact ⟨takeCommit_time _, takeCommit_history _⟩

/-- A duty other than the epoch's changes lanes, seeks, exposure, queue, engine, streams and attention
alone. -/
theorem runDuty_keeps (changed : Bool) (s : State) {d : Duty} (hd : d ≠ .epoch) :
    KeepsSetup s (runDuty changed s d) := by
  cases d with
  | epoch => exact absurd rfl hd
  | seek b => exact .ite (.foldl (launchOrExpire_keeps b) positions s) (.refl s)
  | stream b => exact burstDuty_keeps b s
  | search => exact .ite (KeepsSetup.trans (by constructor <;> rfl) (searchStart_keeps _)) (.refl s)
  | welcome b => exact .ite (.ite (sendFrame_keeps ..) (.refl s)) (.refl s)
  | mark b => exact .ite (.ite (sendFrame_keeps ..) (.refl s)) (.refl s)

theorem runDuty_time_history (changed : Bool) (s : State) (d : Duty) :
    (runDuty changed s d).time = s.time ∧ (runDuty changed s d).history = s.history := by
  by_cases hd : d = .epoch
  · subst hd
    unfold runDuty
    dsimp only
    split
    · exact advanceEpoch_time_history s
    · exact ⟨rfl, rfl⟩
  · have h := runDuty_keeps changed s hd
    exact ⟨h.time, h.history⟩

theorem foldl_runDuty_time_history (changed : Bool) (ds : List Duty) (s : State) :
    (ds.foldl (runDuty changed) s).time = s.time ∧ (ds.foldl (runDuty changed) s).history = s.history := by
  induction ds generalizing s with
  | nil => exact ⟨rfl, rfl⟩
  | cons d ds ih =>
    obtain ⟨htime, hhistory⟩ := ih (runDuty changed s d)
    obtain ⟨hdtime, hdhistory⟩ := runDuty_time_history changed s d
    exact ⟨htime.trans hdtime, hhistory.trans hdhistory⟩

/-! ## What a boundary brings whatever the order -/

/-- The streams once the delivery records are retired and before the drains (R104). -/
def State.retired (s : State) : State :=
  (endSeeks (appendHistories s)).setStreams
    (Tab.gen 16 fun b => retireRecords s.now (s.stream b))

theorem boundaryStart_eq (s : State) : boundaryStart s =
    if isSlotStart s.now then recycleExposure (bays.foldl (fun u b => completeDrain b u) s.retired)
    else bays.foldl (fun u b => completeDrain b u) s.retired := by
  have hkeeps := KeepsSetup.foldl (fun u b => completeDrain_keeps b u) bays s.retired
  have hretired : (endSeeks (appendHistories s)).setStreams (Tab.gen 16 fun b =>
      retireRecords (endSeeks (appendHistories s)).now ((endSeeks (appendHistories s)).stream b))
      = s.retired := rfl
  unfold boundaryStart
  dsimp only
  rw [hretired]
  generalize bays.foldl _ s.retired = v at hkeeps ⊢
  rw [hkeeps.now]
  rfl

theorem boundaryStart_keeps (s : State) : KeepsSetup s.retired (boundaryStart s) := by
  have hkeeps := KeepsSetup.foldl (fun u b => completeDrain_keeps b u) bays s.retired
  rw [boundaryStart_eq]
  exact .ite (hkeeps.trans (recycleExposure_keeps _)) hkeeps

theorem boundaryDuties_time_history (changed : Bool) (order : List Duty) (s : State) :
    (boundaryDuties changed order s).time = s.time
      ∧ (boundaryDuties changed order s).history = (appendHistories s).history := by
  obtain ⟨htime, hhistory⟩ := foldl_runDuty_time_history changed (dutyOrder order) (boundaryStart s)
  have hkeeps := boundaryStart_keeps s
  exact ⟨htime.trans hkeeps.time, hhistory.trans hkeeps.history⟩

/-! ## Histories (R35) -/

theorem pushHistory_zero (v : Int) (h : Tab 72 Int) : (pushHistory v h).get 0 = v := by
  simp [pushHistory]

theorem pushHistory_succ (v : Int) (h : Tab 72 Int) (i : Fin 71) :
    (pushHistory v h).get i.succ = h.get i.castSucc := by
  simp [pushHistory]
  rfl

/-- Settles O8: no duty changes a history, so it is as the append left it. -/
theorem historyGainsTheNewSample : Obligations.HistoryGainsTheNewSample := by
  intro s order hheld hnothing
  refine ⟨_, exec_sampleBoundary_of_nothing hnothing hheld order, fun b => ?_⟩
  rw [(boundaryDuties_time_history ..).2]
  have hpushed : (appendHistories (advanceSample s)).history.get b
      = pushHistory ((advanceSample s).appendedTorque b (s.now + 1)) (s.history.get b) :=
    Tab.get_gen ..
  rw [hpushed]
  refine ⟨fun i => pushHistory_succ .., ?_⟩
  rw [pushHistory_zero]
  have hexpires (r : Seek) : r.expiresAt (s.now + 1) = true ↔ r.state = .granted
      ∧ (s.now + 1).toNat % 8 = 0 ∧ r.launch = some (slotOf (s.now + 1)) := by
    simp [Seek.expiresAt, isSlotStart, and_assoc]
  simp only [← hexpires]
  rfl

/-! ## Drains (R111) -/

/-- The stream has drained: DRAINING with nothing left to deliver. -/
def Stream.drained (t : Stream) : Bool :=
  decide (t.state = .draining ∧ t.delivery = [])

/-- A stream after its drain's completion, if it has drained (R111). -/
def drainedStream (t : Stream) : Stream :=
  if t.drained then { t with state := .off, burst := none, revisions := [] } else t

/-- The causes with a drain's STREAM_STOPPED (R111, R176). -/
def stopRaised (b : Bay) (a : Attention) : Attention :=
  addBay .streamStopped b (markPending .streamStopped a)

section
variable (b : Bay) (a : Attention) {c : Cause}

theorem stopRaised_pending : (stopRaised b a).pending.getLsbD 5 = true := by
  simp [stopRaised, addBay, markPending, Cause.bit]

theorem stopRaised_pending_ne (h : c ≠ .streamStopped) :
    (stopRaised b a).pending.getLsbD c.bit.val = a.pending.getLsbD c.bit.val := by
  cases c <;> simp_all [stopRaised, addBay, markPending, Cause.bit]

theorem stopRaised_sets_ne (h : c ≠ .streamStopped) :
    (stopRaised b a).sets.get c.bit = a.sets.get c.bit := by
  have hbit : Cause.streamStopped.bit ≠ c.bit := by cases c <;> simp_all [Cause.bit]
  exact (Tab.get_upd ..).trans (if_neg hbit)

theorem stopRaised_sets (x : Bay) :
    ((stopRaised b a).sets.get Cause.streamStopped.bit).getLsbD x.val = true
      ↔ (a.sets.get Cause.streamStopped.bit).getLsbD x.val = true ∨ b = x := by
  have hset : (stopRaised b a).sets.get Cause.streamStopped.bit
      = a.sets.get Cause.streamStopped.bit ||| BitVec.twoPow 16 b.val :=
    (Tab.get_upd ..).trans (if_pos rfl)
  have hx : x.val < 16 := x.isLt
  rw [hset, BitVec.getLsbD_or, BitVec.getLsbD_twoPow]
  simp [Fin.ext_iff]

end

theorem completeDrain_eq (b : Bay) (s : State) : completeDrain b s
    = (s.putStream b (drainedStream (s.stream b))).setAttention
        (if (s.stream b).drained then stopRaised b s.attention else s.attention) := by
  unfold completeDrain drainedStream Stream.drained
  dsimp only
  by_cases h : (s.stream b).state = .draining ∧ (s.stream b).delivery = []
  · simp only [h, and_self, if_true, decide_true]
    rfl
  · simp only [h, if_false, decide_false, Bool.false_eq_true]
    exact (congrArg s.setStreams (Tab.upd_get s.streams b)).symm

/-- The drains of the bays in turn: each stream is its own bay's. -/
theorem foldl_completeDrain (bs : List Bay) (hbs : bs.Nodup) (s : State) :
    bs.foldl (fun u b => completeDrain b u) s
      = (s.setStreams (Tab.gen 16 fun b => if b ∈ bs then drainedStream (s.stream b) else s.stream b)).setAttention
        (bs.foldl (fun a b => if (s.stream b).drained then stopRaised b a else a) s.attention) := by
  induction bs using List.reverseRecOn with
  | nil =>
    have hsame : (Tab.gen 16 fun b => if b ∈ ([] : List Bay) then drainedStream (s.stream b) else s.stream b)
        = s.streams := Tab.ext_get fun b => by simp; rfl
    rw [hsame]
    rfl
  | append_singleton bs b ih =>
    obtain ⟨hbs, -, hdisjoint⟩ := List.nodup_append.mp hbs
    have hb : b ∉ bs := fun h => hdisjoint b h b (by simp) rfl
    rw [List.foldl_append, List.foldl_append, ih hbs, List.foldl_cons, List.foldl_nil, List.foldl_cons,
      List.foldl_nil, completeDrain_eq]
    generalize bs.foldl _ s.attention = a
    have hstream : ((s.setStreams (Tab.gen 16 fun c => if c ∈ bs then drainedStream (s.stream c)
        else s.stream c)).setAttention a).stream b = s.stream b :=
      (Tab.get_gen _ b).trans (if_neg hb)
    have htab : (Tab.gen 16 fun c => if c ∈ bs then drainedStream (s.stream c) else s.stream c).upd b
          (drainedStream (s.stream b))
        = Tab.gen 16 fun c => if c ∈ bs ++ [b] then drainedStream (s.stream c) else s.stream c := by
      refine Tab.ext_get fun c => ?_
      rw [Tab.get_upd, Tab.get_gen, Tab.get_gen]
      obtain rfl | hc := eq_or_ne b c
      · simp
      · simp [hc, hc.symm]
    rw [hstream, ← htab]
    rfl

section
variable (P : Bay → Bool) (bs : List Bay) (a : Attention)

/-- What the drains raise: STREAM_STOPPED alone, for the bays that drain. -/
theorem foldl_stopRaised : let x := bs.foldl (fun a b => if P b then stopRaised b a else a) a
    (x.mask = a.mask ∧ x.route = a.route)
      ∧ (∀ c : Cause, c ≠ .streamStopped → x.pending.getLsbD c.bit.val = a.pending.getLsbD c.bit.val
          ∧ x.sets.get c.bit = a.sets.get c.bit)
      ∧ (x.pending.getLsbD 5 = true ↔ a.pending.getLsbD 5 = true ∨ ∃ b ∈ bs, P b = true)
      ∧ ∀ b, ((x.sets.get Cause.streamStopped.bit).getLsbD b.val = true ↔
          (a.sets.get Cause.streamStopped.bit).getLsbD b.val = true ∨ b ∈ bs ∧ P b = true) := by
  induction bs using List.reverseRecOn with
  | nil => simp
  | append_singleton bs b ih =>
    obtain ⟨hconfigured, hothers, hpending, hsets⟩ := ih
    simp only [List.foldl_append, List.foldl_cons, List.foldl_nil]
    generalize bs.foldl _ a = x at hconfigured hothers hpending hsets ⊢
    by_cases hb : P b = true
    · rw [if_pos hb]
      refine ⟨hconfigured, fun c hc => ?_, ?_, fun c => ?_⟩
      · obtain ⟨hcpending, hcset⟩ := hothers c hc
        exact ⟨(stopRaised_pending_ne b x hc).trans hcpending, (stopRaised_sets_ne b x hc).trans hcset⟩
      · exact iff_of_true (stopRaised_pending b x) (.inr ⟨b, by simp, hb⟩)
      · rw [stopRaised_sets, hsets c]
        grind
    · rw [if_neg hb]
      refine ⟨hconfigured, hothers, hpending.trans ?_, fun c => (hsets c).trans ?_⟩
      · grind
      · grind

end

/-! ## Burst boundaries (R101, R102) -/

/-- Bay `b`'s stream after its burst boundary duty. -/
def State.atBurstBoundary (s : State) (b : Bay) : Stream :=
  let t := s.stream b
  let first := s.now + BitVec.ofNat 32 t.lead
  if isBurstBoundary t.burstLen s.now ∧ (t.state = .starting ∨ t.state = .running) then
    { t with
      state := .running
      burst := some
        { first := first, pendingChange := false, start := s.now, values := s.predict b first t.burstLen } }
  else t

theorem burstDuty_eq (b : Bay) (s : State) : burstDuty b s = s.putStream b (s.atBurstBoundary b) := by
  unfold burstDuty State.atBurstBoundary
  dsimp only
  split
  · rfl
  · exact (congrArg s.setStreams (Tab.upd_get s.streams b)).symm

/-- A burst reads no other bay's stream. -/
theorem atBurstBoundary_setStreams {s : State} {b : Bay} {x : Tab 16 Stream} (h : x.get b = s.stream b) :
    (s.setStreams x).atBurstBoundary b = s.atBurstBoundary b := by
  have hstream : (s.setStreams x).stream b = s.stream b := h
  unfold State.atBurstBoundary
  dsimp only
  rw [hstream]
  rfl

/-- Within a slot and with no new divisor only the streams have a duty. -/
theorem runDuty_midSlot {s : State} (h : isSlotStart s.now = false) (d : Duty) :
    runDuty false s d = match d with
      | .stream b => burstDuty b s
      | _ => s := by
  cases d <;> simp [runDuty, h]

theorem foldl_runDuty_midSlot {s : State} (h : isSlotStart s.now = false) (ds : List Duty)
    (hds : ds.Nodup) : ds.foldl (runDuty false) s = s.setStreams (Tab.gen 16 fun b =>
      if .stream b ∈ ds then s.atBurstBoundary b else s.stream b) := by
  induction ds using List.reverseRecOn with
  | nil =>
    have hsame : (Tab.gen 16 fun b => if Duty.stream b ∈ ([] : List Duty) then s.atBurstBoundary b
        else s.stream b) = s.streams := Tab.ext_get fun b => by simp; rfl
    rw [hsame]
    rfl
  | append_singleton ds d ih =>
    obtain ⟨hnodup, -, hdisjoint⟩ := List.nodup_append.mp hds
    have hd : d ∉ ds := fun hd => hdisjoint d hd d (by simp) rfl
    rw [List.foldl_append, ih hnodup, List.foldl_cons, List.foldl_nil, runDuty_midSlot (by exact h)]
    split
    · next b =>
      have hboundary := atBurstBoundary_setStreams (s := s) (b := b) (x := Tab.gen 16 fun c =>
        if Duty.stream c ∈ ds then s.atBurstBoundary c else s.stream c) ((Tab.get_gen _ b).trans (if_neg hd))
      have htab : (Tab.gen 16 fun c => if Duty.stream c ∈ ds then s.atBurstBoundary c
            else s.stream c).upd b (s.atBurstBoundary b)
          = Tab.gen 16 fun c => if Duty.stream c ∈ ds ++ [.stream b] then s.atBurstBoundary c
            else s.stream c := by
        refine Tab.ext_get fun c => ?_
        rw [Tab.get_upd, Tab.get_gen, Tab.get_gen]
        obtain rfl | hc := eq_or_ne b c
        · simp
        · simp [hc, hc.symm]
      rw [burstDuty_eq, hboundary, ← htab]
      rfl
    · next hother =>
      refine congrArg s.setStreams (Tab.ext_get fun c => ?_)
      have hmem : Duty.stream c ∈ ds ++ [d] ↔ Duty.stream c ∈ ds := by
        simp
        intro hc
        exact absurd hc.symm (hother c)
      rw [Tab.get_gen, Tab.get_gen]
      simp only [hmem]

/-- A boundary within a slot that brings no new divisor. -/
theorem boundaryDuties_midSlot {s : State} (h : isSlotStart s.now = false) (order : List Duty) :
    boundaryDuties false order s = readRevisions ((boundaryStart s).setStreams
      (Tab.gen 16 (boundaryStart s).atBurstBoundary)) := by
  have hnow := (boundaryStart_keeps s).now
  rw [boundaryDuties, foldl_runDuty_midSlot (by rw [hnow]; exact h) _ (dutyOrder_nodup order)]
  simp only [mem_dutyOrder, if_true]

/-- The causes after the drains of all bays. -/
def State.drainedAttention (s : State) : Attention :=
  bays.foldl (fun a b => if (s.stream b).drained then stopRaised b a else a) s.attention

/-- The drains of all bays. -/
def State.allDrained (s : State) : State :=
  (s.setStreams (Tab.gen 16 fun b => drainedStream (s.stream b))).setAttention s.drainedAttention

theorem boundaryStart_drained (s : State) : boundaryStart s
    = if isSlotStart s.now then recycleExposure s.retired.allDrained else s.retired.allDrained := by
  have hbays : bays.Nodup := List.nodup_finRange 16
  rw [boundaryStart_eq, foldl_completeDrain bays hbays]
  simp only [mem_bays, if_true]
  rfl

/-- Bay `b`'s stream after its drain's completion and its burst boundary duty. -/
def State.midSlotStream (s : State) (b : Bay) : Stream :=
  let u := s.stream b
  let first := s.now + BitVec.ofNat 32 u.lead
  if (u.state = .starting ∨ u.state = .running) ∧ s.now.toNat % u.burstLen = 0 then
    { u with
      state := .running
      burst := some
        { first := first, pendingChange := false, start := s.now, values := s.predict b first u.burstLen } }
  else if u.state = .draining ∧ u.delivery = [] then
    { u with state := .off, burst := none, revisions := [] }
  else u

theorem allDrained_atBurstBoundary (s : State) (b : Bay) :
    s.allDrained.atBurstBoundary b = s.midSlotStream b := by
  have hstream : s.allDrained.stream b = drainedStream (s.stream b) := Tab.get_gen _ b
  unfold State.atBurstBoundary State.midSlotStream
  dsimp only
  rw [hstream]
  by_cases hd : (s.stream b).state = .draining ∧ (s.stream b).delivery = []
  · have hoff : drainedStream (s.stream b)
        = { s.stream b with state := .off, burst := none, revisions := [] } := if_pos (decide_eq_true hd)
    rw [hoff]
    simp [hd.1, hd.2]
  · have hsame : drainedStream (s.stream b) = s.stream b := if_neg (by simpa [Stream.drained] using hd)
    have hboundary : isBurstBoundary (s.stream b).burstLen s.allDrained.now = true
        ↔ s.now.toNat % (s.stream b).burstLen = 0 := beq_iff_eq
    rw [hsame, if_neg hd]
    exact if_congr ((and_congr_left' hboundary).trans and_comm) rfl rfl

theorem midSlotStream_revisions (s : State) (b : Bay) :
    ∀ v ∈ (s.midSlotStream b).revisions, v ∈ (s.stream b).revisions := by
  intro v hv
  unfold State.midSlotStream at hv
  dsimp only at hv
  split at hv
  · exact hv
  · split at hv
    · cases hv
    · exact hv

/-- A prediction reads neither streams nor causes. -/
theorem predict_beside (s : State) (x : Tab 16 Stream) (y : Attention) :
    ((s.setStreams x).setAttention y).predict = s.predict := rfl

theorem now_beside (s : State) (x : Tab 16 Stream) (y : Attention) :
    ((s.setStreams x).setAttention y).now = s.now := rfl

theorem retireRecords_eq (m : Sample) (t : Stream) : retireRecords m t
    = { t with delivery := t.delivery.filter fun x => x.first + BitVec.ofNat 32 x.burst ≠ m } := by
  unfold retireRecords
  congr 1
  exact List.filter_congr fun x _ => by rw [Bool.eq_iff_iff]; simp

theorem exec_sampleBoundary_midSlot {s : State} {order : List Duty} (hheld : s.pins.resetHeld = false)
    (hnothing : NothingOverdue s) (hread : RevisionsRead s) (hslot : s.slotStartNext = false)
    (hdivisor : s.time.pendingDivisor = none) :
    exec (.sampleBoundary order) s = .next (((advanceSample s).retired.setStreams
      (Tab.gen 16 (advanceSample s).retired.midSlotStream)).setAttention
        (advanceSample s).retired.drainedAttention) := by
  have hnow : isSlotStart (advanceSample s).now = false := hslot
  have hstart : boundaryStart (advanceSample s) = (advanceSample s).retired.allDrained :=
    (boundaryStart_drained _).trans (if_neg (by rw [hnow]; decide))
  have hstreams : Tab.gen 16 (advanceSample s).retired.allDrained.atBurstBoundary
      = Tab.gen 16 (advanceSample s).retired.midSlotStream :=
    congrArg (Tab.gen 16) (funext (allDrained_atBurstBoundary _))
  have hkept : RevisionsRead ((advanceSample s).retired.allDrained.setStreams
      (Tab.gen 16 (advanceSample s).retired.midSlotStream)) := by
    intro b v hv
    have hstream : ((advanceSample s).retired.allDrained.setStreams
        (Tab.gen 16 (advanceSample s).retired.midSlotStream)).stream b
        = (advanceSample s).retired.midSlotStream b := Tab.get_gen _ b
    rw [hstream] at hv
    have hretired : (advanceSample s).retired.stream b = retireRecords (s.now + 1) (s.stream b) :=
      Tab.get_gen _ b
    have hmem := midSlotStream_revisions _ b v hv
    rw [hretired] at hmem
    exact hread b v hmem
  rw [exec_sampleBoundary_of_nothing hnothing hheld, hdivisor]
  show Host.Outcome.next (boundaryDuties false order (advanceSample s)) = _
  rw [boundaryDuties_midSlot hnow, hstart, hstreams, readRevisions_of_read hkept]
  rfl

/-- Settles O9: within a slot a boundary is the part that no order changes and then one duty for each
stream. -/
theorem midSlotBoundary : Obligations.MidSlotBoundary := by
  intro s order hheld hnothing hread hslot hdivisor
  refine ⟨_, exec_sampleBoundary_midSlot hheld hnothing hread hslot hdivisor, ?_⟩
  have hretired (b : Bay) : (advanceSample s).retired.stream b = retireRecords (s.now + 1) (s.stream b) :=
    Tab.get_gen _ b
  have hdrained (b : Bay) : ((advanceSample s).retired.stream b).drained = true
      ↔ (s.stream b).state = .draining
        ∧ ((s.stream b).delivery.filter fun x => x.first + BitVec.ofNat 32 x.burst ≠ s.now + 1) = [] := by
    rw [hretired]
    simp [Stream.drained, retireRecords]
  have hnil (b : Bay) : ((s.stream b).delivery.filter fun x => x.first + BitVec.ofNat 32 x.burst
      ≠ s.now + 1) = [] ↔ ∀ x ∈ (s.stream b).delivery, x.first + BitVec.ofNat 32 x.burst = s.now + 1 := by
    simp [List.filter_eq_nil_iff]
  obtain ⟨hconfigured, hothers, hpending, hsets⟩ :=
    foldl_stopRaised (fun b => ((advanceSample s).retired.stream b).drained) bays s.attention
  refine ⟨rfl, rfl, fun b p => ?seek, hconfigured, hothers, ?pending, fun b => ⟨?stream, ?set⟩⟩
  case seek =>
    refine (endSeeks_seekAt (appendHistories (advanceSample s)) b p).trans ?_
    show (s.seekAt b p).bind (endedSeek (s.now + 1)) = _
    cases s.seekAt b p <;> rfl
  case pending =>
    refine hpending.trans (or_congr Iff.rfl ⟨fun ⟨b, _, hb⟩ => ⟨b, ?_⟩, fun ⟨b, hstate, hb⟩ =>
      ⟨b, mem_bays b, ?_⟩⟩)
    · obtain ⟨hstate, hkept⟩ := (hdrained b).mp hb
      exact ⟨hstate, (hnil b).mp hkept⟩
    · exact (hdrained b).mpr ⟨hstate, (hnil b).mpr hb⟩
  case stream =>
    refine (Tab.get_gen _ b).trans ?_
    unfold State.midSlotStream
    dsimp only
    rw [hretired, retireRecords_eq, predict_beside, now_beside]
    refine if_congr Iff.rfl rfl (ite_congr rfl (fun hoff => ?_) fun _ => rfl)
    exact congrArg (fun d => ({ s.stream b with
      state := .off, delivery := d, burst := none, revisions := [] } : Stream)) hoff.2
  case set =>
    refine (hsets b).trans (or_congr Iff.rfl ?_)
    rw [hdrained b]
    exact and_iff_right (mem_bays b)

end Sys2Proof.Machine
end

section
/-! PROOF. What the duties of a slot start do to one bay: those of the other bays leave its lane and its
records, and its own hand at most six frames. LaunchSlotStartsOrExpiresTheSeek and the expiry of
OverflowTakesTheOtherSteps rest on it. -/

namespace Sys2Proof.Machine

/-! ## What other bays' changes leave -/

/-- Bay `b`'s lane and records are as they were, and so is its stream if it was stopped. -/
structure Undisturbed (b : Bay) (s t : State) : Prop where
  lane : t.lane b = s.lane b
  seeks : ∀ p, t.seekAt b p = s.seekAt b p
  stopped : s.stream b = stoppedStream (s.stream b) → t.stream b = s.stream b

theorem undisturbed_of_blocks {b : Bay} {s t : State} (hlanes : t.lanes = s.lanes)
    (hseeks : t.seeks = s.seeks) (hstreams : t.streams = s.streams) : Undisturbed b s t := by
  refine ⟨congrArg (Tab.get · b) hlanes, fun p => ?_, fun _ => congrArg (Tab.get · b) hstreams⟩
  rw [State.seekAt, hseeks]
  rfl

theorem Undisturbed.refl (b : Bay) (s : State) : Undisturbed b s s := undisturbed_of_blocks rfl rfl rfl

theorem Undisturbed.trans {b : Bay} {s t u : State} (h : Undisturbed b s t) (k : Undisturbed b t u) :
    Undisturbed b s u := by
  refine ⟨k.lane.trans h.lane, fun p => (k.seeks p).trans (h.seeks p), fun hs => ?_⟩
  have ht := h.stopped hs
  exact (k.stopped (by rw [ht]; exact hs)).trans ht

theorem forecastChange_stopped {b c : Bay} {s : State} (a z : Sample)
    (h : s.stream b = stoppedStream (s.stream b)) : (forecastChange c a z s).stream b = s.stream b := by
  have hoff : (s.stream b).state = .off := congrArg Stream.state h
  rw [forecastChange_stream, if_neg (by simp [hoff])]

theorem readRevisions_stopped {b : Bay} {s : State} (h : s.stream b = stoppedStream (s.stream b)) :
    (readRevisions s).stream b = s.stream b := by
  have hnone : (s.stream b).revisions = [] := congrArg Stream.revisions h
  rw [readRevisions_stream, hnone, List.map_nil, ← hnone]

section
variable {b c : Bay} {s t : State} (hc : c ≠ b)
include hc

theorem undisturbed_putLane (l : Lane) : Undisturbed b s (s.putLane c l) :=
  ⟨State.lane_putLane_ne s l hc, fun _ => rfl, fun _ => rfl⟩

theorem undisturbed_putStream (x : Stream) : Undisturbed b s (s.putStream c x) :=
  ⟨rfl, fun _ => rfl, fun _ => State.stream_putStream_ne s x hc⟩

theorem undisturbed_putSeek (p : Pos) (x : Option Seek) : Undisturbed b s (s.putSeek c p x) :=
  ⟨rfl, fun _ => (State.seekAt_putSeek ..).trans (if_neg fun h => hc h.1), fun _ => rfl⟩

/-- A change that concerns another bay leaves the bay undisturbed. -/
theorem Change.undisturbed (h : Change c s t) : Undisturbed b s t := by
  cases h with
  | aside h => exact undisturbed_of_blocks h.lanes h.seeks h.streams
  | rebuild | epoch | divider | divisor | raise => exact undisturbed_of_blocks rfl rfl rfl
  | setting x =>
    have hset : Undisturbed b s (s.setSettings (s.settings.upd c x)) := undisturbed_of_blocks rfl rfl rfl
    exact hset.trans (undisturbed_putStream hc _)
  | lane | move => exact undisturbed_putLane hc _
  | close | admission => exact (undisturbed_putLane hc _).trans (undisturbed_putStream hc _)
  | free | reseek => exact undisturbed_putSeek hc _ _
  | post p r =>
    rw [forgetExpired_eq]
    exact (undisturbed_putSeek hc _ _).trans (undisturbed_putLane hc _)
  | expire p r => exact (undisturbed_putSeek hc _ _).trans (undisturbed_putLane hc _)
  | forecast a z => exact ⟨rfl, fun _ => rfl, forecastChange_stopped a z⟩
  | read => exact ⟨rfl, fun _ => rfl, readRevisions_stopped⟩
  | stop | deliver | drop | burst | halt | drain | drained => exact undisturbed_putStream hc _
  | start h =>
    rw [startStream, if_pos h]
    exact undisturbed_putStream hc _

theorem ActsAt.undisturbed (h : ActsAt c s t) : Undisturbed b s t := by
  induction h with
  | refl => exact .refl ..
  | tail _ k ih => exact ih.trans (k.undisturbed hc)

end

/-- A duty that is not one of the bay's leaves it undisturbed. -/
theorem runDuty_undisturbed (changed : Bool) (s : State) {d : Duty} {b : Bay} (h : dutyBay d ≠ some b) :
    Undisturbed b s (runDuty changed s d) := by
  have hother : ∃ c, c ≠ b ∧ ∀ x, dutyBay d = some x → x = c := by
    cases hd : dutyBay d with
    | none =>
      have hnext : ∀ x : Bay, x + 1 ≠ x := by decide
      exact ⟨b + 1, hnext b, fun x hx => nomatch hx⟩
    | some c =>
      refine ⟨c, fun hc => h (by rw [hd, hc]), fun x hx => (Option.some.inj hx).symm⟩
  obtain ⟨c, hc, hbay⟩ := hother
  exact (runDuty_acts changed s d c hbay).undisturbed hc

/-! ## Causes are only added -/

/-- No pending flag and no bay of a cause is lost. -/
structure CausesKept (s t : State) : Prop where
  pending : ∀ i, s.attention.pending.getLsbD i = true → t.attention.pending.getLsbD i = true
  sets : ∀ i j, (s.attention.sets.get i).getLsbD j = true → (t.attention.sets.get i).getLsbD j = true

theorem causesKept_of_attention {s t : State} (h : t.attention = s.attention) : CausesKept s t :=
  ⟨fun _ => by rw [h]; exact id, fun _ _ => by rw [h]; exact id⟩

theorem CausesKept.trans {s t u : State} (h : CausesKept s t) (k : CausesKept t u) : CausesKept s u :=
  ⟨fun i hi => k.pending i (h.pending i hi), fun i j hi => k.sets i j (h.sets i j hi)⟩

theorem raiseCause_causesKept (c : Cause) (b : Bay) (s : State) : CausesKept s (raiseCause c b s) := by
  constructor
  · intro i hi
    unfold raiseCause addBay markPending
    split <;> simp [hi]
  · intro i j hi
    unfold raiseCause addBay markPending
    split
    · exact hi
    · simp only [State.setAttention_attention, Tab.get_upd]
      split
      · next he =>
        subst he
        simp [hi]
      · exact hi

theorem Change.causesKept {b : Bay} {s t : State} (h : Change b s t) : CausesKept s t := by
  cases h with
  | aside h => exact causesKept_of_attention h.attention
  | raise c => exact raiseCause_causesKept c b s
  | post p r =>
    rw [forgetExpired_eq]
    exact causesKept_of_attention rfl
  | start h =>
    rw [startStream, if_pos h]
    exact causesKept_of_attention rfl
  | _ => exact causesKept_of_attention rfl

theorem Acts.causesKept {s t : State} (h : Acts s t) : CausesKept s t := by
  induction h with
  | refl => exact causesKept_of_attention rfl
  | tail _ k ih =>
    refine ih.trans ?_
    cases k with
    | bay b k => exact k.causesKept
    | ended | retired => exact causesKept_of_attention rfl

/-! ## The records at a boundary (R22, R23, R25, R26) -/

theorem boundaryStart_exposed (s : State) :
    boundaryStart s = s.retired.allDrained.setExposure (boundaryStart s).exposure := by
  rw [boundaryStart_drained]
  split
  · exact changeExposure_eq ..
  · rfl

section
variable (s : State)

theorem boundaryStart_lane (b : Bay) : (boundaryStart s).lane b = s.lane b := by
  rw [boundaryStart_exposed]
  rfl

theorem boundaryStart_seekAt (b : Bay) (p : Pos) :
    (boundaryStart s).seekAt b p = (s.seekAt b p).bind (endedSeek s.now) := by
  have hseeks : (s.retired.allDrained.setExposure (boundaryStart s).exposure).seeks
      = (endSeeks (appendHistories s)).seeks := rfl
  rw [boundaryStart_exposed, State.seekAt, hseeks]
  exact endSeeks_seekAt (appendHistories s) b p

theorem boundaryStart_now : (boundaryStart s).now = s.now := (boundaryStart_keeps s).now

theorem boundaryStart_slot : (boundaryStart s).slot = s.slot := (boundaryStart_keeps s).slot

end

theorem endedSeek_launch {m : Sample} {x r : Seek} (h : endedSeek m x = some r) : r.launch = x.launch := by
  obtain rfl | rfl := endedSeek_some h <;> rfl

/-- Only a seek in RUNNING or TAIL ends. -/
theorem endedSeek_of_waiting {m : Sample} {r : Seek} (h : r.state = .granted ∨ r.state = .committed) :
    endedSeek m r = some r := by
  unfold endedSeek
  rw [if_neg, if_neg]
  · obtain h | h := h <;> simp [h]
  · obtain h | h := h <;> simp [h]

section
variable {s : State} {b : Bay} {p : Pos} {r : Seek} (hr : s.seekAt b p = some r)
include hr

theorem launchOrExpire_committed (hlaunch : r.launch = some s.slot) (hstate : r.state = .committed) :
    launchOrExpire b s p = s.putSeek b p (some { r with state := .running }) := by
  simp [launchOrExpire, hr, hlaunch, hstate]

theorem launchOrExpire_granted (hlaunch : r.launch = some s.slot) (hstate : r.state = .granted) :
    launchOrExpire b s p = handThen b (.expire r.tag r.launchAt) (expirySteps b p r) s := by
  simp [launchOrExpire, hr, hlaunch, hstate]

theorem launchOrExpire_other (h : r.launch = some s.slot → r.state ≠ .committed ∧ r.state ≠ .granted) :
    launchOrExpire b s p = s := by
  simp only [launchOrExpire, hr]
  rw [if_neg fun hx => (h hx.1).1 hx.2, if_neg fun hx => (h hx.1).2 hx.2]

end

theorem launchOrExpire_none {s : State} {b : Bay} {p : Pos} (h : s.seekAt b p = none) :
    launchOrExpire b s p = s := by
  simp only [launchOrExpire, h]

theorem expirySteps_seekAt (b c : Bay) (p q : Pos) (r : Seek) (s : State) :
    (expirySteps b p r s).seekAt c q = if b = c ∧ p = q then none else s.seekAt c q := by
  unfold expirySteps
  dsimp only
  rw [removeExposure_eq]
  exact State.seekAt_putSeek ..

theorem faultLane_seekAt (b c : Bay) (q : Pos) (s : State) :
    (faultLane b s).seekAt c q = if b = c then none else s.seekAt c q := by
  rw [faultLane_eq, State.seekAt, searchStart_seeks, ← freeBay_seekAt]
  generalize freeBay b s = v
  rfl

/-- What stands elsewhere in the bay stays, or is freed with a FAULT. -/
theorem launchOrExpire_seekAt_ne {b : Bay} {s : State} {p q : Pos} (h : p ≠ q) :
    (launchOrExpire b s p).seekAt b q = s.seekAt b q ∨ (launchOrExpire b s p).seekAt b q = none := by
  have hsteps (r : Seek) (u : State) : (expirySteps b p r u).seekAt b q = u.seekAt b q :=
    (expirySteps_seekAt ..).trans (if_neg fun hx => h hx.2)
  unfold launchOrExpire
  split
  · exact .inl rfl
  · next r _ =>
    split
    · exact .inl ((State.seekAt_putSeek ..).trans (if_neg fun hx => h hx.2))
    · split
      · unfold handThen
        split
        · exact .inr ((faultLane_seekAt ..).trans (if_pos rfl))
        · refine .inl ((hsteps ..).trans ?_)
          unfold handFrame
          split <;> rfl
      · exact .inl rfl

/-- Where one position alone is due, the others' turn does nothing. -/
theorem foldl_launchOrExpire_single {b : Bay} {p : Pos} (ps : List Pos) (hps : ps.Nodup) {s : State}
    (h : ∀ q x, q ≠ p → s.seekAt b q = some x → x.launch ≠ some s.slot) :
    ps.foldl (launchOrExpire b) s = if p ∈ ps then launchOrExpire b s p else s := by
  have hidle {u : State} {q : Pos} (hu : ∀ x, u.seekAt b q = some x → x.launch ≠ some u.slot) :
      launchOrExpire b u q = u := by
    cases hx : u.seekAt b q with
    | none => exact launchOrExpire_none hx
    | some x => exact launchOrExpire_other hx fun hl => absurd hl (hu x hx)
  induction ps using List.reverseRecOn with
  | nil => rfl
  | append_singleton ps q ih =>
    obtain ⟨hps, -, hdisjoint⟩ := List.nodup_append.mp hps
    have hq : q ∉ ps := fun hq => hdisjoint q hq q (by simp) rfl
    rw [List.foldl_append, ih hps, List.foldl_cons, List.foldl_nil]
    obtain rfl | hne := eq_or_ne q p
    · rw [if_neg hq, if_pos (by simp)]
    · have hmem : p ∈ ps ++ [q] ↔ p ∈ ps := by simp [hne.symm]
      simp only [hmem]
      refine hidle fun x hx => ?_
      split at hx
      · rw [if_pos ‹_›, (launchOrExpire_keeps b s p).slot]
        obtain hkept | hnone := launchOrExpire_seekAt_ne (b := b) (s := s) hne.symm
        · exact h q x hne (hkept ▸ hx)
        · rw [hnone] at hx
          cases hx
      · rw [if_neg ‹_›]
        exact h q x hne hx

/-! ## A bay whose lane has failed -/

/-- The bay takes no further part in a slot start: its lane is not READY, its stream is OFF and its
records are free. -/
structure State.Out (s : State) (b : Bay) : Prop where
  unready : (s.lane b).state ≠ .ready
  stopped : s.stream b = stoppedStream (s.stream b)
  free : ∀ p, s.seekAt b p = none

theorem Undisturbed.out {b : Bay} {s t : State} (h : Undisturbed b s t) (hs : s.Out b) : t.Out b where
  unready := by rw [h.lane]; exact hs.unready
  stopped := by rw [h.stopped hs.stopped]; exact hs.stopped
  free p := by rw [h.seeks, hs.free]

theorem runDuty_out (changed : Bool) {s : State} {b : Bay} (hs : s.Out b) (d : Duty) :
    Undisturbed b s (runDuty changed s d) := by
  by_cases hd : dutyBay d = some b
  · have hready : s.isReady b ≠ true := mt isReady_iff.mp hs.unready
    have hoff : (s.stream b).state = .off := congrArg Stream.state hs.stopped
    have hnothing : runDuty changed s d = s := by
      cases d with
      | seek c =>
        obtain rfl := Option.some.inj hd
        have hfold : positions.foldl (launchOrExpire c) s = s := by
          rw [foldl_launchOrExpire_single (p := 0) positions (List.nodup_finRange 4) fun q x _ hx => ?_]
          · rw [launchOrExpire_none (hs.free 0), ite_self]
          · rw [hs.free q] at hx
            cases hx
        simp only [runDuty, hfold, ite_self]
      | stream c =>
        obtain rfl := Option.some.inj hd
        simp [runDuty, burstDuty, hoff]
      | welcome c =>
        obtain rfl := Option.some.inj hd
        simp [runDuty, welcomeDuty, hready]
      | mark c =>
        obtain rfl := Option.some.inj hd
        simp [runDuty, markDuty, hready]
      | epoch | search => cases hd
    rw [hnothing]
    exact .refl b s
  · exact runDuty_undisturbed changed s hd

theorem foldl_runDuty_out (changed : Bool) (ds : List Duty) {s : State} {b : Bay} (hs : s.Out b) :
    Undisturbed b s (ds.foldl (runDuty changed) s) := by
  induction ds generalizing s with
  | nil => exact .refl b s
  | cons d ds ih =>
    have hd := runDuty_out changed hs d
    exact hd.trans (ih (hd.out hs))

theorem dutyOrder_cons (d : Duty) (order : List Duty) :
    dutyOrder (d :: order) = d :: firstOccurrences [d] (order ++ allDuties) := rfl

theorem faultLane_out (b : Bay) (s : State) : (faultLane b s).Out b where
  unready := by
    rw [faultLane_lane, if_pos rfl]
    simp [movedLane]
  stopped := by
    rw [faultLane_stream_self]
    rfl
  free p := (faultLane_seekAt ..).trans (if_pos rfl)

/-! ## An expiry with a full queue (R23, R158) -/

theorem expirySteps_lane (b : Bay) (p : Pos) (r : Seek) (s : State) :
    (expirySteps b p r s).lane b = { s.lane b with lastExpired := some r.tag } := by
  unfold expirySteps
  dsimp only
  rw [removeExposure_eq]
  exact State.lane_putLane_self ..

theorem expirySteps_attention (b : Bay) (p : Pos) (r : Seek) (s : State) :
    (expirySteps b p r s).attention = (raiseCause .expiry b s).attention := by
  unfold expirySteps
  dsimp only
  rw [removeExposure_eq]
  rfl

/-- A raised cause other than REBUILT is pending and names its bay. -/
theorem raiseCause_raised {c : Cause} (h : c ≠ .rebuilt) (b : Bay) (s : State) :
    (raiseCause c b s).attention.pending.getLsbD c.bit.val = true
      ∧ ((raiseCause c b s).attention.sets.get c.bit).getLsbD b.val = true := by
  rw [raiseCause_attention h]
  have hb : b.val < 16 := b.isLt
  have hc : c.bit.val < 8 := c.bit.isLt
  constructor <;> simp

/-- The state of a slot start before its duties. -/
def State.slotOpened (s : State) : State := boundaryStart (advanceSample s)

section
variable (s : State)

theorem slotOpened_now : s.slotOpened.now = s.now + 1 := boundaryStart_now _

theorem slotOpened_slot : s.slotOpened.slot = slotOf (s.now + 1) := boundaryStart_slot _

theorem slotOpened_lane (b : Bay) : s.slotOpened.lane b = s.lane b := boundaryStart_lane _ b

theorem slotOpened_seekAt (b : Bay) (p : Pos) :
    s.slotOpened.seekAt b p = (s.seekAt b p).bind (endedSeek (s.now + 1)) := boundaryStart_seekAt ..

end

section
variable {s : State} {b : Bay} {p : Pos} {r : Seek}

theorem slotOpened_seekAt_waiting (hr : s.seekAt b p = some r)
    (h : r.state = .granted ∨ r.state = .committed) : s.slotOpened.seekAt b p = some r := by
  rw [slotOpened_seekAt, hr]
  exact endedSeek_of_waiting h

/-- A record at a slot start has the launch slot that it had before. -/
theorem slotOpened_seekAt_some (h : s.slotOpened.seekAt b p = some r) :
    ∃ x, s.seekAt b p = some x ∧ r.launch = x.launch ∧ (r.state = .granted → x = r) := by
  rw [slotOpened_seekAt, Option.bind_eq_some_iff] at h
  obtain ⟨x, hx, h⟩ := h
  refine ⟨x, hx, endedSeek_launch h, fun hstate => ?_⟩
  obtain rfl | rfl := endedSeek_some h
  · rfl
  · cases hstate

theorem slotOpened_not_due (h : ∀ q x, q ≠ p → s.seekAt b q = some x → x.launch ≠ some (slotOf (s.now + 1)))
    (q : Pos) (x : Seek) (hq : q ≠ p) (hx : s.slotOpened.seekAt b q = some x) :
    x.launch ≠ some s.slotOpened.slot := by
  obtain ⟨y, hy, hlaunch, -⟩ := slotOpened_seekAt_some hx
  rw [slotOpened_slot, hlaunch]
  exact h q y hq hy

end

theorem exec_slotStart_opened {s : State} (hnothing : NothingOverdue s) (hheld : s.pins.resetHeld = false)
    (hslot : s.slotStartNext = true) (order : List Duty) : exec (.slotStart order) s = .next
      (readRevisions ((dutyOrder order).foldl (runDuty s.time.pendingDivisor.isSome) s.slotOpened)) :=
  exec_slotStart_of_nothing hnothing hheld hslot order

theorem mem_positions (p : Pos) : p ∈ positions := List.mem_finRange p

/-- At a slot start the turn of a bay with one due seek is that seek's. -/
theorem runDuty_seek_single {u : State} {b : Bay} {p : Pos} (changed : Bool)
    (hslot : isSlotStart u.now = true)
    (h : ∀ q x, q ≠ p → u.seekAt b q = some x → x.launch ≠ some u.slot) :
    runDuty changed u (.seek b) = launchOrExpire b u p := by
  simp only [runDuty, hslot, if_true]
  rw [foldl_launchOrExpire_single positions (List.nodup_finRange 4) h, if_pos (mem_positions p)]

/-- What is left of bay `b` by an expiry whose EXPIRE finds no room. -/
theorem expiryFault_out (b : Bay) (p : Pos) (r : Seek) (u : State) :
    (faultLane b (expirySteps b p r u)).lane b = movedLane (u.lane b) .fault
      ∧ CausesKept (raiseCause .expiry b u) (faultLane b (expirySteps b p r u))
      ∧ CausesKept (raiseCause .laneFault b (expirySteps b p r u))
          (faultLane b (expirySteps b p r u)) := by
  have hsteps : CausesKept (raiseCause .expiry b u) (expirySteps b p r u) :=
    causesKept_of_attention (expirySteps_attention b p r u)
  refine ⟨?_, hsteps.trans (faultLane_acts b _).any.causesKept,
    causesKept_of_attention (faultLane_attention b _)⟩
  rw [faultLane_lane, if_pos rfl, expirySteps_lane]
  rfl

/-- A bay that is out of a slot start stays so to its end, and what was raised stays raised. -/
theorem slotStart_out (changed : Bool) (ds : List Duty) {v : State} {b : Bay} (hv : v.Out b) :
    Undisturbed b v (readRevisions (ds.foldl (runDuty changed) v))
      ∧ CausesKept v (readRevisions (ds.foldl (runDuty changed) v)) := by
  have hrest := foldl_runDuty_out changed ds hv
  have hread := readRevisions_stopped (hrest.out hv).stopped
  have hcauses := (Acts.foldl (runDuty_any changed) ds v).causesKept
  generalize ds.foldl _ v = w at hrest hread hcauses ⊢
  exact ⟨hrest.trans ⟨rfl, fun _ => rfl, fun _ => hread⟩,
    hcauses.trans (causesKept_of_attention rfl)⟩

theorem CausesKept.raised {b : Bay} {c : Cause} {s t : State} (hc : c ≠ .rebuilt)
    (h : CausesKept (raiseCause c b s) t) : t.attention.pending.getLsbD c.bit.val = true
      ∧ (t.attention.sets.get c.bit).getLsbD b.val = true := by
  obtain ⟨hpending, hset⟩ := raiseCause_raised hc b s
  exact ⟨h.pending _ hpending, h.sets _ _ hset⟩

end Sys2Proof.Machine
end

section
/-! PROOF. A frame handed to a full queue inside a rule (R158): OverflowTakesTheOtherSteps, rule by
rule. -/

namespace Sys2Proof.Machine

/-! ## A seek bound before its bay is released -/

theorem foldl_publishAt_start {s t u : State} {b : Bay} (htime : u.time = t.time)
    (hstore : u.store = t.store) (hstreams : u.streams = t.streams) (ps : List Pos) :
    (ps.foldl (s.publishAt b) u).streams = (ps.foldl (s.publishAt b) t).streams := by
  induction ps generalizing t u with
  | nil => exact hstreams
  | cons p ps ih =>
    have ht := publishAt_keeps s b t p
    have hu := publishAt_keeps s b u p
    exact ih (hu.time.trans (htime.trans ht.time.symm)) (hu.store.trans (hstore.trans ht.store.symm))
      (publishAt_streams_congr rfl rfl htime hstore hstreams)

theorem bindSeek_seekAt_self (b : Bay) (p : Pos) (r : Seek) (s : State) :
    (bindSeek b p r s).seekAt b p = some { r with state := .committed } :=
  State.seekAt_putSeek_self ..

theorem bindSeek_seekAt_ne {b c : Bay} {p q : Pos} (r : Seek) (s : State) (h : ¬(b = c ∧ p = q)) :
    (bindSeek b p r s).seekAt c q = s.seekAt c q :=
  (State.seekAt_putSeek ..).trans (if_neg h)

section
variable {b : Bay} {s : State} {p : Pos} {r : Seek} (hr : s.seekAt b p = some r)
  (hstate : r.state = .granted)
include hr hstate

theorem bindSeek_loadAt (c : Bay) (i : Slot) : (bindSeek b p r s).loadAt b c i = s.loadAt b c i := by
  funext q
  unfold State.loadAt
  obtain rfl | hq := eq_or_ne p q
  · rw [bindSeek_seekAt_self, hr]
    simp only [Option.map_some, hstate, reduceCtorEq, if_false]
    rfl
  · rw [bindSeek_seekAt_ne r s fun h => hq h.2]
    rfl

theorem bindSeek_unposts (ps : List Pos) : (bindSeek b p r s).unposts b ps = s.unposts b ps := by
  funext ⟨c, q⟩
  have hposted : (bindSeek b p r s).isPosted b q = s.isPosted b q := by
    unfold State.isPosted
    obtain rfl | hq := eq_or_ne p q
    · rw [bindSeek_seekAt_self, hr]
      simp [hstate]
    · rw [bindSeek_seekAt_ne r s fun h => hq h.2]
  unfold State.unposts
  rw [hposted]

theorem bindSeek_publishAt : (bindSeek b p r s).publishAt b = s.publishAt b := by
  funext u q
  unfold State.publishAt
  obtain rfl | hq := eq_or_ne p q
  · rw [bindSeek_seekAt_self, hr]
    simp only [hstate, reduceCtorEq, if_false]
    rfl
  · rw [bindSeek_seekAt_ne r s fun h => hq h.2]
    rfl

/-- The release of a bay takes a binding back: it asks only whether a seek is POSTED, and for its load
and its samples. -/
theorem freeBay_bindSeek : freeBay b (bindSeek b p r s) = freeBay b s := by
  have hkeeps : KeepsSetup s (bindSeek b p r s) := by constructor <;> rfl
  rw [freeBay_eq, freeBay_eq]
  refine KeepsSetup.eq (((freedAt_keeps ..).symm.trans hkeeps).trans (freedAt_keeps ..)) rfl ?seeks
    ?exposure ?queue ?engine ?streams rfl
  case seeks =>
    refine Tab.ext_get fun c => Tab.ext_get fun q => ?_
    refine (freedAt_seekAt ..).trans (Eq.trans ?_ (freedAt_seekAt ..).symm)
    exact ite_congr rfl (fun _ => rfl) fun hc => bindSeek_seekAt_ne r s fun h => hc ⟨h.1, mem_positions q⟩
  case exposure =>
    refine Tab.ext_get fun c => Tab.ext_get fun i => ?_
    refine (freedAt_exposureAt ..).trans (Eq.trans ?_ (freedAt_exposureAt ..).symm)
    rw [hkeeps.slot, bindSeek_loadAt hr hstate]
    rfl
  case queue =>
    refine congrArg (fun f => s.queue.filter fun e => !f (e.bay, e.pos)) (bindSeek_unposts hr hstate _)
  case engine =>
    refine congrArg (fun f => s.engine.filter fun sr => !f (sr.bay, sr.pos)) (bindSeek_unposts hr hstate _)
  case streams =>
    show (positions.foldl ((bindSeek b p r s).publishAt b) (bindSeek b p r s)).streams
      = (positions.foldl (s.publishAt b) s).streams
    rw [bindSeek_publishAt hr hstate]
    exact foldl_publishAt_start (t := s) (u := bindSeek b p r s) rfl rfl rfl positions

theorem faultLane_bindSeek : faultLane b (bindSeek b p r s) = faultLane b s := by
  refine faultLane_congr ?_ rfl
  rw [freeBay_bindSeek hr hstate]
  have hlane : (bindSeek b p r s).lane b = (stopStream b (freeBay b s)).lane b := by
    rw [stopStream_lane, freeBay_lane]
    rfl
  rw [hlane, putLane_same]

end

/-! ## Searches, bursts, revisions and COMMITs (R77, R103, R109, R20) -/

section
variable {s : State} {b : Bay} (hready : (s.lane b).state = .ready)
  (hfull : (s.lane b).queue.length = 32) (hq : QueueLawful s)
include hready hfull hq

theorem burstOverflow (h : (s.stream b).burst ≠ none) :
    ∃ t, exec (.burstComplete b) s = .next t ∧ LaneFaulted b s t := by
  obtain ⟨x, hx⟩ := Option.ne_none_iff_exists'.mp h
  have hdelivered : stoppedStream (deliverBurst s.now x (s.stream b)) = stoppedStream (s.stream b) := rfl
  refine ⟨readRevisions (faultLane b s), ?_, faultLane_faulted hq⟩
  show Host.Outcome.next (completeBurst b s) = _
  unfold completeBurst
  simp only [hx]
  rw [handThen_of_full hfull.ge hready, faultLane_putStream hdelivered]

theorem revisionOverflow {v : Revision} (hv : v ∈ (s.stream b).revisions) :
    ∃ t, exec (.revisionComplete b v.record) s = .next t ∧ LaneFaulted b s t := by
  obtain ⟨w, hw⟩ : ∃ w, (s.stream b).revisions.find? (fun x => x.record == v.record) = some w :=
    Option.isSome_iff_exists.mp (List.find?_isSome.mpr ⟨v, hv, by simp⟩)
  have hdropped : stoppedStream (dropRevision v.record (s.stream b)) = stoppedStream (s.stream b) := rfl
  refine ⟨readRevisions (faultLane b s), ?_, faultLane_faulted hq⟩
  show Host.Outcome.next (completeRevision b v.record s) = _
  unfold completeRevision
  simp only [hw]
  rw [handThen_of_full hfull.ge hready, faultLane_putStream hdropped]

theorem commitOverflow (x : Byte) :
    ∃ t, exec (.commit b [x]) s = .next t ∧ LaneFaulted b s t := by
  refine ⟨readRevisions (faultLane b s), ?_, faultLane_faulted hq⟩
  have hgoodFull : 32 ≤ ((goodFrame b s).lane b).queue.length := by rw [goodFrame_queue, hfull]
  have hgoodReady : ((goodFrame b s).lane b).state = .ready := by rw [goodFrame_lane_state, hready]
  rw [exec_commit_of_ready hready]
  by_cases h : ∃ p r, (goodFrame b s).findTag b (x.extractLsb' 0 4) = some (p, r) ∧ r.state = .granted
  · obtain ⟨p, r, hfind, hstate⟩ := h
    have hr : (goodFrame b s).seekAt b p = some r := (findTag_some hfind).1
    rw [takeCommitTag_granted hfind hstate, handThen_of_full hgoodFull hgoodReady,
      faultLane_bindSeek hr hstate, faultLane_goodFrame]
  · rw [takeCommitTag_other fun p r hfind hstate => h ⟨p, r, hfind, hstate⟩, sendFrame,
      handThen_of_full hgoodFull hgoodReady, id_eq, faultLane_goodFrame]

end

/-! ## The completion of a search (R77) -/

theorem searchOverflow : ∀ (s : State) (sr : Search) (r : Seek) (c : Slot) (o : Bool),
    s.engine = some sr → s.seekAt sr.bay sr.pos = some r → chooseSlot sr = some (c, o) →
    atOrBefore (s.slot + 2) c = true → (s.lane sr.bay).state = .ready →
    (s.lane sr.bay).queue.length = 32 → QueueLawful s →
    ∃ t, exec .searchComplete s = .next t
      ∧ LaneFaulted sr.bay (grantSteps sr.bay sr.pos (grantedSeek r c o) s) t := by
  intro s sr r c o hsr hr hc hnear hready hfull hq
  have hgranted : (grantedSeek r c o).state ≠ .posted := by
    show (if _ then SeekState.committed else .granted) ≠ _
    split <;> simp
  refine ⟨_, ?_, faultLane_faulted (queueLawful_grantSteps hq hgranted)⟩
  rw [exec_searchComplete_of_chosen hsr hr hc hnear, handThen_of_full hfull.ge hready]

/-! ## A HELLO (R154) -/

theorem helloOverflow {s : State} {b : Bay} (mb ml i0 i1 i2 i3 : Byte) {caps : Caps}
    (hcaps : capsOf [1, mb, ml, i0, i1, i2, i3] = caps)
    (hstate : (s.lane b).state = .detected ∨ (s.lane b).state = .fault)
    (hfull : (s.lane b).queue.length = 32) (hq : QueueLawful s) :
    ∃ t, exec (.hello b [1, mb, ml, i0, i1, i2, i3]) s = .next t
      ∧ LaneFaulted b (refreshStream b (s.putLane b { s.lane b with state := .ready, caps := some caps })) t := by
  refine ⟨_, ?_, faultLane_faulted hq⟩
  have hunabsent : (s.lane b).state ≠ .absent := by obtain h | h := hstate <;> simp [h]
  have hunready : (goodFrame b s).isReady b ≠ true := by
    refine mt isReady_iff.mp ?_
    rw [goodFrame_lane_state]
    obtain h | h := hstate <;> simp [h]
  have hlane : (refreshStream b ((goodFrame b s).putLane b (readyLane ((goodFrame b s).lane b) caps))).lane b
      = readyLane ((goodFrame b s).lane b) caps := by
    rw [refreshStream_lane, State.lane_putLane_self]
  have hgoodFull : 32 ≤ (readyLane ((goodFrame b s).lane b) caps).queue.length := by
    show 32 ≤ ((goodFrame b s).lane b).queue.length
    rw [goodFrame_queue, hfull]
  have hmoved : refreshStream b ((goodFrame b s).putLane b (readyLane ((goodFrame b s).lane b) caps))
      = (refreshStream b (s.putLane b { s.lane b with state := .ready, caps := some caps })).putLane b
          (readyLane (s.lane b) caps) := by
    rw [goodFrame, State.lane_putLane_self, putLane_putLane]
    exact refreshStream_putLane rfl
  show Host.Outcome.next (if _ then _ else _) = _
  rw [if_neg hunabsent, takeHello, if_neg (by simp [byteAt]), if_neg hunready, hcaps, admitDrive, sendFrame,
    handThen_of_full (by rwa [hlane]) (by rw [hlane]; rfl), id_eq, hmoved, faultLane_putLane]
  rw [refreshStream_lane, State.lane_putLane_self]
  rfl

/-! ## A disable (R100) -/

theorem faultLane_setPort (b : Bay) (s : State) (x : Port) :
    faultLane b (s.setPort x) = (faultLane b s).setPort x := by
  rw [faultLane_eq, faultLane_eq, freeBay_setPort, ← searchStart_setPort]
  generalize freeBay b s = v
  rfl

/-- A setting write: the record, the row of the accumulators at another rate, the effective values (R97,
R143, R167). -/
theorem writeSetting_eq (b : Bay) (x : Setting) (s : State) : writeSetting b x s =
    ((s.setSettings (s.settings.upd b x)).setAcc
      (if x.rate = (s.setting b).rate then s.acc else s.acc.upd b (Tab.fill 16 0))).putStream b
        { s.stream b with
          burstLen := effectiveBurst x (s.lane b).caps
          lead := effectiveStreamLead x (s.lane b).caps } := by
  have hsetting : (s.setSettings (s.settings.upd b x)).setting b = x := Tab.get_upd_self ..
  unfold writeSetting refreshStream
  dsimp only
  rw [hsetting]
  split <;> rfl

/-- What a disable leaves besides HALT, STREAM_STOPPED and the state of its stream (R100, R167, R168). -/
def State.disabled (s : State) (b : Bay) (w : SettingFields) : State :=
  (writeSetting b (takeSetting false w) s).setPort
    (s.port.answer 0xA1#8 (0x00#8 :: BitVec.ofNat 8 b.val :: (takeSetting false w).bytes))

theorem queueLawful_of_blocks {s t : State} (hseeks : t.seeks = s.seeks) (hqueue : t.queue = s.queue)
    (hengine : t.engine = s.engine) (hq : QueueLawful s) : QueueLawful t := by
  unfold QueueLawful State.isPosted State.seekAt
  rw [hseeks, hqueue, hengine]
  exact hq

theorem queueLawful_raiseCause {s : State} (c : Cause) (b : Bay) (hq : QueueLawful s) :
    QueueLawful (raiseCause c b s) :=
  queueLawful_of_blocks (s := s) rfl rfl rfl hq

theorem queueLawful_disabled {s : State} {b : Bay} {w : SettingFields} (hq : QueueLawful s) :
    QueueLawful (s.disabled b w) := by
  rw [State.disabled, writeSetting_eq]
  exact queueLawful_of_blocks (s := s) rfl rfl rfl hq

theorem setPort_raiseCause (c : Cause) (b : Bay) (s : State) (x : Port) :
    (raiseCause c b s).setPort x = raiseCause c b (s.setPort x) := rfl

/-- What a setting write leaves and writes of its own bay. -/
theorem writeSetting_own (b : Bay) (x : Setting) (s : State) :
    (writeSetting b x s).lane b = s.lane b
      ∧ (writeSetting b x s).stream b = { s.stream b with
          burstLen := effectiveBurst x (s.lane b).caps, lead := effectiveStreamLead x (s.lane b).caps }
      ∧ (writeSetting b x s).port = s.port ∧ (writeSetting b x s).setting b = x := by
  rw [writeSetting_eq]
  exact ⟨rfl, State.stream_putStream_self .., rfl, Tab.get_upd_self s.settings b x⟩

/-- A disable of a stream whose HALT finds no room: `u` is what it leaves when nothing halts. -/
theorem exec_streamDisable_fault {s u : State} {b : Bay} {w : SettingFields} (htakes : s.portTakes = true)
    (hbusy : s.shapeBusy b (takeSetting false w) = false)
    (hhalt : haltStream b (writeSetting b (takeSetting false w) s) = faultLane b u)
    (hport : u.port = s.port) (hsetting : u.setting b = takeSetting false w) :
    exec (.streamDisable b w) s = .next (readRevisions (faultLane b (u.setPort
      (s.port.answer 0xA1#8 (0x00#8 :: BitVec.ofNat 8 b.val :: (takeSetting false w).bytes))))) := by
  have hkeeps := faultLane_keeps b u
  have hrequest : disableRequest b w s = answer .settingWrite statusOk (settingPayload b)
      (readRevisions (faultLane b u)) := by
    rw [disableRequest, ← hhalt]
    exact if_neg (by simp [hbusy])
  have hfaultSetting : (faultLane b u).setting b = takeSetting false w := by
    rw [State.setting, hkeeps.settings]
    exact hsetting
  have hfaultPort : (faultLane b u).port = s.port := hkeeps.port.trans hport
  show Host.Outcome.next (if _ then disableRequest b w s else s) = _
  rw [if_pos htakes, hrequest, faultLane_setPort, ← hfaultPort, ← hfaultSetting]
  generalize faultLane b u = v
  rfl

section
variable {s : State} {b : Bay} (hready : (s.lane b).state = .ready)
  (hfull : (s.lane b).queue.length = 32)
include hready hfull

theorem haltStream_starting_full (h : (s.stream b).state = .starting) :
    haltStream b s = faultLane b s := by
  simp only [haltStream, h]
  rw [handThen_of_full hfull.ge hready]
  exact faultLane_putStream rfl

theorem haltStream_running_full (h : (s.stream b).state = .running) (hlist : (s.stream b).delivery ≠ []) :
    haltStream b s = faultLane b s := by
  have hdrain : ((s.putStream b (drainingStream (s.stream b))).stream b).delivery ≠ [] := by
    rw [State.stream_putStream_self]
    exact hlist
  simp only [haltStream, h]
  rw [handThen_of_full hfull.ge hready, if_neg hdrain]
  exact faultLane_putStream rfl

theorem haltStream_drained_full (h : (s.stream b).state = .running) (hlist : (s.stream b).delivery = []) :
    haltStream b s = faultLane b (raiseCause .streamStopped b s) := by
  have hdrain : ((s.putStream b (drainingStream (s.stream b))).stream b).delivery = [] := by
    rw [State.stream_putStream_self]
    exact hlist
  have hraise (x : Stream) (u : State) : raiseCause .streamStopped b (u.putStream b x)
      = (raiseCause .streamStopped b u).putStream b x := rfl
  simp only [haltStream, h]
  rw [handThen_of_full hfull.ge hready, if_pos hdrain, hraise, State.stream_putStream_self]
  refine (faultLane_putStream ?_).trans ((congrArg (faultLane b) (hraise ..)).trans
    (faultLane_putStream rfl))
  rw [hraise, State.stream_putStream_self]
  rfl

end

section
variable {s : State} {b : Bay} {w : SettingFields} (hready : (s.lane b).state = .ready)
  (hfull : (s.lane b).queue.length = 32) (hq : QueueLawful s) (htakes : s.portTakes = true)
  (hbusy : s.shapeBusy b (takeSetting false w) = false)
include hready hfull hq htakes hbusy

theorem disableOverflow (h : (s.stream b).state = .starting
      ∨ (s.stream b).state = .running ∧ (s.stream b).delivery ≠ []) :
    ∃ t, exec (.streamDisable b w) s = .next t ∧ LaneFaulted b (s.disabled b w) t := by
  obtain ⟨hlane, hstream, hport, hsetting⟩ := writeSetting_own b (takeSetting false w) s
  refine ⟨_, exec_streamDisable_fault htakes hbusy ?_ hport hsetting, faultLane_faulted (queueLawful_disabled hq)⟩
  rw [← hlane] at hready hfull
  obtain h | ⟨h, hlist⟩ := h
  · exact haltStream_starting_full hready hfull (by rw [hstream, h])
  · exact haltStream_running_full hready hfull (by rw [hstream, h]) (by rwa [hstream])

theorem disableOverflow_drained (h : (s.stream b).state = .running)
    (hlist : (s.stream b).delivery = []) :
    ∃ t, exec (.streamDisable b w) s = .next t
      ∧ LaneFaulted b (raiseCause .streamStopped b (s.disabled b w)) t := by
  obtain ⟨hlane, hstream, hport, hsetting⟩ := writeSetting_own b (takeSetting false w) s
  have hhalt : haltStream b (writeSetting b (takeSetting false w) s)
      = faultLane b (raiseCause .streamStopped b (writeSetting b (takeSetting false w) s)) := by
    rw [← hlane] at hready hfull
    exact haltStream_drained_full hready hfull (by rw [hstream, h]) (by rw [hstream, hlist])
  have hlawful := queueLawful_raiseCause .streamStopped b (queueLawful_disabled (b := b) (w := w) hq)
  refine ⟨_, exec_streamDisable_fault htakes hbusy hhalt hport hsetting, ?_⟩
  rw [setPort_raiseCause]
  exact faultLane_faulted hlawful

end

/-! ## An expiry (R23) -/

theorem expiryOverflow {s : State} {b : Bay} {p : Pos} {r : Seek} (order : List Duty)
    (hslot : s.slotStartNext = true) (hready : (s.lane b).state = .ready)
    (hfull : (s.lane b).queue.length = 32) (hr : s.seekAt b p = some r) (hstate : r.state = .granted)
    (hlaunch : r.launch = some (slotOf (s.now + 1)))
    (hothers : ∀ q x, q ≠ p → s.seekAt b q = some x → x.launch ≠ some (slotOf (s.now + 1))) :
    let u := faultLane b (expirySteps b p r s.slotOpened)
    let t := readRevisions ((dutyOrder (.seek b :: order)).foldl
      (runDuty s.time.pendingDivisor.isSome) s.slotOpened)
    Undisturbed b u t ∧ CausesKept u t := by
  have hopened : s.slotOpened.lane b = s.lane b := slotOpened_lane s b
  have hfirst : runDuty s.time.pendingDivisor.isSome s.slotOpened (.seek b)
      = faultLane b (expirySteps b p r s.slotOpened) := by
    rw [runDuty_seek_single _ (by rw [slotOpened_now]; exact hslot) (slotOpened_not_due hothers),
      launchOrExpire_granted (slotOpened_seekAt_waiting hr (.inl hstate))
        (by rw [slotOpened_slot, hlaunch]) hstate,
      handThen_of_full (by rw [hopened, hfull]) (by rw [hopened, hready])]
  dsimp only
  rw [dutyOrder_cons, List.foldl_cons, hfirst]
  exact slotStart_out _ _ (faultLane_out b _)

/-- Settles O60, rule by rule. -/
theorem overflowTakesTheOtherSteps : Obligations.OverflowTakesTheOtherSteps := by
  refine ⟨fun s sr r c o hsr hr hc hnear hready hfull hq => ?search,
    fun s b hready hfull hq => ⟨burstOverflow hready hfull hq, fun v hv => revisionOverflow hready hfull hq hv,
      commitOverflow hready hfull hq, fun w htakes => ?disable⟩,
    fun s b mb ml i0 i1 i2 i3 hstate hfull hq => ?hello,
    fun s order b p r hheld hnothing hslot hready hfull hr hstate hlaunch hothers => ?expiry⟩
  case search =>
    intro late g
    obtain ⟨t, hexec, hfaulted⟩ := searchOverflow s sr r c o hsr hr hc hnear hready hfull hq
    have hexposure : (searchStart (s.grantAt sr.bay sr.pos g)).exposure
        = (s.grantAt sr.bay sr.pos g).exposure := by
      rw [searchStart_eq]
      rfl
    refine ⟨grantSteps sr.bay sr.pos g s, t, hexec, hfaulted, ?_, ?_, fun b i => ?_⟩ <;>
      rw [grantSteps_eq]
    · exact congrArg (exec .searchStart) (searchStart_undo (s.grantAt sr.bay sr.pos g))
    · have hforced : s.forcedGrant sr.bay g = _ := forcedGrant_grantedSeek s sr.bay r c o
      rw [← hforced, hexposure]
      exact searchStart_eq _
    · rw [State.exposureAt, hexposure]
      exact addExposure_at sr.bay g s b i
  case disable =>
    intro x old v hburst hlead
    have hbusy : s.shapeBusy b (takeSetting false w) = false := by
      have hburst : (takeSetting false w).burst = (s.setting b).burst := hburst
      have hlead : (takeSetting false w).lead = (s.setting b).lead := hlead
      simp [State.shapeBusy, hburst, hlead]
    have hdisabled : s.disabled b w = v.putStream b { s.stream b with
        burstLen := effectiveBurst x (s.lane b).caps, lead := effectiveStreamLead x (s.lane b).caps } := by
      rw [State.disabled, writeSetting_eq]
      rfl
    refine ⟨fun h => hdisabled ▸ disableOverflow hready hfull hq htakes hbusy h, fun h hlist => ?_⟩
    obtain ⟨t, hexec, hfaulted⟩ := disableOverflow_drained hready hfull hq htakes hbusy h hlist
    rw [raiseCause_eq, raiseCause_attention (by decide), hdisabled] at hfaulted
    exact ⟨t, hexec, hfaulted⟩
  case hello =>
    intro caps
    obtain ⟨t, hexec, hfaulted⟩ := helloOverflow mb ml i0 i1 i2 i3 (capsOf_hello mb ml i0 i1 i2 i3)
      hstate hfull hq
    rw [refreshStream, State.lane_putLane_self, effectiveBurst_some _ caps mb rfl] at hfaulted
    exact ⟨t, hexec, hfaulted⟩
  case expiry =>
    refine ⟨_, exec_slotStart_opened hnothing hheld hslot _, ?_⟩
    have hout := faultLane_out b (expirySteps b p r s.slotOpened)
    obtain ⟨hlane, hexpiry, hfault⟩ := expiryFault_out b p r s.slotOpened
    obtain ⟨hrest, hcauses⟩ := expiryOverflow order hslot hready hfull hr hstate hlaunch hothers
    rw [hrest.lane, hlane, slotOpened_lane, (hrest.out hout).stopped]
    exact ⟨rfl, (hrest.out hout).free, ⟨rfl, rfl, rfl, rfl, rfl⟩,
      (hexpiry.trans hcauses).raised (by decide), (hfault.trans hcauses).raised (by decide)⟩

end Sys2Proof.Machine
end

section
/-! PROOF. The values after a reset and the laws that hold of them: ResetLeavesEveryBlock,
ResetsLeaveResetValues and ResetIsLawful. -/

namespace Sys2Proof.Machine

/-! ## The reset values (R43, R46, R61, R63, R96, R131, R144, R159, R170, R179) -/

theorem reset_history (b : Bay) (i : Fin 72) : (State.reset.history.get b).get i = 0 := by
  show ((Tab.fill 16 (Tab.fill 72 0)).get b).get i = 0
  rw [Tab.get_fill, Tab.get_fill]

theorem reset_exposureAt (b : Bay) (p : Fin 64) : State.reset.exposureAt b p = 0 := by
  show ((Tab.fill 16 (Tab.fill 64 0)).get b).get p = 0
  rw [Tab.get_fill, Tab.get_fill]

theorem reset_accAt (b src : Bay) : State.reset.accAt b src = 0 := by
  show ((Tab.fill 16 (Tab.fill 16 0)).get b).get src = 0
  rw [Tab.get_fill, Tab.get_fill]

/-- A coefficient of the reset table. -/
theorem zeroTable_get (b src : Bay) : (CoeffTable.zero.get b).get src = ⟨0, 0⟩ := by
  rw [CoeffTable.zero, Tab.get_fill, Tab.get_fill]

/-- Settles O3, block by block. -/
theorem resetLeavesEveryBlock : Obligations.ResetLeavesEveryBlock :=
  ⟨rfl, reset_seekAt, reset_history, reset_exposureAt, rfl, rfl, rfl, reset_stream, reset_setting,
    fun b src => ⟨zeroTable_get b src, zeroTable_get b src, zeroTable_get b src⟩, rfl, rfl, rfl, rfl, rfl, rfl,
    reset_accAt, rfl, rfl, rfl, fun _ => Tab.get_fill .., reset_lane, fun _ => Tab.get_fill .., rfl⟩

/-! ## The resets (R46, R131, R132, R163, R170) -/

theorem endedSelect_eq (x : SelectPhase) : endedSelect x = if x = .idle then .idle else .over := by
  cases x <;> simp [endedSelect]

/-- Settles O4: both resets leave the reset values, with the store of each. -/
theorem resetsLeaveResetValues : Obligations.ResetsLeaveResetValues := by
  intro s ended
  have hended : endedSelect s.port.select = ended := endedSelect_eq s.port.select
  exact ⟨hended ▸ rfl, hended ▸ rfl⟩

/-! ## The laws of the reset values -/

theorem zeroTable_lawful : CoeffTable.zero.Lawful := by
  intro b src
  rw [zeroTable_get]
  exact ⟨by decide, fun _ => rfl⟩

theorem reset_accumulatorsLawful : AccumulatorsLawful State.reset := by
  intro b src
  rw [reset_accAt, reset_setting]
  exact ⟨rfl, fun _ => rfl⟩

theorem reset_heldAtReset : HeldAtReset State.reset := fun _ => ⟨Store.reset, .power, rfl⟩

theorem reset_isPosted (b : Bay) (p : Pos) : State.reset.isPosted b p = false := by
  rw [State.isPosted, reset_seekAt]
  rfl

theorem reset_queueLawful : QueueLawful State.reset := by
  refine ⟨List.nodup_nil, fun b p => ?_, fun sr h => nomatch h⟩
  rw [reset_isPosted]
  exact iff_of_false (List.not_mem_nil) (by simp)

/-- Without a live seek no law of the records has anything to say. -/
theorem reset_no_seek {P : Prop} {b : Bay} {p : Pos} {r : Seek} (h : State.reset.seekAt b p = some r) :
    P := by
  rw [reset_seekAt] at h
  cases h

theorem reset_liveSeeks (b : Bay) : State.reset.liveSeeks b = [] := by
  refine List.eq_nil_iff_forall_not_mem.mpr fun x hx => ?_
  exact reset_no_seek (mem_liveSeeks.mp hx)

theorem reset_exposureAgrees : ExposureAgrees State.reset := by
  intro _ b p _
  rw [reset_exposureAt, State.calendarLoad]
  simp [reset_liveSeeks]

theorem reset_calendarLawful : CalendarLawful State.reset :=
  ⟨reset_heldAtReset, reset_settingsLawful, reset_queueLawful, fun _ _ _ h => reset_no_seek h,
    fun _ h => (nomatch h), reset_exposureAgrees⟩

theorem reset_spacingLawful : SpacingLawful State.reset :=
  ⟨reset_calendarLawful, fun _ _ _ _ _ _ _ _ h => reset_no_seek h, fun _ h => (nomatch h)⟩

theorem reset_deliveriesLawful : DeliveriesLawful State.reset := by
  intro b
  rw [reset_stream]
  exact ⟨by decide, fun x hx => (nomatch hx), fun h => (nomatch h), fun h => (nomatch h)⟩

theorem reset_timeLawful : TimeLawful State.reset :=
  ⟨by decide, by decide, by decide, fun _ h => (nomatch h), by decide⟩

theorem reset_revisionsRead : RevisionsRead State.reset := by
  intro b v hv
  rw [reset_stream] at hv
  cases hv

/-- Settles O52, law by law. -/
theorem resetIsLawful : Obligations.ResetIsLawful :=
  ⟨⟨zeroTable_lawful, zeroTable_lawful, zeroTable_lawful⟩, reset_accumulatorsLawful,
    fun _ _ _ h => (nomatch h), reset_laneStreamLawful, reset_tagsLawful, reset_timeLawful, Tab.get_fill ..,
    reset_revisionsRead, reset_workBounded, reset_spacingLawful,
    reset_heldAtReset, reset_settingsLawful, reset_laneStreamLawful, reset_deliveriesLawful⟩

end Sys2Proof.Machine
end

section
/-! PROOF. The numbers of a correction value (R33, R34, R36, R84 to R90): CorrectionsCarryQuarterUnits. -/

namespace Sys2Proof.Machine

/-! ## Quarter units (R87) -/

theorem quarterUnits_neg (u : Int) : quarterUnits (-u) = -quarterUnits u := by
  rw [quarterUnits, quarterUnits, Int.sign_neg, Int.natAbs_neg, Int.neg_mul]

theorem quarterUnits_of_nonneg {u : Int} (h : 0 ≤ u) : quarterUnits u = (u + 2048) / 4096 := by
  obtain rfl | hpos := h.eq_or_lt
  · rfl
  · rw [quarterUnits, Int.sign_eq_one_of_pos hpos]
    omega

/-- Quarter units are the nearest to `u / 4096`, and of two equally near the one further from zero. -/
theorem quarterUnits_nearest (u : Int) : 2 * (4096 * quarterUnits u - u).natAbs ≤ 4096
    ∧ (2 * (4096 * quarterUnits u - u).natAbs = 4096 → u.natAbs < (4096 * quarterUnits u).natAbs) := by
  obtain h | h := le_total 0 u
  · rw [quarterUnits_of_nonneg h]
    omega
  · have hneg := quarterUnits_of_nonneg (Int.neg_nonneg_of_nonpos h)
    rw [quarterUnits_neg] at hneg
    omega

/-! ## The spread over the phases (R88 to R90) -/

section
variable (u : Int)

theorem spread_sequential (p : Nat) :
    spread .sequential u p = if (p : Int) < u % 4 then u / 4 + 1 else u / 4 := rfl

theorem spread_interleaved (p : Nat) : spread .interleaved u p
    = if ((if p = 1 then 2 else if p = 2 then 1 else p : Nat) : Int) < u % 4 then u / 4 + 1 else u / 4 :=
  rfl

/-- The four phases sum to the quarter count. -/
theorem spread_sum (o : Dither) :
    spread o u 0 + spread o u 1 + spread o u 2 + spread o u 3 = u := by
  cases o
  · simp only [spread_sequential]
    omega
  · simp [spread_interleaved]
    omega

/-- Each phase carries the floor of a quarter of the count or one more. -/
theorem spread_floor (o : Dither) (p : Nat) :
    spread o u p = u / 4 ∨ spread o u p = u / 4 + 1 ∧ u % 4 ≠ 0 := by
  unfold spread
  split
  · next h => exact .inr ⟨rfl, by omega⟩
  · exact .inl rfl

theorem spread_range (o : Dither) (p : Nat) (hlo : -508 ≤ u) (hhi : u ≤ 508) :
    -127 ≤ spread o u p ∧ spread o u p ≤ 127 := by
  obtain h | ⟨h, hrest⟩ := spread_floor u o p <;> omega

theorem spread_near (o : Dither) (p : Nat) : (4 * spread o u p - u).natAbs < 4 := by
  obtain h | ⟨h, hrest⟩ := spread_floor u o p <;> omega

/-- The two orders differ at a half alone. -/
theorem spread_orders (p : Nat) (hp : p < 4) (h : u % 4 ≠ 2) :
    spread .sequential u p = spread .interleaved u p := by
  rw [spread_sequential, spread_interleaved]
  interval_cases p <;> simp <;> omega

end

/-- Of a count `4 × h + f` the phases that carry `h + 1`. -/
theorem spread_count (h : Int) (f p : Nat) (hf : f < 4) (hp : p < 4) :
    spread .sequential (4 * h + f) p = (if p < f then h + 1 else h)
      ∧ spread .interleaved (4 * h + f) p
        = (if f = 2 then if p = 0 ∨ p = 2 then h + 1 else h else if p < f then h + 1 else h)
      ∧ (f = 2 → p = 1 ∨ p = 2 →
          spread .sequential (4 * h + f) p ≠ spread .interleaved (4 * h + f) p) := by
  have hdiv : (4 * h + f) / 4 = h := by omega
  have hmod : (4 * h + f) % 4 = f := by omega
  rw [spread_sequential, spread_interleaved, hdiv, hmod]
  interval_cases f <;> interval_cases p <;> simp

/-! ## Torques (R33, R34, R36) -/

theorem toInt_of_pos {x : Sample} (h : 0 < x.toInt) : x.toInt = x.toNat := by
  rw [BitVec.toInt_eq_toNat_cond] at h ⊢
  have := x.isLt
  split at h <;> omega

section
variable {s : State} {b : Bay} {m : Sample}

theorem torque_now (h : (s.now - m).toInt ≤ 0) : s.torque b m = s.recordTorque b m := by
  rw [State.torque, if_neg (by simpa [earlier] using h)]

theorem torque_history {i : Fin 72} (hi : 1 ≤ i.val) (h : (s.now - m).toInt = i.val) :
    s.torque b m = (s.history.get b).get i := by
  have hpos : 0 < (s.now - m).toInt := by omega
  have hnat : (s.now - m).toNat = i.val := by
    have := toInt_of_pos hpos
    omega
  rw [State.torque, if_pos (by simpa [earlier] using hpos)]
  simp only [hnat, i.isLt, dif_pos, Fin.eta]

theorem torque_past (h : 72 ≤ (s.now - m).toInt) : s.torque b m = 0 := by
  have hpos : 0 < (s.now - m).toInt := by omega
  have hnat : ¬(s.now - m).toNat < 72 := by
    have := toInt_of_pos hpos
    omega
  rw [State.torque, if_pos (by simpa [earlier] using hpos), dif_neg hnat]

end

section
variable (r : Seek)

theorem torqueAt_posted (m : Sample) (h : r.state = .posted) : r.torqueAt m = 0 := by
  simp [Seek.torqueAt, Seek.isGranted, h]

theorem torqueAt_granted (m : Sample) {l : Slot} (hl : r.launch = some l) (h : r.state ≠ .posted) :
    r.torqueAt m = r.valueAt (m - launchSample l).toInt := by
  simp [Seek.torqueAt, Seek.isGranted, Seek.launchAt, h, hl]

theorem valueAt_of_neg {i : Int} (h : i < 0) : r.valueAt i = 0 := if_pos h

/-- Within the run a value is the profile's level at its index. -/
theorem valueAt_run {i : Nat} {v : Int} (hv : (profileLevels r.segments)[i]? = some v)
    (hi : i < r.runEnd) : r.valueAt i = v := by
  have hrun : (runLevels r.segments r.runEnd)[i]? = some v := by
    rw [runLevels, List.getElem?_take_of_lt hi, hv]
  obtain ⟨hlt, -⟩ := List.getElem?_eq_some_iff.mp hrun
  rw [Seek.valueAt_nat, profileValues, List.getD_append _ _ _ _ hlt, List.getD_eq_getElem?_getD, hrun,
    Option.getD_some]

/-- Past its tail a compiled record has no torque. -/
theorem valueAt_past (hr : r.Compiled) {i : Nat} (hi : r.runEnd + r.tailLen ≤ i) : r.valueAt i = 0 := by
  obtain ⟨hlength, -, -, -, -, -, hend, -, htail, -, -⟩ := hr
  have hlen := profileValues_length (hlength ▸ hend) r.shift
  rw [Seek.valueAt_nat, List.getD_eq_default]
  omega

end

/-! ## The obligation -/

/-- Settles O49, clause by clause. -/
theorem correctionsCarryQuarterUnits : Obligations.CorrectionsCarryQuarterUnits := by
  refine ⟨fun u => ⟨(quarterUnits_nearest u).1, (quarterUnits_nearest u).2, quarterUnits_neg u⟩,
    fun o u hlo hhi => ⟨spread_sum u o, fun p hp => ⟨?_, ?_, spread_near u o p, spread_orders u p hp⟩⟩,
    spread_count, fun s b m => ⟨?_, ?_, rfl⟩,
    fun s src m => ⟨torque_now, fun i hi h => torque_history hi h, torque_past⟩,
    fun r m => ⟨torqueAt_posted r m, fun l hl h => torqueAt_granted r m hl h, fun i h => valueAt_of_neg r h,
      fun i v hv hi => valueAt_run r hv hi, fun hr i hi => valueAt_past r hr hi⟩⟩
  · exact (spread_range u o p hlo hhi).1
  · exact (spread_range u o p hlo hhi).2
  · exact (spread_range _ _ _ (le_max_left ..) (max_le (by decide) (min_le_left ..))).1
  · exact (spread_range _ _ _ (le_max_left ..) (max_le (by decide) (min_le_left ..))).2

end Sys2Proof.Machine
end

section
/-! PROOF. A slot start hands each lane at most six frames, so that a lane with room for six keeps its
records' course: the launches and expiries of LaunchSlotStartsOrExpiresTheSeek in every order. -/

namespace Sys2Proof.Machine

/-! ## The frames of the duties -/

/-- How many frames a duty can hand to bay `b`'s lane: an EXPIRE for each position, a WELCOME, a MARK. -/
def dutyFrames (b : Bay) : Duty → Nat
  | .seek c => if c = b then 4 else 0
  | .welcome c => if c = b then 1 else 0
  | .mark c => if c = b then 1 else 0
  | .stream _ => 0
  | .epoch => 0
  | .search => 0

/-- How many frames the duties can hand to bay `b`'s lane. -/
def framesOf (b : Bay) (ds : List Duty) : Nat :=
  (ds.map (dutyFrames b)).sum

theorem framesOf_cons (b : Bay) (d : Duty) (ds : List Duty) :
    framesOf b (d :: ds) = dutyFrames b d + framesOf b ds := rfl

theorem framesOf_append (b : Bay) (ds es : List Duty) :
    framesOf b (ds ++ es) = framesOf b ds + framesOf b es := by
  rw [framesOf, List.map_append, List.sum_append]
  rfl

theorem allDuties_nodup : allDuties.Nodup := by decide

theorem allDuties_frames : ∀ b : Bay, framesOf b allDuties = 6 := by decide

/-- The duties of a slot start hand a lane six frames at most, whatever their order. -/
theorem dutyOrder_frames (b : Bay) (order : List Duty) : framesOf b (dutyOrder order) = 6 := by
  have hperm : (dutyOrder order).Perm allDuties :=
    (List.perm_ext_iff_of_nodup (dutyOrder_nodup order) allDuties_nodup).mpr fun d =>
      iff_of_true (mem_dutyOrder order d) (mem_allDuties d)
  rw [framesOf, (hperm.map (dutyFrames b)).sum_eq]
  exact allDuties_frames b

/-- The order cut at the turn of a bay's seeks. -/
theorem dutyOrder_split (b : Bay) (order : List Duty) : ∃ ds es, dutyOrder order = ds ++ .seek b :: es
    ∧ Duty.seek b ∉ ds ∧ Duty.seek b ∉ es ∧ framesOf b ds + framesOf b es = 2 := by
  obtain ⟨ds, es, h⟩ := List.append_of_mem (mem_dutyOrder order (.seek b))
  have hnodup := dutyOrder_nodup order
  have hframes := dutyOrder_frames b order
  rw [h] at hnodup hframes
  rw [framesOf_append, framesOf_cons, dutyFrames, if_pos rfl] at hframes
  obtain ⟨-, hes, hdisjoint⟩ := List.nodup_append.mp hnodup
  exact ⟨ds, es, h, fun hd => hdisjoint _ hd _ (List.mem_cons_self ..) rfl, (List.nodup_cons.mp hes).1,
    by omega⟩

/-! ## Frames handed with room -/

/-- Bay `b` got at most `n` frames, and its records, its lane's state and its last-expired tag stand. -/
structure Handed (b : Bay) (n : Nat) (s t : State) : Prop where
  seeks : ∀ p, t.seekAt b p = s.seekAt b p
  lastExpired : (t.lane b).lastExpired = (s.lane b).lastExpired
  queue : ∃ fs, (t.lane b).queue = (s.lane b).queue ++ fs ∧ fs.length ≤ n

theorem Handed.length_le {b : Bay} {n : Nat} {s t : State} (h : Handed b n s t) :
    (t.lane b).queue.length ≤ (s.lane b).queue.length + n := by
  obtain ⟨fs, hq, hfs⟩ := h.queue
  rw [hq, List.length_append]
  omega

theorem Handed.trans {b : Bay} {m n : Nat} {s t u : State} (h : Handed b m s t) (k : Handed b n t u) :
    Handed b (m + n) s u := by
  obtain ⟨fs, hfs, hm⟩ := h.queue
  obtain ⟨gs, hgs, hn⟩ := k.queue
  refine ⟨fun p => (k.seeks p).trans (h.seeks p), k.lastExpired.trans h.lastExpired, fs ++ gs, ?_, ?_⟩
  · rw [hgs, hfs, List.append_assoc]
  · rw [List.length_append]
    omega

theorem Undisturbed.handed {b : Bay} {s t : State} (h : Undisturbed b s t) (n : Nat) : Handed b n s t :=
  ⟨h.seeks, by rw [h.lane], [], by rw [h.lane, List.append_nil], Nat.zero_le n⟩

theorem sendFrame_handed {b : Bay} {s : State} (f : Frame) (h : (s.lane b).queue.length + 1 ≤ 32) :
    Handed b 1 s (sendFrame b f s) := by
  rw [sendFrame, handThen_of_room h, id_eq]
  refine ⟨fun p => rfl, ?_, [f], ?_, le_rfl⟩
  · rw [State.lane_putLane_self]
  · rw [State.lane_putLane_self]

/-- Any other duty than the bay's seeks, with room for what it hands. -/
theorem runDuty_handed (changed : Bool) {s : State} {b : Bay} {d : Duty} (hd : d ≠ .seek b)
    (hroom : (s.lane b).queue.length + dutyFrames b d ≤ 32) :
    Handed b (dutyFrames b d) s (runDuty changed s d) := by
  by_cases hbay : dutyBay d = some b
  · have hrefl (n : Nat) : Handed b n s s := (Undisturbed.refl b s).handed n
    cases d with
    | seek c =>
      obtain rfl := Option.some.inj hbay
      exact absurd rfl hd
    | stream c =>
      refine ⟨fun p => ?_, ?_, [], ?_, le_rfl⟩ <;> simp only [runDuty, burstDuty_eq]
      · rfl
      · rfl
      · exact (List.append_nil _).symm
    | welcome c =>
      obtain rfl := Option.some.inj hbay
      rw [dutyFrames, if_pos rfl] at hroom ⊢
      simp only [runDuty, welcomeDuty]
      split
      · split
        · exact sendFrame_handed _ hroom
        · exact hrefl 1
      · exact hrefl 1
    | mark c =>
      obtain rfl := Option.some.inj hbay
      rw [dutyFrames, if_pos rfl] at hroom ⊢
      simp only [runDuty, markDuty]
      split
      · split
        · exact sendFrame_handed _ hroom
        · exact hrefl 1
      · exact hrefl 1
    | epoch | search => cases hbay
  · exact (runDuty_undisturbed changed s hbay).handed _

theorem foldl_runDuty_handed (changed : Bool) {b : Bay} (ds : List Duty) (hds : Duty.seek b ∉ ds)
    {s : State} (hroom : (s.lane b).queue.length + framesOf b ds ≤ 32) :
    Handed b (framesOf b ds) s (ds.foldl (runDuty changed) s) := by
  induction ds generalizing s with
  | nil => exact (Undisturbed.refl b s).handed 0
  | cons d ds ih =>
    rw [framesOf_cons] at hroom ⊢
    obtain ⟨hne, hds⟩ := not_or.mp (mt List.mem_cons.mpr hds)
    have hd := runDuty_handed changed (s := s) (Ne.symm hne) (by omega)
    have hlen := hd.length_le
    exact hd.trans (ih hds (by omega))

/-! ## Launches and expiries with room (R22, R23) -/

/-- A seek at the slot start of slot `m`: launched if COMMITTED and due, gone if GRANTED and due. -/
def dueSeek (m : Slot) (r : Seek) : Option Seek :=
  if r.launch = some m ∧ r.state = .committed then some { r with state := .running }
  else if r.launch = some m ∧ r.state = .granted then none
  else some r

/-- The lane with EXPIRE in its queue. -/
def expiringLane (l : Lane) (r : Seek) : Lane :=
  { l with queue := l.queue ++ [.expire r.tag r.launchAt] }

theorem launchOrExpire_expired {b : Bay} {s : State} {p : Pos} {r : Seek} (hr : s.seekAt b p = some r)
    (hlaunch : r.launch = some s.slot) (hstate : r.state = .granted)
    (hroom : (s.lane b).queue.length + 1 ≤ 32) :
    launchOrExpire b s p = expirySteps b p r (s.putLane b (expiringLane (s.lane b) r)) := by
  rw [launchOrExpire_granted hr hlaunch hstate, handThen_of_room hroom]
  rfl

theorem launchOrExpire_room {b : Bay} {s : State} (p : Pos) (hroom : (s.lane b).queue.length + 1 ≤ 32) :
    (∀ q, (launchOrExpire b s p).seekAt b q
        = if p = q then (s.seekAt b p).bind (dueSeek s.slot) else s.seekAt b q)
      ∧ ∃ fs, ((launchOrExpire b s p).lane b).queue = (s.lane b).queue ++ fs ∧ fs.length ≤ 1 := by
  have hidle : (∃ fs, (s.lane b).queue = (s.lane b).queue ++ fs ∧ fs.length ≤ 1) :=
    ⟨[], (List.append_nil _).symm, Nat.zero_le 1⟩
  have hsame (q : Pos) {x : Option Seek} (hx : s.seekAt b p = x) :
      s.seekAt b q = if p = q then x else s.seekAt b q := by
    split
    · next h => rw [← h, hx]
    · rfl
  cases hr : s.seekAt b p with
  | none =>
    rw [launchOrExpire_none hr]
    exact ⟨fun q => hsame q hr, hidle⟩
  | some r =>
    rw [Option.bind_some, dueSeek]
    by_cases hcommitted : r.launch = some s.slot ∧ r.state = .committed
    · rw [launchOrExpire_committed hr hcommitted.1 hcommitted.2, if_pos hcommitted]
      exact ⟨fun q => (State.seekAt_putSeek ..).trans (by simp), hidle⟩
    · rw [if_neg hcommitted]
      by_cases hgranted : r.launch = some s.slot ∧ r.state = .granted
      · rw [launchOrExpire_expired hr hgranted.1 hgranted.2 hroom, if_pos hgranted]
        refine ⟨fun q => (expirySteps_seekAt ..).trans (by simp), [.expire r.tag r.launchAt], ?_, le_rfl⟩
        rw [expirySteps_lane, State.lane_putLane_self]
        rfl
      · rw [if_neg hgranted, launchOrExpire_other hr fun hl => ⟨fun h => hcommitted ⟨hl, h⟩,
          fun h => hgranted ⟨hl, h⟩⟩]
        exact ⟨fun q => hsame q hr, hidle⟩

theorem foldl_launchOrExpire_room {b : Bay} (ps : List Pos) (hps : ps.Nodup) {s : State}
    (hroom : (s.lane b).queue.length + ps.length ≤ 32) :
    (∀ q, (ps.foldl (launchOrExpire b) s).seekAt b q
        = if q ∈ ps then (s.seekAt b q).bind (dueSeek s.slot) else s.seekAt b q)
      ∧ ∃ fs, ((ps.foldl (launchOrExpire b) s).lane b).queue = (s.lane b).queue ++ fs
        ∧ fs.length ≤ ps.length := by
  induction ps using List.reverseRecOn with
  | nil => exact ⟨fun q => rfl, [], (List.append_nil _).symm, le_rfl⟩
  | append_singleton ps p ih =>
    obtain ⟨hps, -, hdisjoint⟩ := List.nodup_append.mp hps
    have hp : p ∉ ps := fun hp => hdisjoint p hp p (by simp) rfl
    rw [List.length_append, List.length_singleton] at hroom ⊢
    obtain ⟨hseeks, fs, hfs, hlen⟩ := ih hps (by omega)
    have hslot := (KeepsSetup.foldl (launchOrExpire_keeps b) ps s).slot
    rw [List.foldl_append, List.foldl_cons, List.foldl_nil]
    generalize ps.foldl (launchOrExpire b) s = u at hseeks hfs hslot ⊢
    obtain ⟨hstep, gs, hgs, hglen⟩ := launchOrExpire_room (s := u) (b := b) p
      (by rw [hfs, List.length_append]; omega)
    refine ⟨fun q => ?_, fs ++ gs, by rw [hgs, hfs, List.append_assoc], ?_⟩
    · rw [hstep, hseeks, hseeks, if_neg hp, hslot]
      obtain rfl | hq := eq_or_ne p q
      · simp
      · simp [hq, hq.symm]
    · rw [List.length_append]
      omega

theorem launchSample_slotOf {m : Sample} (h : isSlotStart m = true) : launchSample (slotOf m) = m := by
  have hmod : m.toNat % 8 = 0 := beq_iff_eq.mp h
  have hlt := m.isLt
  refine BitVec.eq_of_toNat_eq ?_
  rw [launchSample, slotOf, BitVec.toNat_ofNat, BitVec.toNat_ofNat]
  omega

/-! ## The course of a slot start for a bay with room -/

section
variable {s : State} {b : Bay} (hroom : s.hasRoom b 6) (order : List Duty)
include hroom

/-- The duties before the turn of the bay's seeks, the turn, and the duties after it. -/
theorem slotOpened_course (changed : Bool) : ∃ u v w,
    (dutyOrder order).foldl (runDuty changed) s.slotOpened = w
      ∧ v = runDuty changed u (.seek b)
      ∧ (∀ p, u.seekAt b p = s.slotOpened.seekAt b p) ∧ u.now = s.now + 1
      ∧ (u.lane b).queue.length + 4 ≤ 32
      ∧ ((v.lane b).queue.length ≤ (u.lane b).queue.length + 4 → ∃ n, Handed b n v w)
      ∧ CausesKept v w := by
  obtain ⟨ds, es, horder, hds, hes, hframes⟩ := dutyOrder_split b order
  have hopened : s.slotOpened.lane b = s.lane b := slotOpened_lane s b
  have hroom : (s.slotOpened.lane b).queue.length + 6 ≤ 32 := by rwa [hopened]
  have hbefore := foldl_runDuty_handed changed ds hds (s := s.slotOpened) (by omega)
  have hnow := (foldl_runDuty_time_history changed ds s.slotOpened).1
  have hlen := hbefore.length_le
  refine ⟨ds.foldl (runDuty changed) s.slotOpened, _, _, rfl, rfl, hbefore.seeks, ?_, by omega, fun hv => ?_, ?_⟩
  · exact (congrArg TimeBase.sample hnow).trans (slotOpened_now s)
  · rw [horder, List.foldl_append, List.foldl_cons]
    exact ⟨_, foldl_runDuty_handed changed es hes (by omega)⟩
  · rw [horder, List.foldl_append, List.foldl_cons]
    exact (Acts.foldl (runDuty_any changed) es _).causesKept

end

/-- A COMMITTED seek runs from its launch slot's start, whatever the order. -/
theorem slotStart_launches {s : State} {b : Bay} {p : Pos} {r : Seek} (order : List Duty)
    (hslot : s.slotStartNext = true) (hroom : s.hasRoom b 6) (hr : s.seekAt b p = some r)
    (hstate : r.state = .committed) (hlaunch : r.launch = some (slotOf (s.now + 1))) (changed : Bool) :
    ((dutyOrder order).foldl (runDuty changed) s.slotOpened).seekAt b p
      = some { r with state := .running } := by
  obtain ⟨u, v, w, hfold, hv, hseeks, hnow, huroom, hafter, -⟩ := slotOpened_course hroom order changed
  have hstart : isSlotStart u.now = true := by rw [hnow]; exact hslot
  have hturn : v = positions.foldl (launchOrExpire b) u := by
    rw [hv]
    simp only [runDuty, hstart, if_true]
  obtain ⟨hseek, fs, hfs, hlen⟩ := foldl_launchOrExpire_room positions (List.nodup_finRange 4) huroom
  rw [← hturn] at hseek hfs
  obtain ⟨n, hhanded⟩ := hafter (by rw [hfs, List.length_append]; exact Nat.add_le_add_left hlen _)
  have hdue : dueSeek u.slot r = some { r with state := .running } := by
    have huslot : u.slot = slotOf (s.now + 1) := congrArg slotOf hnow
    rw [dueSeek, if_pos ⟨by rw [hlaunch, huslot], hstate⟩]
  rw [hfold, hhanded.seeks, hseek, if_pos (mem_positions p), hseeks,
    slotOpened_seekAt_waiting hr (.inr hstate)]
  exact hdue

/-- A GRANTED seek, the one of its bay that is due, expires at its launch slot's start, whatever the
order. -/
theorem slotStart_expires {s : State} {b : Bay} {p : Pos} {r : Seek} (order : List Duty)
    (hslot : s.slotStartNext = true) (hroom : s.hasRoom b 6) (hr : s.seekAt b p = some r)
    (hstate : r.state = .granted) (hlaunch : r.launch = some (slotOf (s.now + 1)))
    (hothers : ∀ q x, q ≠ p → s.seekAt b q = some x → x.launch ≠ some (slotOf (s.now + 1)))
    (changed : Bool) :
    let w := (dutyOrder order).foldl (runDuty changed) s.slotOpened
    w.seekAt b p = none ∧ Frame.expire r.tag (s.now + 1) ∈ (w.lane b).queue
      ∧ (w.lane b).lastExpired = some r.tag ∧ w.attention.pending.getLsbD 4 = true
      ∧ (w.attention.sets.get Cause.expiry.bit).getLsbD b.val = true := by
  obtain ⟨u, v, w, hfold, hv, hseeks, hnow, huroom, hafter, hcauses⟩ :=
    slotOpened_course hroom order changed
  have hstart : isSlotStart u.now = true := by rw [hnow]; exact hslot
  have huslot : u.slot = slotOf (s.now + 1) := congrArg slotOf hnow
  have hu : u.seekAt b p = some r := by rw [hseeks, slotOpened_seekAt_waiting hr (.inl hstate)]
  have hturn : v = expirySteps b p r (u.putLane b (expiringLane (u.lane b) r)) := by
    rw [hv, runDuty_seek_single changed hstart (p := p) fun q x hq hx => ?_,
      launchOrExpire_expired hu (by rw [hlaunch, huslot]) hstate (by omega)]
    rw [huslot, ← slotOpened_slot]
    exact slotOpened_not_due hothers q x hq (hseeks q ▸ hx)
  have hvlane : v.lane b = { expiringLane (u.lane b) r with lastExpired := some r.tag } := by
    rw [hturn, expirySteps_lane, State.lane_putLane_self]
  obtain ⟨n, hhanded⟩ := hafter (by rw [hvlane, expiringLane, List.length_append]; simp)
  have hexpiry : CausesKept (raiseCause .expiry b (u.putLane b (expiringLane (u.lane b) r))) v :=
    causesKept_of_attention (by rw [hturn, expirySteps_attention])
  obtain ⟨fs, hfs, -⟩ := hhanded.queue
  have hlaunchAt : r.launchAt = s.now + 1 := by
    rw [Seek.launchAt, hlaunch]
    exact launchSample_slotOf hslot
  dsimp only
  rw [hfold]
  refine ⟨?_, ?_, ?_, (hexpiry.trans hcauses).raised (by decide)⟩
  · rw [hhanded.seeks, hturn, expirySteps_seekAt, if_pos ⟨rfl, rfl⟩]
  · rw [hfs, hvlane, expiringLane, hlaunchAt]
    simp
  · rw [hhanded.lastExpired, hvlane]

end Sys2Proof.Machine
end

section
/-! PROOF. What an expiry publishes, whatever the order of the slot start's duties:
LaunchSlotStartsOrExpiresTheSeek. -/

namespace Sys2Proof.Machine

/-! ## What the other duties leave -/

/-- The stream takes forecast changes (R106). -/
def Stream.Listening (x : Stream) : Prop :=
  x.state = .running ∨ x.state = .draining

/-- The clock, the active table, the exposure, and what a forecast change reads and writes of the listening
streams, all as they were. -/
structure Quiet (s t : State) : Prop where
  time : t.time = s.time
  rebuild : t.rebuild = s.rebuild
  active : t.store.active = s.store.active
  exposure : t.exposure = s.exposure
  delivery : ∀ c, (t.stream c).delivery = (s.stream c).delivery
  revisions : ∀ c, (t.stream c).revisions = (s.stream c).revisions
  listening : ∀ c, (s.stream c).Listening → (t.stream c).state = (s.stream c).state

theorem Quiet.of_keeps {s t : State} (h : KeepsSetup s t) (hexposure : t.exposure = s.exposure)
    (hstreams : t.streams = s.streams) : Quiet s t := by
  refine ⟨h.time, h.rebuild, congrArg Store.active h.store, hexposure, fun c => ?_, fun c => ?_, fun c _ => ?_⟩ <;>
    rw [State.stream, hstreams] <;> rfl

theorem Quiet.refl (s : State) : Quiet s s := .of_keeps (.refl s) rfl rfl

theorem Quiet.trans {s t u : State} (h : Quiet s t) (k : Quiet t u) : Quiet s u where
  time := k.time.trans h.time
  rebuild := k.rebuild.trans h.rebuild
  active := k.active.trans h.active
  exposure := k.exposure.trans h.exposure
  delivery c := (k.delivery c).trans (h.delivery c)
  revisions c := (k.revisions c).trans (h.revisions c)
  listening c hc := by
    have ht := h.listening c hc
    refine (k.listening c ?_).trans ht
    rw [Stream.Listening, ht]
    exact hc

theorem Quiet.now {s t : State} (h : Quiet s t) : t.now = s.now := congrArg TimeBase.sample h.time

theorem Quiet.slot {s t : State} (h : Quiet s t) : t.slot = s.slot := congrArg slotOf h.now

theorem Quiet.coeff {s t : State} (h : Quiet s t) (b src : Bay) : t.coeff b src = s.coeff b src := by
  rw [State.coeff, h.active]
  rfl

/-! ## Launches without an expiry -/

/-- No GRANTED seek stands at the position that is due. -/
def State.NoExpiry (s : State) (b : Bay) (p : Pos) : Prop :=
  ∀ x, s.seekAt b p = some x → x.state = .granted → x.launch ≠ some s.slot

theorem launchOrExpire_no_expiry {s : State} {b : Bay} {p : Pos} (h : s.NoExpiry b p) :
    launchOrExpire b s p = s
      ∨ ∃ x : Seek, launchOrExpire b s p = s.putSeek b p (some { x with state := .running }) := by
  cases hx : s.seekAt b p with
  | none => exact .inl (launchOrExpire_none hx)
  | some x =>
    by_cases hcommitted : x.launch = some s.slot ∧ x.state = .committed
    · exact .inr ⟨x, launchOrExpire_committed hx hcommitted.1 hcommitted.2⟩
    · exact .inl (launchOrExpire_other hx fun hl => ⟨fun hs => hcommitted ⟨hl, hs⟩, fun hs => h x hx hs hl⟩)

theorem putSeek_quiet (s : State) (b : Bay) (p : Pos) (x : Option Seek) : Quiet s (s.putSeek b p x) :=
  .of_keeps (by constructor <;> rfl) rfl rfl

/-- The turns of positions where nothing expires: quiet, and nothing but their own records moves. -/
theorem foldl_launchOrExpire_quiet {b : Bay} (ps : List Pos) {s : State} (hps : ps.Nodup)
    (h : ∀ q ∈ ps, s.NoExpiry b q) : Quiet s (ps.foldl (launchOrExpire b) s)
      ∧ (ps.foldl (launchOrExpire b) s).lanes = s.lanes
      ∧ ∀ q, q ∉ ps → (ps.foldl (launchOrExpire b) s).seekAt b q = s.seekAt b q := by
  induction ps generalizing s with
  | nil => exact ⟨.refl s, rfl, fun _ _ => rfl⟩
  | cons p ps ih =>
    obtain ⟨hp, hps⟩ := List.nodup_cons.mp hps
    have hstep : Quiet s (launchOrExpire b s p) ∧ (launchOrExpire b s p).lanes = s.lanes
        ∧ ∀ q, q ≠ p → (launchOrExpire b s p).seekAt b q = s.seekAt b q := by
      obtain hsame | ⟨x, hrun⟩ := launchOrExpire_no_expiry (h p (List.mem_cons_self ..))
      · rw [hsame]
        exact ⟨.refl s, rfl, fun _ _ => rfl⟩
      · rw [hrun]
        exact ⟨putSeek_quiet .., rfl, fun q hq => (State.seekAt_putSeek ..).trans
          (if_neg fun he => hq he.2.symm)⟩
    obtain ⟨hquiet, hlanes, hseeks⟩ := hstep
    have hrest (q : Pos) (hq : q ∈ ps) : (launchOrExpire b s p).NoExpiry b q := by
      have hne : q ≠ p := fun he => hp (he ▸ hq)
      intro x hx hstate
      rw [hquiet.slot]
      exact h q (List.mem_cons_of_mem _ hq) x (hseeks q hne ▸ hx) hstate
    obtain ⟨iquiet, ilanes, iseeks⟩ := ih hps hrest
    refine ⟨hquiet.trans iquiet, ilanes.trans hlanes, fun q hq => ?_⟩
    obtain ⟨hne, hq⟩ := not_or.mp (mt List.mem_cons.mpr hq)
    exact (iseeks q hq).trans (hseeks q hne)

/-! ## Duties that leave the exposure and the streams -/

theorem sendFrame_quiet {b : Bay} {s : State} (f : Frame) (h : (s.lane b).queue.length + 1 ≤ 32) :
    Quiet s (sendFrame b f s) := by
  rw [sendFrame, handThen_of_room h]
  exact .of_keeps (by constructor <;> rfl) rfl rfl

theorem burstDuty_quiet (b : Bay) (s : State) : Quiet s (burstDuty b s) := by
  have hkeeps := burstDuty_keeps b s
  have hstream (c : Bay) : (burstDuty b s).stream c = if b = c then s.atBurstBoundary b else s.stream c := by
    rw [burstDuty_eq]
    exact State.stream_putStream ..
  have hown : (s.atBurstBoundary b).delivery = (s.stream b).delivery
      ∧ (s.atBurstBoundary b).revisions = (s.stream b).revisions
      ∧ ((s.stream b).Listening → (s.atBurstBoundary b).state = (s.stream b).state) := by
    unfold State.atBurstBoundary Stream.Listening
    dsimp only
    split
    · next h =>
      refine ⟨rfl, rfl, fun hl => ?_⟩
      obtain hstarting | hrunning := h.2
      · simp [hstarting] at hl
      · exact hrunning.symm
    · exact ⟨rfl, rfl, fun _ => rfl⟩
  obtain ⟨hdelivery, hrevisions, hlistening⟩ := hown
  refine ⟨hkeeps.time, hkeeps.rebuild, congrArg Store.active hkeeps.store, by rw [burstDuty_eq]; rfl,
    fun c => ?_, fun c => ?_, fun c => ?_⟩ <;> rw [hstream c] <;> split
  · next h => rw [← h, hdelivery]
  · rfl
  · next h => rw [← h, hrevisions]
  · rfl
  · next h => rw [← h]; exact hlistening
  · exact fun _ => rfl

theorem searchStart_quiet (s : State) : Quiet s (searchStart (clearHolds s)) := by
  rw [searchStart_eq]
  exact .of_keeps (by constructor <;> rfl) rfl rfl

theorem advanceEpoch_quiet {s : State} (h : s.store.epochCount + 1 < s.store.epochLength.slots) :
    Quiet s (advanceEpoch s) := by
  rw [advanceEpoch, if_pos h]
  exact ⟨rfl, rfl, rfl, rfl, fun _ => rfl, fun _ => rfl, fun _ _ => rfl⟩

/-! ## The duties with one expiry among them -/

/-- With the duties `ds` left to run: every lane has room for what they hand, no epoch ends, and no other
seek than that at position `p` of bay `b` expires. -/
structure Calm (b : Bay) (p : Pos) (ds : List Duty) (s : State) : Prop where
  nodup : ds.Nodup
  slotStart : isSlotStart s.now = true
  room : ∀ c, (s.lane c).queue.length + framesOf c ds ≤ 32
  epoch : .epoch ∈ ds → s.store.epochCount + 1 < s.store.epochLength.slots
  others : ∀ c q, (c, q) ≠ (b, p) → s.NoExpiry c q

theorem dueSeek_granted {m : Slot} {x r : Seek} (h : dueSeek m x = some r) (hstate : r.state = .granted) :
    x = r := by
  unfold dueSeek at h
  split at h
  · cases h
    cases hstate
  · split at h
    · cases h
    · exact Option.some.inj h

/-- A duty with room hands no more than its frames, and no seek is GRANTED after it that was not before. -/
theorem runDuty_room (changed : Bool) {s : State} (d : Duty) {c : Bay} (hslot : isSlotStart s.now = true)
    (hroom : (s.lane c).queue.length + dutyFrames c d ≤ 32) :
    ((runDuty changed s d).lane c).queue.length ≤ (s.lane c).queue.length + dutyFrames c d
      ∧ ∀ q x, (runDuty changed s d).seekAt c q = some x → x.state = .granted → s.seekAt c q = some x := by
  by_cases hd : d = .seek c
  · subst hd
    rw [dutyFrames, if_pos rfl] at hroom ⊢
    have hrun : runDuty changed s (.seek c) = positions.foldl (launchOrExpire c) s := by
      simp only [runDuty, hslot, if_true]
    obtain ⟨hseeks, fs, hfs, hlen⟩ := foldl_launchOrExpire_room positions (List.nodup_finRange 4) hroom
    rw [hrun]
    refine ⟨by rw [hfs, List.length_append]; exact Nat.add_le_add_left hlen _, fun q x hx hstate => ?_⟩
    rw [hseeks, if_pos (mem_positions q), Option.bind_eq_some_iff] at hx
    obtain ⟨y, hy, hx⟩ := hx
    rw [hy, dueSeek_granted hx hstate]
  · have hhanded := runDuty_handed changed hd hroom
    exact ⟨hhanded.length_le, fun q x hx _ => hhanded.seeks q ▸ hx⟩

theorem Calm.tail {b : Bay} {p : Pos} {d : Duty} {ds : List Duty} {s : State} (changed : Bool)
    (h : Calm b p (d :: ds) s) : Calm b p ds (runDuty changed s d) := by
  obtain ⟨hd, hds⟩ := List.nodup_cons.mp h.nodup
  have hnow : (runDuty changed s d).now = s.now := congrArg TimeBase.sample (runDuty_time_history ..).1
  have hroom (c : Bay) : (s.lane c).queue.length + dutyFrames c d + framesOf c ds ≤ 32 := by
    have := h.room c
    rw [framesOf_cons] at this
    omega
  have hstep (c : Bay) := runDuty_room changed d (c := c) h.slotStart (by have := hroom c; omega)
  refine ⟨hds, by rw [hnow]; exact h.slotStart, fun c => ?_, fun he => ?_, fun c q hne x hx hstate => ?_⟩
  · have := (hstep c).1
    have := hroom c
    omega
  · have hkeeps := runDuty_keeps changed s (d := d) fun hde => hd (hde ▸ he)
    rw [hkeeps.store]
    exact h.epoch (List.mem_cons_of_mem _ he)
  · have hslot : (runDuty changed s d).slot = s.slot := congrArg slotOf hnow
    rw [hslot]
    exact h.others c q hne x ((hstep c).2 q x hx hstate) hstate

theorem Calm.quiet {b : Bay} {p : Pos} {d : Duty} {ds : List Duty} {s : State} (changed : Bool)
    (h : Calm b p (d :: ds) s) (hd : d ≠ .seek b) : Quiet s (runDuty changed s d) := by
  cases d with
  | seek c =>
    have hc : c ≠ b := fun he => hd (he ▸ rfl)
    simp only [runDuty, h.slotStart, if_true]
    exact (foldl_launchOrExpire_quiet positions (List.nodup_finRange 4) fun q _ =>
      h.others c q fun he => hc (Prod.mk.inj he).1).1
  | stream c => exact burstDuty_quiet c s
  | epoch =>
    simp only [runDuty, h.slotStart, if_true]
    exact advanceEpoch_quiet (h.epoch (List.mem_cons_self ..))
  | search =>
    simp only [runDuty, h.slotStart, if_true]
    exact searchStart_quiet s
  | welcome c =>
    have hroom : (s.lane c).queue.length + 1 ≤ 32 := by
      have := h.room c
      rw [framesOf_cons, dutyFrames, if_pos rfl] at this
      omega
    simp only [runDuty, welcomeDuty]
    split
    · split
      · exact sendFrame_quiet _ hroom
      · exact .refl s
    · exact .refl s
  | mark c =>
    have hroom : (s.lane c).queue.length + 1 ≤ 32 := by
      have := h.room c
      rw [framesOf_cons, dutyFrames, if_pos rfl] at this
      omega
    simp only [runDuty, markDuty]
    split
    · split
      · exact sendFrame_quiet _ hroom
      · exact .refl s
    · exact .refl s

theorem Calm.foldl {b : Bay} {p : Pos} (changed : Bool) (ds : List Duty) {es : List Duty} {s : State}
    (h : Calm b p (ds ++ es) s) (hds : Duty.seek b ∉ ds) :
    Quiet s (ds.foldl (runDuty changed) s) ∧ Calm b p es (ds.foldl (runDuty changed) s) := by
  induction ds generalizing s with
  | nil => exact ⟨.refl s, h⟩
  | cons d ds ih =>
    obtain ⟨hne, hds⟩ := not_or.mp (mt List.mem_cons.mpr hds)
    obtain ⟨hquiet, hcalm⟩ := ih (h.tail changed) hds
    exact ⟨(h.quiet changed (Ne.symm hne)).trans hquiet, hcalm⟩

/-! ## The expiry's load and forecast change (R38, R53, R106) -/

/-- The load of `r` has left the table, and the listening streams have taken its forecast change. -/
structure Withdrawn (b : Bay) (r : Seek) (s t : State) : Prop where
  exposure : ∀ c i, t.exposureAt c i =
    if s.rebuild.isSome ∨ i = positionOf s.slot then s.exposureAt c i
    else s.exposureAt c i - s.loadOn b r c (slotAt s.slot i)
  streams : ∀ c, (s.stream c).Listening →
    (t.stream c).delivery = ((publishWhole b r s).stream c).delivery
      ∧ (t.stream c).revisions = ((publishWhole b r s).stream c).revisions

theorem takeChange_congr {x y : Stream} (now a z : Sample) (hdelivery : x.delivery = y.delivery)
    (hrevisions : x.revisions = y.revisions) :
    (takeChange now a z x).delivery = (takeChange now a z y).delivery
      ∧ (takeChange now a z x).revisions = (takeChange now a z y).revisions := by
  simp only [takeChange, reviseRecords, hdelivery, hrevisions, and_self]

/-- What a listening stream takes of a forecast change depends on what quiet duties leave. -/
theorem forecastChange_quiet {s t : State} (h : Quiet s t) (b c : Bay) (a z : Sample)
    (hc : (s.stream c).Listening) :
    ((forecastChange b a z t).stream c).delivery = ((forecastChange b a z s).stream c).delivery
      ∧ ((forecastChange b a z t).stream c).revisions
        = ((forecastChange b a z s).stream c).revisions := by
  rw [forecastChange_stream, forecastChange_stream, h.listening c hc, h.coeff, h.now]
  split
  · exact takeChange_congr _ _ _ (h.delivery c) (h.revisions c)
  · exact ⟨h.delivery c, h.revisions c⟩

theorem Quiet.loadOn {s t : State} (h : Quiet s t) (b : Bay) (r : Seek) (c : Bay) (m : Slot) :
    t.loadOn b r c m = s.loadOn b r c m := by
  rw [State.loadOn, h.coeff]
  rfl

theorem Quiet.exposureAt {s t : State} (h : Quiet s t) (c : Bay) (i : Fin 64) :
    t.exposureAt c i = s.exposureAt c i := by
  rw [State.exposureAt, h.exposure]
  rfl

theorem Withdrawn.quiet {b : Bay} {r : Seek} {s t u v : State} (k : Withdrawn b r t u) (h : Quiet s t)
    (l : Quiet u v) : Withdrawn b r s v := by
  refine ⟨fun c i => ?_, fun c hc => ?_⟩
  · rw [l.exposureAt, k.exposure, h.rebuild, h.slot, h.exposureAt, h.loadOn]
  · have ht : (t.stream c).Listening := by
      rw [Stream.Listening, h.listening c hc]
      exact hc
    obtain ⟨hdelivery, hrevisions⟩ := k.streams c ht
    obtain ⟨fdelivery, frevisions⟩ := forecastChange_quiet h b c r.launchAt (lastOf r.launchAt r.tailEnd) hc
    exact ⟨(l.delivery c).trans (hdelivery.trans fdelivery), (l.revisions c).trans (hrevisions.trans frevisions)⟩

theorem expirySteps_withdrawn (b : Bay) (p : Pos) (r : Seek) (s : State) :
    Withdrawn b r s (expirySteps b p r s) := by
  refine ⟨fun c i => removeExposure_at b r ((s.putSeek b p none).putLane b
    { s.lane b with lastExpired := some r.tag }) c i, fun c _ => ?_⟩
  have hstreams : (expirySteps b p r s).streams = (publishWhole b r s).streams := by
    unfold expirySteps
    dsimp only
    rw [removeExposure_eq]
    exact forecastChange_streams_congr rfl rfl rfl ..
  rw [State.stream, hstreams]
  exact ⟨rfl, rfl⟩

section
variable {b : Bay} {p : Pos} {r : Seek} {s : State} (hr : s.seekAt b p = some r)
  (hstate : r.state = .granted) (hlaunch : r.launch = some s.slot)
include hr hstate hlaunch

/-- The turn of the bay's seeks withdraws the one that expires. -/
theorem Calm.turn {ds : List Duty} (changed : Bool) (h : Calm b p (.seek b :: ds) s) :
    Withdrawn b r s (runDuty changed s (.seek b)) := by
  obtain ⟨ps, qs, hsplit⟩ := List.append_of_mem (mem_positions p)
  have hnodup : positions.Nodup := List.nodup_finRange 4
  rw [hsplit] at hnodup
  obtain ⟨hps, hqs, hdisjoint⟩ := List.nodup_append.mp hnodup
  obtain ⟨hpqs, hqs⟩ := List.nodup_cons.mp hqs
  have hpps : p ∉ ps := fun hp => hdisjoint p hp p (List.mem_cons_self ..) rfl
  have hroom : (s.lane b).queue.length + 1 ≤ 32 := by
    have := h.room b
    rw [framesOf_cons, dutyFrames, if_pos rfl] at this
    omega
  have hidle (q : Pos) (hq : q ≠ p) : s.NoExpiry b q := h.others b q fun he => hq (Prod.mk.inj he).2
  obtain ⟨hquiet, hlanes, hseeks⟩ := foldl_launchOrExpire_quiet ps hps fun q hq =>
    hidle q fun he => hpps (he ▸ hq)
  simp only [runDuty, h.slotStart, if_true]
  rw [hsplit, List.foldl_append, List.foldl_cons]
  generalize ps.foldl (launchOrExpire b) s = u at hquiet hlanes hseeks ⊢
  have hulane : u.lane b = s.lane b := congrArg (Tab.get · b) hlanes
  have hkeeps := launchOrExpire_keeps b u p
  have hother (q : Pos) (hq : q ∈ qs) : (launchOrExpire b u p).NoExpiry b q := by
    have hne : q ≠ p := fun he => hpqs (he ▸ hq)
    have hqps : q ∉ ps := fun hp => hdisjoint q hp q (List.mem_cons_of_mem _ hq) rfl
    have hstand : (launchOrExpire b u p).seekAt b q = s.seekAt b q := by
      rw [(launchOrExpire_room p (by rw [hulane]; exact hroom)).1, if_neg hne.symm, hseeks q hqps]
    intro x hx hxstate
    rw [hkeeps.slot, hquiet.slot]
    exact hidle q hne x (hstand ▸ hx) hxstate
  have hafter := (foldl_launchOrExpire_quiet qs hqs hother).1
  rw [launchOrExpire_expired ((hseeks p hpps).trans hr) (by rw [hlaunch, hquiet.slot]) hstate
    (by rw [hulane]; exact hroom)] at hafter ⊢
  have hput : Quiet u (u.putLane b (expiringLane (u.lane b) r)) :=
    .of_keeps (by constructor <;> rfl) rfl rfl
  exact (expirySteps_withdrawn b p r _).quiet (hquiet.trans hput) hafter

/-- So do the duties of the slot start, whatever their order. -/
theorem Calm.withdrawn {order : List Duty} (changed : Bool) (h : Calm b p (dutyOrder order) s) :
    Withdrawn b r s ((dutyOrder order).foldl (runDuty changed) s) := by
  obtain ⟨ds, es, horder, hds, hes, -⟩ := dutyOrder_split b order
  rw [horder] at h ⊢
  obtain ⟨hquiet, hcalm⟩ := h.foldl changed ds hds
  have hroom : (s.lane b).queue.length + framesOf b ds ≤ 32 := by
    have := h.room b
    rw [framesOf_append] at this
    omega
  have hseek := (foldl_runDuty_handed changed ds hds hroom).seeks p
  rw [List.foldl_append, List.foldl_cons]
  have hafter := (Calm.foldl changed es (es := []) (by rw [List.append_nil]; exact hcalm.tail changed) hes).1
  exact (hcalm.turn (hseek.trans hr) hstate (by rw [hlaunch, hquiet.slot]) changed).quiet hquiet hafter

end

/-! ## The slot start as it opens (R56, R104, R111) -/

theorem slotOpened_keeps (s : State) : KeepsSetup (advanceSample s).retired s.slotOpened :=
  boundaryStart_keeps _

theorem slotOpened_calm {s : State} {b : Bay} {p : Pos} (order : List Duty)
    (hslot : s.slotStartNext = true) (hepoch : s.epochEndNext = false) (hroom : ∀ c, s.hasRoom c 6)
    (hothers : ∀ c q x, (c, q) ≠ (b, p) → s.seekAt c q = some x → x.state = .granted →
      x.launch ≠ some (slotOf (s.now + 1))) : Calm b p (dutyOrder order) s.slotOpened where
  nodup := dutyOrder_nodup order
  slotStart := by rw [slotOpened_now]; exact hslot
  room c := by rw [slotOpened_lane, dutyOrder_frames]; exact hroom c
  epoch _ := by
    rw [(slotOpened_keeps s).store]
    show s.store.epochCount + 1 < s.store.epochLength.slots
    simpa [State.epochEndNext, hslot] using hepoch
  others c q hne x hx hstate := by
    obtain ⟨y, hy, hlaunch, hsame⟩ := slotOpened_seekAt_some hx
    rw [slotOpened_slot, hlaunch]
    exact hothers c q y hne hy (by rw [hsame hstate, hstate])

theorem slotOpened_exposureAt {s : State} (hslot : s.slotStartNext = true) (hrebuild : s.rebuild = none)
    (c : Bay) (i : Fin 64) : s.slotOpened.exposureAt c i
      = if i = positionOf (slotOf (s.now + 1) + 63) then 0 else s.exposureAt c i := by
  have hopened : s.slotOpened = recycleExposure (advanceSample s).retired.allDrained :=
    (boundaryStart_drained _).trans (if_pos hslot)
  have hnone : (advanceSample s).retired.allDrained.rebuild.isSome = false := by
    show s.rebuild.isSome = false
    rw [hrebuild]
    rfl
  rw [hopened]
  refine (changeExposure_at ..).trans ?_
  rw [hnone]
  rfl

/-- A stream that keeps on delivering is at the slot start as the retirement of its records leaves it. -/
theorem slotOpened_stream {s : State} {c : Bay}
    (h : (s.stream c).state = .running ∨ (s.stream c).state = .draining
      ∧ (retireRecords (s.now + 1) (s.stream c)).delivery ≠ []) :
    s.slotOpened.stream c = retireRecords (s.now + 1) (s.stream c) := by
  have hretired : (advanceSample s).retired.stream c = retireRecords (s.now + 1) (s.stream c) :=
    Tab.get_gen _ c
  have hstream : s.slotOpened.stream c = drainedStream ((advanceSample s).retired.stream c) := by
    rw [State.slotOpened, boundaryStart_exposed]
    exact Tab.get_gen _ c
  rw [hstream, hretired]
  refine if_neg fun hd => ?_
  obtain ⟨hstate, hlist⟩ := of_decide_eq_true hd
  obtain hrunning | ⟨-, hne⟩ := h
  · exact absurd (hrunning.symm.trans hstate) (by decide)
  · exact hne hlist

/-- The position that becomes free at a slot start is not the current slot's. -/
theorem positionOf_next_round (m : Slot) : positionOf m ≠ positionOf (m + 63) := by
  rw [ne_eq, positionOf, positionOf, Fin.mk.injEq, BitVec.toNat_add, show (63 : Slot).toNat = 63 from rfl]
  omega

/-! ## The published change (R53, R106) -/

theorem forecastChange_stream_congr {s t : State} {c : Bay} (hstream : t.stream c = s.stream c)
    (hnow : t.now = s.now) (hactive : t.store.active = s.store.active) (b : Bay) (a z : Sample) :
    (forecastChange b a z t).stream c = (forecastChange b a z s).stream c := by
  have hcoeff : t.coeff c b = s.coeff c b := by
    rw [State.coeff, hactive]
    rfl
  rw [forecastChange_stream, forecastChange_stream, hstream, hnow, hcoeff]

theorem readRevisions_stream_setStreams (s : State) (x : Tab 16 Stream) (c : Bay) :
    (readRevisions (s.setStreams x)).stream c
      = { x.get c with revisions := (x.get c).revisions.map (readRevision s c) } :=
  readRevisions_stream (s.setStreams x) c

theorem readRevision_readRevisions (s : State) (c : Bay) :
    readRevision (readRevisions s) c = readRevision s c := by
  funext v
  rw [readRevisions_eq, readRevision_setStreams]

/-- The streams at the slot start's sample with the records delivered to their end gone (R104). -/
def State.retiredAt (s : State) (time : TimeBase) : State :=
  (s.setTime time).setStreams (Tab.gen 16 fun c => { s.stream c with
    delivery := (s.stream c).delivery.filter fun x => x.first + BitVec.ofNat 32 x.burst ≠ time.sample })

theorem retiredAt_stream (s : State) (time : TimeBase) (c : Bay) :
    (s.retiredAt time).stream c = retireRecords time.sample (s.stream c) :=
  (Tab.get_gen _ c).trans (retireRecords_eq ..).symm

section
variable {s w : State} {b : Bay} {r : Seek} (hw : Withdrawn b r s.slotOpened w)
include hw

theorem Withdrawn.published_exposure (hslot : s.slotStartNext = true) (hrebuild : s.rebuild = none)
    (c : Bay) (i : Fin 64) : w.exposureAt c i =
      if i = positionOf (slotOf (s.now + 1)) then s.exposureAt c i
      else if i = positionOf (slotOf (s.now + 1) + 63) then 0
      else s.exposureAt c i - s.loadOn b r c (slotAt (slotOf (s.now + 1)) i) := by
  have hnone : s.slotOpened.rebuild = none := (slotOpened_keeps s).rebuild.trans hrebuild
  have hload (m : Slot) : s.slotOpened.loadOn b r c m = s.loadOn b r c m := by
    rw [State.loadOn, State.coeff, (slotOpened_keeps s).store]
    rfl
  have hnext := positionOf_next_round (slotOf (s.now + 1))
  simp only [hw.exposure, hnone, slotOpened_slot, slotOpened_exposureAt hslot hrebuild, hload,
    Option.isSome_none, Bool.false_eq_true, false_or]
  by_cases hcurrent : i = positionOf (slotOf (s.now + 1))
  · rw [if_pos hcurrent, if_pos hcurrent, if_neg (by rw [hcurrent]; exact hnext)]
  · rw [if_neg hcurrent, if_neg hcurrent]
    split
    · exact Nat.zero_sub _
    · rfl

theorem Withdrawn.published_streams (hlaunch : r.launchAt = s.now + 1) {time : TimeBase}
    (htime : time.sample = s.now + 1) {c : Bay}
    (h : ((s.retiredAt time).stream c).state = .running
      ∨ ((s.retiredAt time).stream c).state = .draining ∧ ((s.retiredAt time).stream c).delivery ≠ []) :
    let v := readRevisions ((readRevisions w).setStreams (forecastChange b (s.now + 1)
      (s.now + 1 + BitVec.ofNat 32 (r.runEnd + r.tailLen) - 1) (s.retiredAt time)).streams)
    ((readRevisions w).stream c).delivery = (v.stream c).delivery
      ∧ ((readRevisions w).stream c).revisions = (v.stream c).revisions := by
  have hretired : (s.retiredAt time).stream c = retireRecords (s.now + 1) (s.stream c) := by
    rw [retiredAt_stream, htime]
  rw [hretired] at h
  have hopened : s.slotOpened.stream c = retireRecords (s.now + 1) (s.stream c) := slotOpened_stream h
  have hlistening : (s.slotOpened.stream c).Listening := by
    rw [hopened]
    exact h.imp_right And.left
  obtain ⟨hdelivery, hrevisions⟩ := hw.streams c hlistening
  have hchange : (forecastChange b (s.now + 1) (s.now + 1 + BitVec.ofNat 32 (r.runEnd + r.tailLen) - 1)
      (s.retiredAt time)).stream c = (publishWhole b r s.slotOpened).stream c := by
    rw [publishWhole, hlaunch]
    refine forecastChange_stream_congr (hretired.trans hopened.symm) ?_ ?_ b _ _
    · exact htime.trans (slotOpened_now s).symm
    · rw [(slotOpened_keeps s).store]
      rfl
  dsimp only
  rw [readRevisions_stream_setStreams, readRevisions_stream, readRevision_readRevisions]
  rw [State.stream] at hchange
  rw [hchange, hdelivery, hrevisions]
  exact ⟨rfl, rfl⟩

end

/-- Settles O10: the expiry or launch is one duty's work, and no other duty undoes it or adds to it. -/
theorem launchSlotStartsOrExpiresTheSeek : Obligations.LaunchSlotStartsOrExpiresTheSeek := by
  refine ⟨fun s order b p r hheld hnothing hslot hroom hr hstate hlaunch => ?launch,
    fun s order b p r hheld hnothing hslot hroom hr hstate hlaunch hothers => ?expiry,
    fun s order b p r hheld hnothing hread hslot hepoch hroom hr hstate hlaunch hothers => ?published⟩ <;>
    refine ⟨_, exec_slotStart_opened hnothing hheld hslot order, ?_⟩
  case launch => exact slotStart_launches order hslot hroom hr hstate hlaunch _
  case expiry => exact slotStart_expires order hslot hroom hr hstate hlaunch hothers _
  case published =>
    have hcalm := slotOpened_calm order hslot hepoch hroom hothers
    have hw := hcalm.withdrawn (slotOpened_seekAt_waiting hr (.inl hstate)) hstate
      (by rw [hlaunch, slotOpened_slot]) s.time.pendingDivisor.isSome
    have htime := (foldl_runDuty_time_history s.time.pendingDivisor.isSome (dutyOrder order) s.slotOpened).1
    generalize (dutyOrder order).foldl (runDuty s.time.pendingDivisor.isSome) s.slotOpened = w at hw htime ⊢
    have hnow : (readRevisions w).time.sample = s.now + 1 :=
      (congrArg TimeBase.sample htime).trans (slotOpened_now s)
    have hlaunchAt : r.launchAt = s.now + 1 := by
      rw [Seek.launchAt, hlaunch]
      exact launchSample_slotOf hslot
    have htslot : (readRevisions w).slot = slotOf (s.now + 1) := congrArg slotOf hnow
    refine ⟨fun hrebuild c i => ?_, ?_⟩
    · rw [htslot]
      exact hw.published_exposure hslot hrebuild c i
    · intro u v c hc
      have hpublished := hw.published_streams hlaunchAt hnow hc
      rw [← hnow] at hpublished
      exact hpublished

end Sys2Proof.Machine
end

section
/-! PROOF. What an event does to the records, the exposure table, the admission queue and the search: a
sequence of moves, each of them lawful on its own. Every operation but the boundary's own start and the
resets is such a sequence. -/

namespace Sys2Proof.Machine

/-! ## The moves -/

/-- `t` agrees with `s` in all that the calendar's law reads. -/
structure SameCalendar (s t : State) : Prop where
  now : t.now = s.now
  seeks : t.seeks = s.seeks
  exposure : t.exposure = s.exposure
  rebuild : t.rebuild = s.rebuild
  queue : t.queue = s.queue
  engine : t.engine = s.engine
  active : t.store.active = s.store.active

/-- One change of the records, the exposure table, the queue, the search or the active table, with the
others that must come with it. -/
inductive Move (s : State) : State → Prop
  | same {t : State} (h : SameCalendar s t) : Move s t
  /-- Hold flags change (R71). -/
  | rehold (q : List QueueEntry)
      (h : (q.map fun e => (e.bay, e.pos)) = s.queue.map fun e => (e.bay, e.pos)) :
      Move s (s.setQueue q)
  | idle : Move s (s.setEngine none)
  /-- A search is prepared on a queued seek, or anew on the one it works on (R66, R76). -/
  | search (b : Bay) (p : Pos) (sr : Search) (h : trySeek s b p = some sr)
      (hplace : (b, p) ∈ (s.queue.map fun e => (e.bay, e.pos))
        ∨ ∃ x, s.engine = some x ∧ x.bay = b ∧ x.pos = p) : Move s (s.setEngine (some sr))
  /-- A POSTED seek is freed (R30, R39, R78). -/
  | release (b : Bay) (p : Pos) (r : Seek) (h : s.seekAt b p = some r) (hstate : r.state = .posted) :
      Move s (abandonSearch b p (dequeue b p (s.putSeek b p none)))
  /-- A granted seek is freed (R23, R28, R39, R53). -/
  | withdraw (b : Bay) (p : Pos) (r : Seek) (h : s.seekAt b p = some r) (hstate : r.state ≠ .posted) :
      Move s (removeExposure b r (s.putSeek b p none))
  /-- A notice is accepted (R13, R64). -/
  | post (b : Bay) (p : Pos) (r : Seek) (h : s.seekAt b p = none) (hcompiled : r.Compiled)
      (hstate : r.state = .posted) (hlaunch : r.launch = none) (hmarkers : r.markers = none)
      (hcut : r.abortIndex = none) :
      Move s ((s.putSeek b p (some r)).setQueue (s.queue ++ [{ bay := b, pos := p, held := false }]))
  /-- A search is granted (R52, R74, R77). -/
  | grant (sr : Search) (r : Seek) (c : Slot) (o : Bool) (hsr : s.engine = some sr)
      (h : s.seekAt sr.bay sr.pos = some r) (hc : chooseSlot sr = some (c, o))
      (hnear : atOrBefore (s.slot + 2) c = true) :
      Move s (addExposure sr.bay (grantedSeek r c o) ((dequeue sr.bay sr.pos
        (s.putSeek sr.bay sr.pos (some (grantedSeek r c o)))).setEngine none))
  /-- A GRANTED seek is committed (R20). -/
  | confirm (b : Bay) (p : Pos) (r : Seek) (h : s.seekAt b p = some r) (hstate : r.state = .granted) :
      Move s (s.putSeek b p (some { r with state := .committed }))
  /-- A COMMITTED seek is launched (R22). -/
  | launch (b : Bay) (p : Pos) (r : Seek) (h : s.seekAt b p = some r) (hstate : r.state = .committed)
      (hlaunch : r.launch = some s.slot) (hstart : isSlotStart s.now = true) :
      Move s (s.putSeek b p (some { r with state := .running }))
  /-- A RUNNING seek is cut (R12, R29, R54). -/
  | cut (b : Bay) (p : Pos) (r : Seek) (h : s.seekAt b p = some r) (hstate : r.state = .running)
      (hcut : r.abortIndex = none) :
      Move s (replaceExposure b r (recompileCut r (cutIndex s.now r))
        (s.putSeek b p (some (recompileCut r (cutIndex s.now r)))))
  /-- A rebuild ends (R59). -/
  | rebuilt : Move s ((recomputeExposure s).setRebuild none)
  /-- Other coefficients come into force, and a rebuild starts (R60, R126). -/
  | recommit (x : Store) : Move s ((s.setStore x).setRebuild (some s.now))

/-- Moves, one after another. -/
def Moves : State → State → Prop :=
  Relation.ReflTransGen Move

section
variable {s t u : State}

theorem SameCalendar.refl (s : State) : SameCalendar s s := by constructor <;> rfl

theorem SameCalendar.trans (h : SameCalendar s t) (k : SameCalendar t u) : SameCalendar s u where
  now := k.now.trans h.now
  seeks := k.seeks.trans h.seeks
  exposure := k.exposure.trans h.exposure
  rebuild := k.rebuild.trans h.rebuild
  queue := k.queue.trans h.queue
  engine := k.engine.trans h.engine
  active := k.active.trans h.active

theorem SameCalendar.symm (h : SameCalendar s t) : SameCalendar t s :=
  ⟨h.now.symm, h.seeks.symm, h.exposure.symm, h.rebuild.symm, h.queue.symm, h.engine.symm,
    h.active.symm⟩

theorem SameCalendar.slot (h : SameCalendar s t) : t.slot = s.slot := congrArg slotOf h.now

theorem SameCalendar.seekAt (h : SameCalendar s t) (b : Bay) (p : Pos) :
    t.seekAt b p = s.seekAt b p := by
  rw [State.seekAt, h.seeks]
  rfl

theorem SameCalendar.coeff (h : SameCalendar s t) (b src : Bay) : t.coeff b src = s.coeff b src := by
  rw [State.coeff, h.active]
  rfl

theorem SameCalendar.loadOn (h : SameCalendar s t) (src : Bay) (r : Seek) (b : Bay) (m : Slot) :
    t.loadOn src r b m = s.loadOn src r b m := by
  rw [State.loadOn, h.coeff]
  rfl

theorem SameCalendar.exposureAt (h : SameCalendar s t) (b : Bay) (i : Fin 64) :
    t.exposureAt b i = s.exposureAt b i := by
  rw [State.exposureAt, h.exposure]
  rfl

theorem SameCalendar.ite {p : Prop} [Decidable p] (h : SameCalendar s t) (k : SameCalendar s u) :
    SameCalendar s (if p then t else u) := by
  split <;> assumption

theorem SameCalendar.foldl {α : Type} {f : State → α → State} (h : ∀ s x, SameCalendar s (f s x))
    (xs : List α) (s : State) : SameCalendar s (xs.foldl f s) := by
  induction xs generalizing s with
  | nil => exact .refl s
  | cons x xs ih => exact (h s x).trans (ih _)

theorem SameCalendar.moves (h : SameCalendar s t) : Moves s t := Relation.ReflTransGen.single (.same h)

theorem Moves.refl : Moves s s := Relation.ReflTransGen.refl

theorem Moves.trans (h : Moves s t) (k : Moves t u) : Moves s u := Relation.ReflTransGen.trans h k

theorem Move.moves (h : Move s t) : Moves s t := Relation.ReflTransGen.single h

theorem Moves.then (h : Moves s t) (k : Move t u) : Moves s u := Relation.ReflTransGen.tail h k

theorem Moves.same (h : Moves s t) (k : SameCalendar t u) : Moves s u := h.then (.same k)

theorem Moves.ite {p : Prop} [Decidable p] (h : p → Moves s t) (k : ¬p → Moves s u) :
    Moves s (if p then t else u) := by
  split
  · exact h ‹_›
  · exact k ‹_›

theorem Moves.foldl {α : Type} {f : State → α → State} (h : ∀ s x, Moves s (f s x))
    (xs : List α) (s : State) : Moves s (xs.foldl f s) := by
  induction xs generalizing s with
  | nil => exact .refl
  | cons x xs ih => exact (h s x).trans (ih _)

/-- What every move keeps, every sequence of them keeps. -/
theorem Moves.keeps {P : State → Prop} (hP : ∀ s t, Move s t → P s → P t) (h : Moves s t)
    (hs : P s) : P t := by
  induction h with
  | refl => exact hs
  | tail _ k ih => exact hP _ _ k ih

end

/-! ## Blocks that the calendar does not read -/

section
variable (b : Bay) (s : State)

theorem putLane_same_calendar (l : Lane) : SameCalendar s (s.putLane b l) := by constructor <;> rfl

theorem putStream_same_calendar (x : Stream) : SameCalendar s (s.putStream b x) := by constructor <;> rfl

theorem setStreams_same_calendar (x : Tab 16 Stream) : SameCalendar s (s.setStreams x) := by
  constructor <;> rfl

theorem setAttention_same_calendar (x : Attention) : SameCalendar s (s.setAttention x) := by
  constructor <;> rfl

theorem setPort_same_calendar (x : Port) : SameCalendar s (s.setPort x) := by constructor <;> rfl

theorem setPins_same_calendar (x : Pins) : SameCalendar s (s.setPins x) := by constructor <;> rfl

theorem setAcc_same_calendar (x : Tab 16 (Tab 16 Int)) : SameCalendar s (s.setAcc x) := by
  constructor <;> rfl

theorem setHistory_same_calendar (x : Tab 16 (Tab 72 Int)) : SameCalendar s (s.setHistory x) := by
  constructor <;> rfl

theorem setStore_same_calendar {x : Store} (h : x.active = s.store.active) :
    SameCalendar s (s.setStore x) := ⟨rfl, rfl, rfl, rfl, rfl, rfl, h⟩

theorem setTime_same_calendar {x : TimeBase} (h : x.sample = s.time.sample) :
    SameCalendar s (s.setTime x) := ⟨h, rfl, rfl, rfl, rfl, rfl, rfl⟩

theorem raiseCause_same_calendar (c : Cause) : SameCalendar s (raiseCause c b s) :=
  setAttention_same_calendar s _

theorem forecastChange_same_calendar (a z : Sample) : SameCalendar s (forecastChange b a z s) :=
  setStreams_same_calendar s _

theorem readRevisions_same_calendar : SameCalendar s (readRevisions s) := setStreams_same_calendar s _

theorem refreshStream_same_calendar : SameCalendar s (refreshStream b s) := putStream_same_calendar b s _

theorem answer_same_calendar (k : RequestKind) (status : Byte) (payload : State → List Byte) :
    SameCalendar s (answer k status payload s) := setPort_same_calendar s _

theorem handFrame_same_calendar (f : Frame) : SameCalendar s (handFrame b f s) :=
  .ite (.refl s) (putLane_same_calendar b s _)

theorem burstDuty_same_calendar : SameCalendar s (burstDuty b s) := by
  rw [burstDuty_eq]
  exact putStream_same_calendar b s _

theorem completeDrain_same_calendar : SameCalendar s (completeDrain b s) := by
  rw [completeDrain_eq]
  exact (putStream_same_calendar b s _).trans (setAttention_same_calendar _ _)

end

/-! ## The shared operations -/

section
variable (b : Bay) (s : State)

theorem searchStart_moves : Moves s (searchStart s) := by
  unfold searchStart
  refine .ite (fun _ => ?_) fun _ => .refl
  have hengine : Moves s (s.setEngine (scanQueue s s.queue).2) := by
    cases h : (scanQueue s s.queue).2 with
    | none => exact Move.idle.moves
    | some sr =>
      obtain ⟨e, he, -, htry⟩ := scanQueue_some s s.queue sr h
      exact (Move.search _ _ sr htry (.inl (List.mem_map_of_mem (f := fun e => (e.bay, e.pos)) he))).moves
  exact hengine.then (.rehold _ (scanQueue_places s s.queue))

theorem freeSeek_moves (p : Pos) : Moves s (freeSeek b s p) := by
  cases h : s.seekAt b p with
  | none =>
    rw [freeSeek_of_none s b p h]
    exact .refl
  | some r =>
    simp only [freeSeek, h]
    exact .ite (fun hr => (Move.release b p r h hr).moves) fun hr =>
      (Move.withdraw b p r h hr).moves.same (forecastChange_same_calendar ..)

theorem freeBay_moves : Moves s (freeBay b s) := .foldl (freeSeek_moves b) _ _

theorem stopped_moves : Moves s (stopStream b (freeBay b s)) :=
  (freeBay_moves b s).same (putStream_same_calendar ..)

theorem releaseBay_moves : Moves s (releaseBay b s) := (stopped_moves b s).trans (searchStart_moves _)

theorem faultLane_moves : Moves s (faultLane b s) :=
  ((putLane_same_calendar b s _).trans (raiseCause_same_calendar b _ .laneFault)).moves.trans
    (releaseBay_moves b _)

/-- A rule that hands a frame takes its further steps from a state with the same calendar. -/
theorem handThen_moves (f : Frame) {rest : State → State}
    (hrest : ∀ u, SameCalendar s u → Moves u (rest u)) : Moves s (handThen b f rest s) := by
  have hhand := handFrame_same_calendar b s f
  exact .ite (fun _ => (hrest s (.refl s)).trans (faultLane_moves ..)) fun _ =>
    hhand.moves.trans (hrest _ hhand)

theorem sendFrame_moves (f : Frame) : Moves s (sendFrame b f s) :=
  handThen_moves b s f fun _ _ => .refl

theorem refuse_moves (tag : Option Tag) (why : Reason) (kind : Byte) :
    Moves s (refuse b tag why kind s) := sendFrame_moves ..

end

/-! ## Completions -/

theorem grantSteps_moves {s : State} {sr : Search} {r : Seek} {c : Slot} {o : Bool}
    (hsr : s.engine = some sr) (h : s.seekAt sr.bay sr.pos = some r) (hc : chooseSlot sr = some (c, o))
    (hnear : atOrBefore (s.slot + 2) c = true) :
    Moves s (grantSteps sr.bay sr.pos (grantedSeek r c o) s) := by
  have hpublished := (Move.grant sr r c o hsr h hc hnear).moves.same (forecastChange_same_calendar
    sr.bay _ (grantedSeek r c o).launchAt (lastOf (grantedSeek r c o).launchAt (grantedSeek r c o).tailEnd))
  exact (Moves.ite (fun _ => hpublished.same (raiseCause_same_calendar ..)) fun _ => hpublished).trans
    (searchStart_moves _)

theorem rerunSearch_moves {s : State} {sr : Search} (hsr : s.engine = some sr) :
    Moves s (rerunSearch sr.bay sr.pos s) := by
  unfold rerunSearch
  refine .ite (fun _ => Move.idle.moves) fun _ => ?_
  split
  · next x hx => exact (Move.search _ _ x hx (.inr ⟨sr, hsr, rfl, rfl⟩)).moves
  · have hheld : Move s (holdEntry sr.bay sr.pos s) := by
      refine .rehold _ ?_
      rw [List.map_map]
      refine List.map_congr_left fun e _ => ?_
      rw [Function.comp_apply]
      split <;> rfl
    exact (hheld.moves.then .idle).trans (searchStart_moves _)

theorem completeSearch_moves (s : State) : Moves s (completeSearch s) := by
  unfold completeSearch
  split
  · exact .refl
  · next sr hsr =>
    split
    · next r c o hr hc =>
      refine .ite (fun hnear => Moves.same (handThen_moves _ _ _ fun u hu => ?_)
        (readRevisions_same_calendar _)) fun _ => rerunSearch_moves hsr
      exact grantSteps_moves (hu.engine.trans hsr) ((hu.seekAt _ _).trans hr) hc (by rwa [hu.slot])
    · exact Move.idle.moves.trans (searchStart_moves _)

theorem takeCommit_moves (s : State) : Moves s (takeCommit s) := by
  unfold takeCommit
  exact .ite (fun _ => .refl) fun _ => (Move.recommit _).moves

theorem takeDueCommit_moves (s : State) : Moves s (takeDueCommit s) := by
  unfold takeDueCommit
  exact .ite (fun _ => (setStore_same_calendar s (by rfl)).moves.trans (takeCommit_moves _)) fun _ => .refl

theorem completeRebuild_moves (x : Bool) (s : State) : Moves s (completeRebuild x s) := by
  have hwritten : Moves s (raiseCause .rebuilt 0 ((recomputeExposure s).setRebuild none)) :=
    Move.rebuilt.moves.same (raiseCause_same_calendar ..)
  unfold completeRebuild
  refine .ite (fun _ => .refl) fun _ => .ite (fun _ => ?_) fun _ => ?_
  · exact (hwritten.trans (searchStart_moves _)).trans (takeDueCommit_moves _)
  · exact (hwritten.trans (takeDueCommit_moves _)).trans (searchStart_moves _)

theorem completeBurst_moves (b : Bay) (s : State) : Moves s (completeBurst b s) := by
  unfold completeBurst
  split
  · exact .refl
  · exact (handThen_moves _ _ _ fun u _ => (putStream_same_calendar b u _).moves).same
      (readRevisions_same_calendar _)

theorem completeRevision_moves (b : Bay) (m : Sample) (s : State) :
    Moves s (completeRevision b m s) := by
  unfold completeRevision
  split
  · exact .refl
  · exact (handThen_moves _ _ _ fun u _ => (putStream_same_calendar b u _).moves).same
      (readRevisions_same_calendar _)

/-! ## Work that has reached its bound -/

theorem overdueBurst_moves (s : State) (b : Bay) : Moves s (overdueBurst s b) := by
  unfold overdueBurst
  split
  · exact .ite (fun _ => .refl) fun _ => completeBurst_moves ..
  · exact .refl

theorem overdueRevisions_moves (s : State) (b : Bay) : Moves s (overdueRevisions s b) :=
  .foldl (fun u m => completeRevision_moves b m u) _ _

theorem overdueSearch_moves (s : State) : Moves s (overdueSearch s) := by
  unfold overdueSearch
  split
  · exact .ite (fun _ => completeSearch_moves s) fun _ => .refl
  · exact .refl

theorem overdueRebuild_moves (order : List Duty) (s : State) : Moves s (overdueRebuild order s) := by
  unfold overdueRebuild
  split
  · exact .ite (fun _ => completeRebuild_moves ..) fun _ => .refl
  · exact .refl

theorem completeOverdue_moves (order : List Duty) (s : State) : Moves s (completeOverdue order s) :=
  (((Moves.foldl overdueBurst_moves bays s).trans (.foldl overdueRevisions_moves bays _)).trans
    (overdueSearch_moves _)).trans (overdueRebuild_moves ..)

/-! ## The duties of a boundary -/

/-- A removal reads the calendar alone. -/
theorem SameCalendar.removeExposure {s t : State} (h : SameCalendar s t) (b : Bay) (r : Seek) :
    SameCalendar (removeExposure b r s) (removeExposure b r t) := by
  rw [removeExposure_eq b r s, removeExposure_eq b r t]
  refine ⟨h.now, h.seeks, ?_, h.rebuild, h.queue, h.engine, h.active⟩
  refine Tab.ext_get fun c => Tab.ext_get fun i => ?_
  refine (removeExposure_at b r t c i).trans (Eq.trans ?_ (removeExposure_at b r s c i).symm)
  rw [h.rebuild, h.slot, h.loadOn, h.exposureAt]

theorem expirySteps_moves {b : Bay} {p : Pos} {r : Seek} {s : State} (h : s.seekAt b p = some r)
    (hstate : r.state = .granted) : Moves s (expirySteps b p r s) := by
  have hlane := putLane_same_calendar b (s.putSeek b p none) { s.lane b with lastExpired := some r.tag }
  exact (((Move.withdraw b p r h (by simp [hstate])).moves.same (hlane.removeExposure b r)).same
    (forecastChange_same_calendar ..)).same (raiseCause_same_calendar ..)

theorem launchOrExpire_moves {s : State} (hstart : isSlotStart s.now = true) (b : Bay) (p : Pos) :
    Moves s (launchOrExpire b s p) := by
  unfold launchOrExpire
  split
  · exact .refl
  · next r hr =>
    refine .ite (fun h => (Move.launch b p r hr h.2 h.1 hstart).moves) fun _ => .ite (fun h => ?_) fun _ => .refl
    exact handThen_moves _ _ _ fun u hu => expirySteps_moves ((hu.seekAt b p).trans hr) h.2

theorem foldl_launchOrExpire_moves {s : State} (hstart : isSlotStart s.now = true) (b : Bay)
    (ps : List Pos) : Moves s (ps.foldl (launchOrExpire b) s) := by
  induction ps generalizing s with
  | nil => exact .refl
  | cons p ps ih =>
    refine (launchOrExpire_moves hstart b p).trans (ih ?_)
    rw [(launchOrExpire_keeps b s p).now]
    exact hstart

theorem advanceEpoch_moves (s : State) : Moves s (advanceEpoch s) := by
  unfold advanceEpoch
  exact .ite (fun _ => (setStore_same_calendar s (by rfl)).moves) fun _ =>
    .ite (fun _ => (setStore_same_calendar s (by rfl)).moves) fun _ =>
      (setStore_same_calendar s (by rfl)).moves.trans (takeCommit_moves _)

theorem clearHolds_moves (s : State) : Moves s (clearHolds s) :=
  (Move.rehold _ (by rw [List.map_map]; rfl)).moves

theorem runDuty_moves (changed : Bool) (s : State) (d : Duty) : Moves s (runDuty changed s d) := by
  cases d with
  | seek b => exact .ite (fun h => foldl_launchOrExpire_moves h b positions) fun _ => .refl
  | stream b => exact (burstDuty_same_calendar b s).moves
  | epoch => exact .ite (fun _ => advanceEpoch_moves s) fun _ => .refl
  | search => exact .ite (fun _ => (clearHolds_moves s).trans (searchStart_moves _)) fun _ => .refl
  | welcome b => exact .ite (fun _ => .ite (fun _ => sendFrame_moves ..) fun _ => .refl) fun _ => .refl
  | mark b => exact .ite (fun _ => .ite (fun _ => sendFrame_moves ..) fun _ => .refl) fun _ => .refl

end Sys2Proof.Machine
end

section
/-! PROOF. The moves of lane events and requests, and of a whole command. -/

namespace Sys2Proof.Machine

/-! ## Lane events -/

section
variable (b : Bay) (s : State)

theorem transmitHead_same_calendar : SameCalendar s (transmitHead b s) := by
  unfold transmitHead
  split
  · exact .refl s
  · exact putLane_same_calendar b s _

theorem detectDrive_same_calendar : SameCalendar s (detectDrive b s) :=
  .ite ((putLane_same_calendar b s _).trans (raiseCause_same_calendar ..)) (.refl s)

theorem goodFrame_same_calendar : SameCalendar s (goodFrame b s) := putLane_same_calendar b s _

theorem loseDrive_moves : Moves s (loseDrive b s) := by
  have hlost : SameCalendar s (raiseCause .depart b
      (s.putLane b { movedLane (s.lane b) .absent with caps := none })) :=
    (putLane_same_calendar b s _).trans (raiseCause_same_calendar ..)
  exact Moves.same (.ite (fun _ => hlost.moves.trans (releaseBay_moves ..)) fun _ => hlost.moves)
    (refreshStream_same_calendar b _)

theorem admitDrive_moves (caps : Caps) : Moves s (admitDrive b caps s) :=
  ((putLane_same_calendar b s _).trans (refreshStream_same_calendar b _)).moves.trans
    (sendFrame_moves ..)

theorem restartDrive_moves (caps : Caps) : Moves s (restartDrive b caps s) :=
  (((putLane_same_calendar b s _).moves.trans (stopped_moves b _)).trans
    (admitDrive_moves b _ caps)).trans (searchStart_moves _)

theorem takeHello_moves (payload : List Byte) : Moves s (takeHello b payload s) :=
  .ite (fun _ => refuse_moves ..) fun _ =>
    .ite (fun _ => restartDrive_moves ..) fun _ => admitDrive_moves ..

theorem takeCommitTag_moves (tag : Tag) : Moves s (takeCommitTag b tag s) := by
  unfold takeCommitTag
  split
  · next p r hfind =>
    have hr := (findTag_some hfind).1
    split
    · next hstate =>
      exact handThen_moves _ _ _ fun u hu =>
        (Move.confirm b p r ((hu.seekAt b p).trans hr) hstate).moves
    · exact refuse_moves ..
    all_goals exact sendFrame_moves ..
  · exact .ite (fun _ => sendFrame_moves ..) fun _ => refuse_moves ..

theorem cutSeek_moves {p : Pos} {r : Seek} (h : s.seekAt b p = some r) (hstate : r.state = .running)
    (hcut : r.abortIndex = none) : Moves s (cutSeek b p r s) := by
  have hmove := (Move.cut b p r h hstate hcut).moves
  exact .ite (fun _ => hmove.same (forecastChange_same_calendar ..)) fun _ => hmove

theorem takeAbortTag_moves (tag : Tag) : Moves s (takeAbortTag b tag s) := by
  unfold takeAbortTag
  split
  · next p r hfind =>
    have hr := (findTag_some hfind).1
    have hwithdraw (h : r.state ≠ .posted) :
        Moves s (publishWhole b r (removeExposure b r (s.putSeek b p none))) :=
      (Move.withdraw b p r hr h).moves.same (forecastChange_same_calendar ..)
    split
    · next hstate => exact (Move.release b p r hr hstate).moves.trans (searchStart_moves _)
    · next hstate => exact hwithdraw (by simp [hstate])
    · next hstate => exact hwithdraw (by simp [hstate])
    · next hstate =>
      exact .ite (fun _ => .refl) fun hcut => cutSeek_moves b s hr hstate (by simpa using hcut)
    · exact .refl
  · exact refuse_moves ..

theorem moveAcc_same_calendar (src : Bay) (v : Int) : SameCalendar s (moveAcc b src v s) := by
  have hstep (dir : Int) : SameCalendar s (stepWorking b src dir s) :=
    .ite ((setAcc_same_calendar s _).trans (setStore_same_calendar _ (by rfl)))
      ((setAcc_same_calendar s _).trans (raiseCause_same_calendar ..))
  unfold moveAcc
  split
  · exact .refl s
  · exact .ite (hstep 1) (.ite (hstep (-1)) (setAcc_same_calendar s _))

theorem takeReport_moves (payload : List Byte) : Moves s (takeReport b payload s) := by
  unfold takeReport
  refine .ite (fun _ => refuse_moves ..) fun _ => (SameCalendar.foldl (fun u x => ?_) _ s).moves
  exact .ite (.foldl (fun v src => .ite (.refl v) (moveAcc_same_calendar ..)) _ u) (.refl u)

end

/-! ## An accepted notice -/

theorem segmentCount_pos {es : List SegmentEntry} {n : Nat} (h : segmentCount es = some n) :
    es ≠ [] := by
  rintro rfl
  simp [segmentCount] at h

/-- A segment as stored lies in its ranges (R2). -/
theorem taken_inRange (e : SegmentEntry) : -127 ≤ e.taken.level ∧ e.taken.level ≤ 127
    ∧ 1 ≤ e.taken.duration ∧ e.taken.duration ≤ 256 := by
  have hlo := e.level.le_toInt
  have hhi := e.level.toInt_lt
  have hduration := e.duration.isLt
  unfold SegmentEntry.taken
  dsimp only
  refine ⟨?_, ?_, ?_, ?_⟩ <;> split <;> omega

theorem readNotice_segments {payload : List Byte} {n : Notice} (h : readNotice payload = some n) :
    ∃ es : List SegmentEntry, es ≠ [] ∧ n.segments = es.map SegmentEntry.taken := by
  unfold readNotice at h
  dsimp only at h
  split at h
  · cases h
  · next k hk =>
    split at h
    · obtain rfl := Option.some.inj h
      exact ⟨_, segmentCount_pos hk, rfl⟩
    · cases h

/-- Some profile index exists: every segment lasts at least a sample (R2, R5). -/
theorem profileLength_taken_pos {es : List SegmentEntry} (h : es ≠ []) :
    1 ≤ profileLength (es.map SegmentEntry.taken) := by
  obtain ⟨e, es, rfl⟩ := List.exists_cons_of_ne_nil h
  have := (taken_inRange e).2.2.1
  simp only [profileLength, List.map_cons, List.sum_cons]
  omega

/-- The record of a notice is what its segments and the bay's release shift compile to. -/
theorem noticeSeek_compiled {s : State} {b : Bay} {payload : List Byte} {n : Notice}
    (hread : readNotice payload = some n) (hset : SettingsLawful s)
    (hlen : profileLength n.segments ≤ 320) : (noticeSeek s b n).Compiled := by
  obtain ⟨es, hne, hsegs⟩ := readNotice_segments hread
  obtain ⟨-, -, -, -, -, hlo, hhi, -⟩ := hset b
  have hpos : 1 ≤ profileLength n.segments := hsegs ▸ profileLength_taken_pos hne
  refine ⟨rfl, hpos, hlen, hlo, hhi, hpos, le_rfl, fun g hg => ?_, rfl, ?_, rfl⟩
  · rw [noticeSeek, compileSeek] at hg
    dsimp only at hg
    rw [hsegs, List.mem_map] at hg
    obtain ⟨e, -, rfl⟩ := hg
    exact taken_inRange e
  · exact compileSeek_span ..

theorem freePosition_free {s : State} {b : Bay} {p : Pos} (h : s.freePosition b = some p) :
    s.seekAt b p = none := by
  simpa using List.find?_some h

theorem takeNoticeFrame_moves (b : Bay) (payload : List Byte) {s : State} (hset : SettingsLawful s) :
    Moves s (takeNoticeFrame b payload s) := by
  unfold takeNoticeFrame
  split
  · exact refuse_moves ..
  · next n hread =>
    unfold takeNotice
    split
    · exact refuse_moves ..
    · next p hp =>
      refine .ite (fun _ => refuse_moves ..) fun _ => .ite (fun _ => refuse_moves ..) fun hlen => ?_
      have hpost := (Move.post b p (noticeSeek s b n) (freePosition_free hp)
        (noticeSeek_compiled hread hset (not_lt.mp hlen)) rfl rfl rfl rfl).moves
      have hforget : SameCalendar ((s.putSeek b p (some (noticeSeek s b n))).setQueue
          (s.queue ++ [{ bay := b, pos := p, held := false }])) ((forgetExpired b n.tag
            (s.putSeek b p (some (noticeSeek s b n)))).setQueue
              (s.queue ++ [{ bay := b, pos := p, held := false }])) := by
        rw [forgetExpired_eq]
        constructor <;> rfl
      have hqueue : (forgetExpired b n.tag (s.putSeek b p (some (noticeSeek s b n)))).queue = s.queue := by
        rw [forgetExpired_eq]
        rfl
      rw [← hqueue] at hforget
      exact (hpost.same (hqueue ▸ hforget)).trans (searchStart_moves _)

theorem receiveFrame_moves (b : Bay) (kind : Byte) (len : Option Nat) (payload : List Byte)
    {take : State → State} (s : State) (h : Moves (goodFrame b s) (take (goodFrame b s))) :
    Moves s (receiveFrame b kind len payload take s) := by
  have hgood := (goodFrame_same_calendar b s).moves
  exact .ite (fun _ => .refl) fun _ => .ite (fun _ => hgood.trans (refuse_moves ..)) fun _ =>
    .ite (fun _ => hgood.trans h) fun _ => hgood.trans (refuse_moves ..)

/-! ## Requests -/

section
variable (b : Bay) (s : State)

theorem clearRow_same_calendar : SameCalendar s (clearRow b s) := setAcc_same_calendar s _

theorem clearHistory_same_calendar : SameCalendar s (clearHistory b s) := setHistory_same_calendar s _

theorem writeSetting_same_calendar (x : Setting) : SameCalendar s (writeSetting b x s) := by
  have hset : SameCalendar s (refreshStream b (s.setSettings (s.settings.upd b x))) := by
    constructor <;> rfl
  exact .ite hset (hset.trans (clearRow_same_calendar ..))

theorem startStream_same_calendar : SameCalendar s (startStream b s) :=
  .ite (putStream_same_calendar b s _) (.refl s)

theorem haltStream_moves : Moves s (haltStream b s) := by
  unfold haltStream
  dsimp only
  split
  · exact .refl
  · exact handThen_moves _ _ _ fun u _ => (putStream_same_calendar b u _).moves
  · refine handThen_moves _ _ _ fun u _ => SameCalendar.moves ?_
    have hdrain := putStream_same_calendar b u (drainingStream (u.stream b))
    exact .ite ((hdrain.trans (putStream_same_calendar b _ _)).trans (raiseCause_same_calendar ..)) hdrain
  · exact .refl

theorem enableRequest_moves (w : SettingFields) : Moves s (enableRequest b w s) :=
  SameCalendar.moves (.ite (answer_same_calendar ..) (((writeSetting_same_calendar b s _).trans
    (startStream_same_calendar b _)).trans (answer_same_calendar ..)))

theorem disableRequest_moves (w : SettingFields) : Moves s (disableRequest b w s) :=
  .ite (fun _ => (answer_same_calendar ..).moves) fun _ =>
    (((writeSetting_same_calendar b s _).moves.trans (haltStream_moves b _)).same
      (readRevisions_same_calendar _)).same (answer_same_calendar ..)

theorem hubWriteRequest_moves (divisor : BitVec 16) (code : Byte) :
    Moves s (hubWriteRequest divisor code s) := by
  have hdivisor : SameCalendar s (writeDivisor (takeDivisor divisor) s) :=
    setTime_same_calendar s (by rfl)
  exact SameCalendar.moves (.ite (answer_same_calendar ..) (.trans (.ite hdivisor
    (hdivisor.trans (setStore_same_calendar _ (by rfl)))) (answer_same_calendar ..)))

theorem freezeRequest_moves : Moves s (freezeRequest s) :=
  SameCalendar.moves (.ite (answer_same_calendar ..)
    ((setStore_same_calendar s (by rfl)).trans (answer_same_calendar ..)))

theorem thawRequest_moves : Moves s (thawRequest s) := by
  unfold thawRequest
  refine .ite (fun _ => (answer_same_calendar ..).moves) fun _ => .ite (fun _ => ?_) fun _ => ?_
  · have hload : Moves s (loadSnapshot s) := (Move.recommit (s := s) _).moves.same
      (t := (s.setStore _).setRebuild _) (by constructor <;> rfl)
    exact hload.same (answer_same_calendar ..)
  · exact ((setStore_same_calendar s (by rfl)).trans (answer_same_calendar ..)).moves

theorem peekRequest_moves : Moves s (peekRequest b s) :=
  SameCalendar.moves (.ite (answer_same_calendar ..) (answer_same_calendar ..))

theorem pokeRequest_moves (row : Tab 16 (Byte × Byte)) : Moves s (pokeRequest b row s) :=
  SameCalendar.moves (.ite ((setStore_same_calendar s (by rfl)).trans (answer_same_calendar ..))
    (answer_same_calendar ..))

theorem resetBay_moves : Moves s (resetBay b s) := by
  have hfreed := (putLane_same_calendar b s (resetLane (s.lane b))).moves.trans (stopped_moves b _)
  have hcleared := ((hfreed.same (clearHistory_same_calendar b _)).same (clearRow_same_calendar b _)).same
    (refreshStream_same_calendar b _)
  exact (hcleared.trans (searchStart_moves _)).same (readRevisions_same_calendar _)

end

/-! ## A whole command -/

/-- The whole of what one command can do to the calendar. -/
inductive CalendarEvent (s : State) : State → Prop
  | moves {t : State} (h : Moves s t) : CalendarEvent s t
  | boundary (order : List Duty) : CalendarEvent s (takeBoundary order s)
  | reset (c : ResetCause) (x : Store) : CalendarEvent s (hubReset c x s)
  | release (order : List Duty) (h : s.pins.resetHeld = true) :
      CalendarEvent s (releaseReset order s)
  | command : CalendarEvent s
      (releaseReset [] (hubReset .command (keptStore s.store) (deselect s)))

theorem CalendarEvent.ite {p : Prop} [Decidable p] {s t : State} (h : p → CalendarEvent s t) :
    CalendarEvent s (if p then t else s) := by
  split
  · exact h ‹_›
  · exact .moves .refl

theorem CalendarEvent.ite_not {p : Prop} [Decidable p] {s t : State} (h : ¬ p → CalendarEvent s t) :
    CalendarEvent s (if p then s else t) := by
  split
  · exact .moves .refl
  · exact h ‹_›

theorem takeEvent_calendarEvent (c : Instr) {s : State} (hset : SettingsLawful s) :
    CalendarEvent s (takeEvent c s) := by
  have hrequest {effect : State → State} (h : Moves s (effect s)) :
      CalendarEvent s (if s.portTakes then effect s else s) := .ite fun _ => .moves h
  have hanswer (k : RequestKind) (payload : State → List Byte) :
      Moves s (answer k statusOk payload s) := (answer_same_calendar ..).moves
  have hframe {t : State} (h : Moves s t) : CalendarEvent s (readRevisions t) :=
    .moves (h.same (readRevisions_same_calendar t))
  cases c with
  | powerOn => exact .reset _ _
  | pinReset => exact .reset _ _
  | resetRelease order => exact .ite fun h => .release order h
  | sampleBoundary order => exact .ite_not fun _ => .boundary order
  | slotStart order => exact .ite fun _ => .boundary order
  | epochEnd order => exact .ite fun _ => .boundary order
  | rebuildComplete searchFirst => exact .moves (completeRebuild_moves ..)
  | searchStart => exact .moves (searchStart_moves s)
  | searchComplete => exact .moves (completeSearch_moves s)
  | burstComplete b => exact .moves (completeBurst_moves b s)
  | revisionComplete b record => exact .moves (completeRevision_moves b record s)
  | drainComplete b => exact .moves (completeDrain_same_calendar b s).moves
  | laneTransmit b => exact .moves (transmitHead_same_calendar b s).moves
  | presenceRise b =>
    have hpins := setPins_same_calendar s { s.pins with present := s.pins.present.upd b true }
    refine .ite_not fun _ => .moves ?_
    exact .ite (fun _ => hpins.moves) fun _ => (hpins.trans (detectDrive_same_calendar b _)).moves
  | presenceFall b =>
    have hpins := setPins_same_calendar s { s.pins with present := s.pins.present.upd b false }
    refine .ite_not fun _ => .moves ?_
    exact .ite (fun _ => hpins.moves) fun _ =>
      (hpins.moves.trans (loseDrive_moves b _)).same (readRevisions_same_calendar _)
  | badFrame b why =>
    refine .ite fun _ => .moves ?_
    exact .ite (fun _ => (putLane_same_calendar b s _).moves) fun _ =>
      (faultLane_moves b s).same (readRevisions_same_calendar _)
  | unknownFrame b kind payload =>
    exact .ite_not fun _ => hframe ((goodFrame_same_calendar b s).moves.trans (refuse_moves ..))
  | hello b payload =>
    exact .ite_not fun _ => hframe ((goodFrame_same_calendar b s).moves.trans (takeHello_moves ..))
  | notice b payload =>
    exact hframe (receiveFrame_moves _ _ _ _ _ (takeNoticeFrame_moves b payload hset))
  | commit b payload => exact hframe (receiveFrame_moves _ _ _ _ _ (takeCommitTag_moves ..))
  | abort b payload => exact hframe (receiveFrame_moves _ _ _ _ _ (takeAbortTag_moves ..))
  | residual b payload => exact hframe (receiveFrame_moves _ _ _ _ _ (takeReport_moves ..))
  | badRequest why =>
    exact hrequest (effect := fun u => respond (badResponseKind why) [statusBadRequest] u)
      (setPort_same_calendar s _).moves
  | settingRead b => exact hrequest (hanswer ..)
  | streamEnable b w => exact hrequest (enableRequest_moves b s w)
  | streamDisable b w => exact hrequest (disableRequest_moves b s w)
  | hubRead => exact hrequest (hanswer ..)
  | hubWrite divisor code => exact hrequest (hubWriteRequest_moves s divisor code)
  | freeze => exact hrequest (freezeRequest_moves s)
  | thaw => exact hrequest (thawRequest_moves s)
  | peekRow b => exact hrequest (peekRequest_moves b s)
  | pokeRow b row => exact hrequest (pokeRequest_moves b s row)
  | activeRowRead b => exact hrequest (hanswer ..)
  | bayInspect b page => exact hrequest (hanswer ..)
  | exposureRead b offset count => exact hrequest (hanswer ..)
  | attentionRead => exact hrequest (hanswer ..)
  | attentionClear causes =>
    exact hrequest (effect := fun u => answer .attentionClear statusOk (fun v => [v.attention.pending])
      (u.setAttention (clearCauses causes u.attention)))
      ((setAttention_same_calendar s _).trans (answer_same_calendar ..)).moves
  | attentionConfigure mask route =>
    exact hrequest (effect := fun u => answer .attentionConfigure statusOk
      (fun v => [v.attention.mask, v.attention.route])
      (u.setAttention { u.attention with mask := mask, route := route }))
      ((setAttention_same_calendar s _).trans (answer_same_calendar ..)).moves
  | bayReset b =>
    exact hrequest (effect := fun u => answer .bayReset statusOk (fun _ => [bayByte b]) (resetBay b u))
      ((resetBay_moves b s).same (answer_same_calendar ..))
  | hubReset =>
    exact hrequest (effect := fun u => answer .hubReset statusOk (fun _ => [])
      (u.setPort { u.port with resetArmed := true }))
      ((setPort_same_calendar s _).trans (answer_same_calendar ..)).moves
  | hubResetAtCsnRise => exact .ite fun _ => .command

theorem countPeriod_calendarEvent (s : State) : CalendarEvent s (countPeriod s) := by
  refine .ite_not fun _ => ?_
  split
  · exact .boundary _
  · exact .moves (setTime_same_calendar s (by rfl)).moves

end Sys2Proof.Machine
end

section
/-! PROOF. Every move keeps the law of the queue (R64, R67), the records' compilation and course (R5 to
R16), the law of the search (R68, R71) and the agreement of the exposure table with the calendar (R51). -/

namespace Sys2Proof.Machine

/-! ## The queue (R64, R67) -/

/-- The queue's law reads the places, which seeks are POSTED, and the search. -/
theorem QueueLawful.of {s t : State} (hs : QueueLawful s)
    (hplaces : (t.queue.map fun e => (e.bay, e.pos)) = s.queue.map fun e => (e.bay, e.pos))
    (hposted : ∀ b p, t.isPosted b p = s.isPosted b p)
    (hengine : ∀ sr, t.engine = some sr → s.engine = some sr
      ∨ s.isPosted sr.bay sr.pos = true ∧ sr.candidates ≠ []) : QueueLawful t := by
  obtain ⟨hnodup, hmem, hsearch⟩ := hs
  refine ⟨hplaces ▸ hnodup, fun b p => ?_, fun sr hsr => ?_⟩
  · rw [hplaces, hposted]
    exact hmem b p
  · rw [hposted]
    obtain h | h := hengine sr hsr
    · exact hsearch sr h
    · exact h

theorem isPosted_iff {s : State} {b : Bay} {p : Pos} :
    s.isPosted b p = true ↔ ∃ r, s.seekAt b p = some r ∧ r.state = .posted := by
  simp [State.isPosted, Option.any_eq_true]

theorem putSeek_isPosted (s : State) (b c : Bay) (p q : Pos) (x : Option Seek) :
    (s.putSeek b p x).isPosted c q
      = if b = c ∧ p = q then x.any fun r => r.state == .posted else s.isPosted c q := by
  rw [State.isPosted, State.seekAt_putSeek]
  split <;> rfl

/-- A record replaced by one that is POSTED as little as it was. -/
theorem putSeek_isPosted_same {s : State} {b : Bay} {p : Pos} {r : Seek} {x : Option Seek}
    (h : s.seekAt b p = some r) (hr : r.state ≠ .posted) (hx : ∀ y, x = some y → y.state ≠ .posted)
    (c : Bay) (q : Pos) : (s.putSeek b p x).isPosted c q = s.isPosted c q := by
  rw [putSeek_isPosted]
  split
  · next heq =>
    obtain ⟨rfl, rfl⟩ := heq
    rw [State.isPosted, h]
    cases x with
    | none => simp [hr]
    | some y => simp [hr, hx y rfl]
  · rfl

/-- The places without one of them. -/
theorem map_filter_place (q : List QueueEntry) (x : Bay × Pos) :
    ((q.filter fun e => (e.bay, e.pos) ≠ x).map fun e => (e.bay, e.pos))
      = (q.map fun e => (e.bay, e.pos)).filter (· ≠ x) := by
  rw [List.filter_map]
  rfl

/-- A POSTED seek leaves the records, the queue and the search together. -/
theorem QueueLawful.leave {s t : State} {b : Bay} {p : Pos} (hs : QueueLawful s)
    (hplaces : (t.queue.map fun e => (e.bay, e.pos))
      = (s.queue.map fun e => (e.bay, e.pos)).filter (· ≠ (b, p)))
    (hposted : ∀ c q, t.isPosted c q = (s.isPosted c q && decide ((c, q) ≠ (b, p))))
    (hengine : ∀ sr, t.engine = some sr → s.engine = some sr ∧ (sr.bay, sr.pos) ≠ (b, p)) :
    QueueLawful t := by
  obtain ⟨hnodup, hmem, hsearch⟩ := hs
  refine ⟨hplaces ▸ hnodup.filter _, fun c q => ?_, fun sr hsr => ?_⟩
  · rw [hplaces, List.mem_filter, hmem, hposted, Bool.and_eq_true]
  · obtain ⟨hold, hne⟩ := hengine sr hsr
    obtain ⟨hp, hc⟩ := hsearch sr hold
    exact ⟨by rw [hposted, hp, decide_eq_true hne]; rfl, hc⟩

theorem putSeek_isPosted_leave (s : State) (b : Bay) (p : Pos) {x : Option Seek}
    (hx : ∀ y, x = some y → y.state ≠ .posted) (c : Bay) (q : Pos) :
    (s.putSeek b p x).isPosted c q = (s.isPosted c q && decide ((c, q) ≠ (b, p))) := by
  rw [putSeek_isPosted]
  by_cases h : b = c ∧ p = q
  · obtain ⟨rfl, rfl⟩ := h
    rw [if_pos ⟨rfl, rfl⟩]
    cases x with
    | none => simp
    | some y => simp [hx y rfl]
  · have hne : (c, q) ≠ (b, p) := fun he => h ⟨(Prod.mk.inj he).1.symm, (Prod.mk.inj he).2.symm⟩
    rw [if_neg h, decide_eq_true hne, Bool.and_true]

theorem QueueLawful.changeExposure {s : State} (f : Bay → Fin 64 → Nat → Nat) (hs : QueueLawful s) :
    QueueLawful (s.changeExposure f) := by
  rw [changeExposure_eq]
  exact hs

theorem Move.queueLawful {s t : State} (h : Move s t) (hs : QueueLawful s) : QueueLawful t := by
  have ⟨hnodup, hmem, hsearch⟩ := hs
  cases h with
  | same h =>
    refine hs.of (by rw [h.queue]) (fun b p => ?_) fun sr hsr => .inl (h.engine ▸ hsr)
    rw [State.isPosted, h.seekAt]
    rfl
  | rehold q h => exact hs.of h (fun _ _ => rfl) fun _ => .inl
  | idle => exact hs.of rfl (fun _ _ => rfl) fun _ h => nomatch h
  | search b p sr h hplace =>
    refine hs.of rfl (fun _ _ => rfl) fun x hx => .inr ?_
    obtain rfl := Option.some.inj hx
    obtain ⟨r, -, rfl, hcandidates⟩ := trySeek_some h
    refine ⟨?_, hcandidates⟩
    obtain hplace | ⟨y, hy, rfl, rfl⟩ := hplace
    · exact (hmem b p).mp hplace
    · exact (hsearch y hy).1
  | release b p r h hstate =>
    rw [abandonSearch_eq, dequeue_eq]
    refine hs.leave (map_filter_place s.queue (b, p))
      (putSeek_isPosted_leave s b p fun _ hy => nomatch hy) fun sr hsr => ?_
    have hfilter : s.engine.filter (fun sr => (sr.bay, sr.pos) ≠ (b, p)) = some sr := hsr
    rw [Option.filter_eq_some_iff] at hfilter
    exact ⟨hfilter.1, of_decide_eq_true hfilter.2⟩
  | withdraw b p r h hstate =>
    exact QueueLawful.changeExposure _ (hs.of rfl
      (putSeek_isPosted_same h hstate fun _ hy => nomatch hy) fun _ => .inl)
  | cut b p r h hstate hcut =>
    refine QueueLawful.changeExposure _ (hs.of rfl
      (putSeek_isPosted_same h (by simp [hstate]) fun y hy => ?_) fun _ => .inl)
    obtain rfl := Option.some.inj hy
    simp [recompileCut, hstate]
  | confirm b p r h hstate =>
    refine hs.of rfl (putSeek_isPosted_same h (by simp [hstate]) fun y hy => ?_) fun _ => .inl
    obtain rfl := Option.some.inj hy
    simp
  | launch b p r h hstate =>
    refine hs.of rfl (putSeek_isPosted_same h (by simp [hstate]) fun y hy => ?_) fun _ => .inl
    obtain rfl := Option.some.inj hy
    simp
  | grant sr r c o hsr h hc hnear =>
    rw [dequeue_eq]
    refine QueueLawful.changeExposure _ (hs.leave (map_filter_place s.queue (sr.bay, sr.pos))
      (putSeek_isPosted_leave s sr.bay sr.pos fun y hy => ?_) fun _ hx => nomatch hx)
    obtain rfl := Option.some.inj hy
    simp only [grantedSeek]
    split <;> simp
  | post b p r h hcompiled hstate hlaunch hmarkers hcut =>
    have hfree : s.isPosted b p = false := by rw [State.isPosted, h]; rfl
    have hposted (c : Bay) (q : Pos) : (s.putSeek b p (some r)).isPosted c q
        = (s.isPosted c q || decide ((c, q) = (b, p))) := by
      rw [putSeek_isPosted]
      by_cases he : b = c ∧ p = q
      · obtain ⟨rfl, rfl⟩ := he
        simp [hstate]
      · have hne : (c, q) ≠ (b, p) := fun hx => he ⟨(Prod.mk.inj hx).1.symm, (Prod.mk.inj hx).2.symm⟩
        rw [if_neg he, decide_eq_false hne, Bool.or_false]
    refine ⟨?_, fun c q => ?_, fun sr hsr => ?_⟩
    · show ((s.queue ++ [_]).map _).Nodup
      rw [List.map_append, List.nodup_append]
      refine ⟨hnodup, List.nodup_singleton _, fun x hx y hy hxy => ?_⟩
      obtain rfl := List.mem_singleton.mp hy
      subst hxy
      have := (hmem b p).mp hx
      rw [hfree] at this
      cases this
    · show (c, q) ∈ (s.queue ++ [_]).map _ ↔ (s.putSeek b p (some r)).isPosted c q = true
      rw [hposted, List.map_append, List.mem_append, hmem, Bool.or_eq_true]
      simp
    · have hold := hsearch sr hsr
      refine ⟨?_, hold.2⟩
      show (s.putSeek b p (some r)).isPosted sr.bay sr.pos = true
      rw [hposted, hold.1]
      rfl
  | rebuilt => exact hs.of rfl (fun _ _ => rfl) fun _ => .inl
  | recommit x => exact hs.of rfl (fun _ _ => rfl) fun _ => .inl

/-! ## The course of the records (R13 to R16, R22, R25, R26, R71) -/

/-- A waiting seek whose launch slot has begun: the slot start launches it or lets it expire (R22, R23). -/
def Seek.Due (now : Sample) (r : Seek) : Prop :=
  r.launch = some (slotOf now) ∧ (r.state = .granted ∨ r.state = .committed) ∧ r.markers.isSome
    ∧ r.abortIndex = none

/-- Every record is compiled, and timely or due. -/
def OnCourse (s : State) : Prop :=
  ∀ b p r, s.seekAt b p = some r → r.Compiled ∧ (r.Timely s.now ∨ r.Due s.now)

theorem onCourse_of_seeksLawful {s : State} (h : SeeksLawful s) : OnCourse s :=
  fun b p r hr => ⟨(h b p r hr).1, .inl (h b p r hr).2⟩

theorem OnCourse.of {s t : State} (hs : OnCourse s) (hnow : t.now = s.now)
    (h : ∀ b p r, t.seekAt b p = some r →
      s.seekAt b p = some r ∨ r.Compiled ∧ (r.Timely s.now ∨ r.Due s.now)) : OnCourse t := by
  intro b p r hr
  rw [hnow]
  obtain h | h := h b p r hr
  · exact hs b p r h
  · exact h

/-- A record replaced by one on its course. -/
theorem OnCourse.put {s : State} (hs : OnCourse s) {b : Bay} {p : Pos} {x : Option Seek}
    (hx : ∀ y, x = some y → y.Compiled ∧ (y.Timely s.now ∨ y.Due s.now)) :
    OnCourse (s.putSeek b p x) :=
  hs.of rfl fun c q r hr => by
    rw [State.seekAt_putSeek] at hr
    split at hr
    · exact .inr (hx r hr)
    · exact .inl hr

theorem OnCourse.changeExposure {s : State} (f : Bay → Fin 64 → Nat → Nat) (hs : OnCourse s) :
    OnCourse (s.changeExposure f) := by
  rw [changeExposure_eq]
  exact hs

theorem Seek.Compiled.levels {r : Seek} (h : r.Compiled) : ∀ g ∈ r.segments, g.level.natAbs ≤ 127 := by
  obtain ⟨-, -, -, -, -, -, -, hsegs, -⟩ := h
  intro g hg
  obtain ⟨hlo, hhi, -, -⟩ := hsegs g hg
  omega

/-- A record's run and tail: at least one sample, at most 446, and as many slots as its span counts. -/
theorem Seek.Compiled.bounds {r : Seek} (h : r.Compiled) : 1 ≤ r.runEnd ∧ r.runEnd ≤ 320
    ∧ r.tailLen ≤ 127 ∧ r.span = (r.runEnd + r.tailLen + 7) / 8 := by
  have hlevels := h.levels
  obtain ⟨-, -, hlen, -, -, hlo, hhi, -, htail, hspan, -⟩ := h
  exact ⟨hlo, hhi.trans hlen, htail.trans_le (runTail_length_le hlevels _ _), hspan⟩

theorem Seek.Compiled.span_pos {r : Seek} (h : r.Compiled) : 1 ≤ r.span ∧ r.span ≤ 56 := by
  obtain ⟨hlo, hhi, htail, hspan⟩ := h.bounds
  omega

theorem Seek.Compiled.mags_length {r : Seek} (h : r.Compiled) : r.mags.length = r.span := by
  obtain ⟨hlen, -, -, -, -, -, hhi, -, htail, hspan, hmags⟩ := h
  rw [hmags, slotMagnitudes_length, profileValues_length (hlen ▸ hhi), hspan, Seek.tailEnd, htail]

theorem recompileCut_compiled {r : Seek} {n : Nat} (h : r.Compiled) (h1 : 1 ≤ n) (hn : n ≤ r.length) :
    (recompileCut r n).Compiled := by
  obtain ⟨hlen, hpos, hlong, hlo, hhi, -, -, hsegs, -⟩ := h
  refine ⟨hlen, hpos, hlong, hlo, hhi, h1, hn, hsegs, rfl, ?_, rfl⟩
  show slotsFor (profileValues r.segments n r.shift).length = _
  rw [profileValues_length (hlen ▸ hn)]
  rfl

theorem Seek.Timely.running {now : Sample} {r : Seek} (h : r.Timely now) (hstate : r.state = .running) :
    ∃ l, r.launch = some l ∧ r.markers.isSome ∧ (l - slotOf now).toInt + r.span ≤ 64
      ∧ 0 ≤ (now - launchSample l).toInt ∧ (now - launchSample l).toInt < r.runEnd := by
  unfold Seek.Timely at h
  split at h
  · rw [hstate] at h
    cases h.1
  · next l hl =>
    rw [hstate] at h
    obtain ⟨-, hmarkers, hspan, hlo, hhi⟩ := h
    exact ⟨l, hl, hmarkers, hspan, hlo, hhi⟩

/-- Timely or due, a waiting seek has a launch slot not yet past. -/
theorem Seek.waiting_course {now : Sample} {r : Seek} (hc : r.Compiled)
    (h : r.Timely now ∨ r.Due now) (hstate : r.state = .granted ∨ r.state = .committed) :
    ∃ l, r.launch = some l ∧ r.markers.isSome ∧ r.abortIndex = none
      ∧ (l - slotOf now).toInt + r.span ≤ 64 ∧ 0 ≤ (l - slotOf now).toInt
      ∧ (r.Due now ∨ 1 ≤ (l - slotOf now).toInt) := by
  obtain h | h := h
  · unfold Seek.Timely at h
    split at h
    · rw [h.1] at hstate
      simp at hstate
    · next l hl =>
      obtain hstate | hstate := hstate <;>
        · rw [hstate] at h
          obtain ⟨-, hmarkers, hspan, hlo, hcut⟩ := h
          exact ⟨l, hl, hmarkers, hcut, hspan, by omega, .inr hlo⟩
  · have hspan := hc.span_pos
    obtain ⟨hl, -, hmarkers, hcut⟩ := id h
    refine ⟨slotOf now, hl, hmarkers, hcut, ?_, ?_, .inl h⟩ <;> rw [BitVec.sub_self]
    · simp
      omega
    · simp

theorem Seek.posted_course {now : Sample} {r : Seek} (h : r.Timely now ∨ r.Due now)
    (hstate : r.state = .posted) : r.launch = none ∧ r.markers = none ∧ r.abortIndex = none := by
  obtain h | ⟨-, h, -⟩ := h
  · unfold Seek.Timely at h
    split at h
    · next hl => exact ⟨hl, h.2⟩
    · exact absurd hstate h.1
  · simp [hstate] at h

/-! ### Samples and slots -/

/-- The slot of a sample counted from a slot's first. -/
theorem slotOf_launchSample_add (l : Slot) (d : Nat) :
    slotOf (launchSample l + BitVec.ofNat 32 d) = l + BitVec.ofNat 29 (d / 8) := by
  have hl := l.isLt
  refine BitVec.eq_of_toNat_eq ?_
  simp only [slotOf, launchSample, BitVec.toNat_add, BitVec.toNat_ofNat]
  omega

/-- A sample number from a slot's first, counted forward. -/
theorem eq_launchSample_add {now : Sample} {l : Slot} (h : 0 ≤ (now - launchSample l).toInt) :
    ∃ d : Nat, now = launchSample l + BitVec.ofNat 32 d ∧ (now - launchSample l).toInt = d := by
  refine ⟨(now - launchSample l).toNat, ?_, ?_⟩
  · rw [BitVec.ofNat_toNat, BitVec.setWidth_eq, BitVec.add_comm, BitVec.sub_add_cancel]
  · rw [BitVec.toInt_eq_toNat_cond] at h ⊢
    split
    · rfl
    · have := (now - launchSample l).isLt
      omega

/-- A slot counted back to from a later one, few enough slots on to compare. -/
theorem toInt_sub_add_ofNat (m : Slot) {j : Nat} (h : j < 2 ^ 28) :
    (m - (m + BitVec.ofNat 29 j)).toInt = -(j : Int) := by
  have hsub : m - (m + BitVec.ofNat 29 j) = -BitVec.ofNat 29 j := by bv_omega
  rw [hsub, BitVec.toInt_neg, BitVec.toInt_eq_toNat_of_lt] <;> rw [BitVec.toNat_ofNat]
  · rw [Int.bmod_eq_of_le] <;> omega
  · omega

/-- Up to seven samples on, the slot is the same or the next. -/
theorem slotOf_soon {now start : Sample} (h : (now - start).toNat ≤ 7) :
    slotOf now = slotOf start ∨ slotOf now = slotOf start + 1 := by
  have hnow := now.isLt
  have hstart := start.isLt
  rw [BitVec.toNat_sub] at h
  have hnat : now.toNat / 8 = start.toNat / 8 ∨ now.toNat / 8 = start.toNat / 8 + 1
      ∨ now.toNat / 8 = 0 ∧ start.toNat / 8 = 2 ^ 29 - 1 := by omega
  obtain h | h | ⟨h0, h1⟩ := hnat
  · exact .inl (by rw [slotOf, slotOf, h])
  · refine .inr (BitVec.eq_of_toNat_eq ?_)
    rw [slotOf, slotOf, h, BitVec.toNat_add, BitVec.toNat_ofNat, BitVec.toNat_ofNat,
      show (1 : Slot).toNat = 1 from rfl]
    omega
  · refine .inr ?_
    rw [slotOf, slotOf, h0, h1]
    rfl

/-! ### The chosen slot (R71, R73, R76) -/

theorem leastHarm_mem (sr : Search) (best : Slot) (cs : List Slot) :
    leastHarm sr best cs ∈ best :: cs := by
  induction cs generalizing best with
  | nil => exact List.mem_singleton.mpr rfl
  | cons c cs ih =>
    have hstep : leastHarm sr best (c :: cs)
        = leastHarm sr (if worstExcess sr c < worstExcess sr best then c else best) cs := rfl
    rw [hstep]
    split
    · exact List.mem_cons_of_mem _ (ih c)
    · obtain h | h := List.mem_cons.mp (ih best)
      · rw [h]
        exact List.mem_cons_self ..
      · exact List.mem_cons_of_mem _ (List.mem_cons_of_mem _ h)

theorem chooseSlot_mem {sr : Search} {c : Slot} {o : Bool} (h : chooseSlot sr = some (c, o)) :
    c ∈ sr.candidates := by
  unfold chooseSlot at h
  split at h
  · next t ht =>
    cases h
    exact List.mem_of_find?_eq_some ht
  · split at h
    · cases h
    · next t rest ht =>
      cases h
      rw [ht]
      exact leastHarm_mem sr t rest

/-- A slot chosen within the horizon of the search's start, and at or after current + 2, keeps the grant
within the current horizon. -/
theorem chosen_in_horizon {start now : Slot} {c : Slot} {span : Nat} (hspan : 1 ≤ span ∧ span ≤ 56)
    (hslot : now = start ∨ now = start + 1)
    (hbound : atOrBefore c (start + 64 - BitVec.ofNat 29 span) = true)
    (hnear : atOrBefore (now + 2) c = true) :
    1 ≤ (c - now).toInt ∧ (c - now).toInt + span ≤ 64 := by
  rw [atOrBefore, decide_eq_true_iff] at hbound hnear
  obtain ⟨j, hj⟩ : ∃ j : Nat, (c - (now + 2)).toNat = j ∧ j < 2 ^ 28 := by
    refine ⟨_, rfl, ?_⟩
    rw [BitVec.toInt_eq_toNat_cond] at hnear
    have := (c - (now + 2)).isLt
    split at hnear <;> omega
  obtain ⟨k, hk⟩ : ∃ k : Nat, (start + 64 - BitVec.ofNat 29 span - c).toNat = k ∧ k < 2 ^ 28 := by
    refine ⟨_, rfl, ?_⟩
    rw [BitVec.toInt_eq_toNat_cond] at hbound
    have := (start + 64 - BitVec.ofNat 29 span - c).isLt
    split at hbound <;> omega
  have hsum : j + k + span ≤ 62 ∧ (c - now).toNat = j + 2 := by
    obtain rfl | rfl := hslot <;> constructor <;> bv_omega
  rw [BitVec.toInt_eq_toNat_of_lt] <;> omega

end Sys2Proof.Machine
end

section
/-! PROOF. Every move keeps the records' course, the law of the search and the agreement of the exposure
table with the calendar. -/

namespace Sys2Proof.Machine

/-! ## The records' course under a move -/

theorem grantedSeek_timely {now : Sample} {sr : Search} {r : Seek} {c : Slot} {o : Bool}
    (hcompiled : r.Compiled) (hcut : r.abortIndex = none) (hspan : sr.span = r.span)
    (hstart : sr.startSlot = slotOf sr.startSample) (hage : (now - sr.startSample).toNat ≤ 7)
    (hbound : ∀ t ∈ sr.candidates, atOrBefore t (sr.startSlot + 64 - BitVec.ofNat 29 sr.span) = true)
    (hc : chooseSlot sr = some (c, o)) (hnear : atOrBefore (slotOf now + 2) c = true) :
    (grantedSeek r c o).Timely now := by
  have hslot := slotOf_soon hage
  rw [← hstart] at hslot
  obtain ⟨hlo, hhi⟩ := chosen_in_horizon (hspan ▸ hcompiled.span_pos) hslot
    (hbound c (chooseSlot_mem hc)) hnear
  rw [hspan] at hhi
  show (if r.auto then SeekState.committed else .granted) ≠ .posted ∧ true = true ∧ _ ∧ _
  refine ⟨by split <;> simp, rfl, hhi, ?_⟩
  show match (if r.auto then SeekState.committed else .granted) with
    | .posted => False
    | .granted => 1 ≤ (c - slotOf now).toInt ∧ r.abortIndex = none
    | .committed => 1 ≤ (c - slotOf now).toInt ∧ r.abortIndex = none
    | .running => _
    | .tail => _
  split_ifs
  · exact ⟨hlo, hcut⟩
  · exact ⟨hlo, hcut⟩

theorem launch_at_start {now : Sample} (h : isSlotStart now = true) :
    (now - launchSample (slotOf now)).toInt = 0 := by
  rw [launchSample_slotOf h, BitVec.sub_self]
  rfl

/-- The sample after one that is `d` samples on from a slot's first. -/
theorem launchSample_add_succ (l : Slot) (d : Nat) :
    launchSample l + BitVec.ofNat 32 d + 1 = launchSample l + BitVec.ofNat 32 (d + 1) := by
  rw [BitVec.add_assoc, BitVec.ofNat_add]
  rfl

theorem launchSample_add_sub (l : Slot) {d : Nat} (h : d < 2 ^ 31) :
    (launchSample l + BitVec.ofNat 32 d - launchSample l).toInt = d := by
  rw [BitVec.add_comm, BitVec.add_sub_cancel, BitVec.toInt_eq_toNat_of_lt] <;> rw [BitVec.toNat_ofNat]
    <;> omega

/-- A running seek's launch slot is not after the current one. -/
theorem running_slot {now : Sample} {l : Slot} {n : Nat} (hn : n ≤ 2 ^ 20)
    (hlo : 0 ≤ (now - launchSample l).toInt) (hhi : (now - launchSample l).toInt < n) :
    (l - slotOf now).toInt ≤ 0 := by
  obtain ⟨d, rfl, hd⟩ := eq_launchSample_add hlo
  rw [hd] at hhi
  rw [slotOf_launchSample_add, toInt_sub_add_ofNat _ (by omega)]
  omega

theorem recompileCut_timely {now : Sample} {r : Seek} (hcompiled : r.Compiled) (h : r.Timely now)
    (hstate : r.state = .running) (hcut : r.abortIndex = none) :
    (recompileCut r (cutIndex now r)).Compiled ∧ (recompileCut r (cutIndex now r)).Timely now := by
  obtain ⟨-, hlong, -, -⟩ := hcompiled.bounds
  obtain ⟨l, hl, hmarkers, -, hlo, hhi⟩ := h.running hstate
  obtain ⟨h1, hle, hindex, -⟩ := cutIndex_of_timely hl hstate hlong h
  have hend : r.runEnd = r.length := by simp [Seek.runEnd, hcut]
  have hnew := recompileCut_compiled hcompiled h1 (hend ▸ hle)
  have hslot := running_slot (n := r.runEnd) (by omega) hlo hhi
  have hspan := hnew.span_pos
  have hnext : (now + 1 - launchSample l).toInt = (now - launchSample l).toInt + 1 := by
    obtain ⟨d, hnow, hd⟩ := eq_launchSample_add hlo
    rw [hd, hnow, launchSample_add_succ, launchSample_add_sub] <;> omega
  refine ⟨hnew, ?_⟩
  show match r.launch with
    | none => _
    | some l => r.state ≠ .posted ∧ r.markers.isSome
      ∧ (l - slotOf now).toInt + (recompileCut r (cutIndex now r)).span ≤ 64 ∧ match r.state with
        | .posted => False
        | .granted => _
        | .committed => _
        | .running => 0 ≤ (now - launchSample l).toInt ∧ (now - launchSample l).toInt < cutIndex now r
        | .tail => _
  rw [hl, hstate]
  exact ⟨by simp, hmarkers, by omega, hlo, by omega⟩

theorem launched_timely {now : Sample} {r : Seek} (hcompiled : r.Compiled)
    (h : r.Timely now ∨ r.Due now) (hstate : r.state = .committed) (hlaunch : r.launch = some (slotOf now))
    (hstart : isSlotStart now = true) : ({ r with state := .running } : Seek).Timely now := by
  obtain ⟨l, hl, hmarkers, -, hspan, -⟩ := Seek.waiting_course hcompiled h (.inr hstate)
  obtain rfl := Option.some.inj (hlaunch.symm.trans hl)
  obtain ⟨hpos, -⟩ := hcompiled.bounds
  show match r.launch with
    | none => _
    | some l => SeekState.running ≠ .posted ∧ r.markers.isSome ∧ (l - slotOf now).toInt + r.span ≤ 64
      ∧ 0 ≤ (now - launchSample l).toInt ∧ (now - launchSample l).toInt < r.runEnd
  rw [hl]
  dsimp only
  rw [launch_at_start hstart]
  exact ⟨by simp, hmarkers, hspan, le_rfl, by omega⟩

theorem confirmed_course {now : Sample} {r : Seek} (hstate : r.state = .granted)
    (h : r.Timely now ∨ r.Due now) : ({ r with state := .committed } : Seek).Timely now
      ∨ ({ r with state := .committed } : Seek).Due now := by
  refine h.imp (fun h => ?_) fun ⟨hl, _, hrest⟩ => ⟨hl, .inr rfl, hrest⟩
  unfold Seek.Timely at h
  split at h
  · rw [hstate] at h
    cases h.1
  · next l hl =>
    rw [hstate] at h
    obtain ⟨-, hmarkers, hspan, hlo⟩ := h
    show match r.launch with
      | none => _
      | some l => SeekState.committed ≠ .posted ∧ r.markers.isSome ∧ (l - slotOf now).toInt + r.span ≤ 64
        ∧ 1 ≤ (l - slotOf now).toInt ∧ r.abortIndex = none
    rw [hl]
    exact ⟨by simp, hmarkers, hspan, hlo⟩

theorem Move.onCourse {s t : State} (h : Move s t) (hq : QueueLawful s) (hl : SearchLawful s)
    (hs : OnCourse s) : OnCourse t := by
  cases h with
  | same h => exact hs.of h.now fun b p r hr => .inl (h.seekAt b p ▸ hr)
  | rehold | idle | search | rebuilt | recommit => exact hs
  | release b p r h hstate =>
    rw [abandonSearch_eq, dequeue_eq]
    exact hs.put (b := b) (p := p) (x := none) fun y hy => by cases hy
  | withdraw b p r h hstate =>
    exact (hs.put (x := none) fun y hy => by cases hy).changeExposure _
  | post b p r h hcompiled hstate hlaunch hmarkers hcut =>
    refine hs.put (b := b) (p := p) (x := some r) fun y hy => ?_
    obtain rfl := Option.some.inj hy
    refine ⟨hcompiled, .inl ?_⟩
    rw [Seek.Timely, hlaunch]
    exact ⟨hstate, hmarkers, hcut⟩
  | grant sr r c o hsr h hc hnear =>
    rw [dequeue_eq]
    refine OnCourse.changeExposure _ (hs.put (b := sr.bay) (p := sr.pos)
      (x := some (grantedSeek r c o)) fun y hy => ?_)
    obtain rfl := Option.some.inj hy
    obtain ⟨hcompiled, hcourse⟩ := hs _ _ _ h
    obtain ⟨x, hx, hposted⟩ := isPosted_iff.mp (hq.2.2 sr hsr).1
    obtain rfl := Option.some.inj (hx.symm.trans h)
    obtain ⟨-, -, hcut⟩ := Seek.posted_course hcourse hposted
    obtain ⟨hstart, hage, hcopy, hbound⟩ := hl sr hsr
    exact ⟨hcompiled, .inl (grantedSeek_timely hcompiled hcut (hcopy _ h).1 hstart hage hbound hc hnear)⟩
  | confirm b p r h hstate =>
    refine hs.put fun y hy => ?_
    obtain rfl := Option.some.inj hy
    obtain ⟨hcompiled, hcourse⟩ := hs _ _ _ h
    exact ⟨hcompiled, confirmed_course hstate hcourse⟩
  | launch b p r h hstate hlaunch hstart =>
    refine hs.put fun y hy => ?_
    obtain rfl := Option.some.inj hy
    obtain ⟨hcompiled, hcourse⟩ := hs _ _ _ h
    exact ⟨hcompiled, .inl (launched_timely hcompiled hcourse hstate hlaunch hstart)⟩
  | cut b p r h hstate hcut =>
    refine OnCourse.changeExposure _ (hs.put fun y hy => ?_)
    obtain rfl := Option.some.inj hy
    obtain ⟨hcompiled, hcourse⟩ := hs _ _ _ h
    have htimely : r.Timely s.now := hcourse.resolve_right fun hd => by simp [Seek.Due, hstate] at hd
    obtain ⟨hnew, hkept⟩ := recompileCut_timely hcompiled htimely hstate hcut
    exact ⟨hnew, .inl hkept⟩

/-! ## The search under a move (R68, R71) -/

/-- A search's copy of its record's span, magnitudes and window (R68). -/
def Seek.SameWindow (x r : Seek) : Prop :=
  x.span = r.span ∧ x.mags = r.mags ∧ x.earliest = r.earliest ∧ x.latest = r.latest

theorem SearchLawful.of {s t : State} (hs : SearchLawful s) (hnow : t.now = s.now)
    (h : ∀ sr, t.engine = some sr → s.engine = some sr ∧ ∀ r, t.seekAt sr.bay sr.pos = some r →
      ∃ x, s.seekAt sr.bay sr.pos = some x ∧ x.SameWindow r) : SearchLawful t := by
  intro sr hsr
  obtain ⟨hold, hrecord⟩ := h sr hsr
  obtain ⟨hstart, hage, hcopy, hbound⟩ := hs sr hold
  rw [hnow]
  refine ⟨hstart, hage, fun r hr => ?_, hbound⟩
  obtain ⟨x, hx, hspan, hmags, hearliest, hlatest⟩ := hrecord r hr
  rw [← hspan, ← hmags, ← hearliest, ← hlatest]
  exact hcopy x hx

theorem SearchLawful.of_idle {s : State} (h : s.engine = none) : SearchLawful s :=
  fun sr hsr => by rw [h] at hsr; cases hsr

theorem SearchLawful.changeExposure {s : State} (f : Bay → Fin 64 → Nat → Nat) (hs : SearchLawful s) :
    SearchLawful (s.changeExposure f) := by
  rw [changeExposure_eq]
  exact hs

/-- A search goes on beside a record that changes, unless it is the search's own. -/
theorem SearchLawful.put {s : State} (hs : SearchLawful s) {b : Bay} {p : Pos} {x : Option Seek}
    (hx : ∀ sr, s.engine = some sr → sr.bay = b → sr.pos = p → ∀ r, x = some r →
      ∃ y, s.seekAt b p = some y ∧ y.SameWindow r) : SearchLawful (s.putSeek b p x) := by
  refine hs.of rfl fun sr hsr => ⟨hsr, fun r hr => ?_⟩
  rw [State.seekAt_putSeek] at hr
  split at hr
  · next h => 
    obtain ⟨rfl, rfl⟩ := h
    exact hx sr hsr rfl rfl r hr
  · exact ⟨r, hr, rfl, rfl, rfl, rfl⟩

/-- The search's own record is POSTED, so any other record's change leaves the search. -/
theorem SearchLawful.put_granted {s : State} (hs : SearchLawful s) (hq : QueueLawful s) {b : Bay} {p : Pos}
    {x : Option Seek} (h : s.isPosted b p = false) : SearchLawful (s.putSeek b p x) :=
  hs.put fun sr hsr hb hp => by
    have hposted := (hq.2.2 sr hsr).1
    rw [hb, hp, h] at hposted
    cases hposted

theorem isPosted_false {s : State} {b : Bay} {p : Pos} {r : Seek} (h : s.seekAt b p = some r)
    (hr : r.state ≠ .posted) : s.isPosted b p = false := by
  rw [State.isPosted, h]
  simpa using hr

theorem prepareSearch_lawful {s : State} {b : Bay} {p : Pos} {r : Seek} (h : s.seekAt b p = some r) :
    SearchLawful (s.setEngine (some (prepareSearch s b p r))) := by
  intro sr hsr
  obtain rfl := Option.some.inj hsr
  have hage : (s.now - (prepareSearch s b p r).startSample).toNat ≤ 7 := by
    show (s.now - s.now).toNat ≤ 7
    simp
  refine ⟨rfl, hage, fun x hx => ?_, fun t ht => ?_⟩
  · obtain rfl := Option.some.inj (h.symm.trans hx)
    exact ⟨rfl, rfl, rfl, rfl⟩
  · exact (List.mem_filter.mp ht).2

theorem Move.searchLawful {s t : State} (h : Move s t) (hq : QueueLawful s) (hs : SearchLawful s) :
    SearchLawful t := by
  cases h with
  | same h =>
    refine hs.of h.now fun sr hsr => ⟨h.engine ▸ hsr, fun r hr => ⟨r, ?_, rfl, rfl, rfl, rfl⟩⟩
    rwa [h.seekAt] at hr
  | rehold | rebuilt | recommit => exact hs
  | idle => exact .of_idle rfl
  | search b p sr h hplace =>
    obtain ⟨r, hr, rfl, -⟩ := trySeek_some h
    exact prepareSearch_lawful hr
  | release b p r h hstate =>
    have hput : SearchLawful (s.putSeek b p none) := hs.put fun _ _ _ _ y hy => by cases hy
    rw [abandonSearch_eq, dequeue_eq]
    refine hput.of rfl fun sr hsr => ⟨?_, fun r hr => ⟨r, hr, rfl, rfl, rfl, rfl⟩⟩
    exact (Option.filter_eq_some_iff.mp hsr).1
  | withdraw b p r h hstate =>
    exact (hs.put (x := none) fun _ _ _ _ y hy => by cases hy).changeExposure _
  | post b p r h =>
    exact hs.put_granted hq (b := b) (p := p) (x := some r) (by rw [State.isPosted, h]; rfl)
  | grant sr r c o hsr h hc hnear =>
    exact SearchLawful.changeExposure _ (.of_idle rfl)
  | confirm b p r h hstate => exact hs.put_granted hq (isPosted_false h (by simp [hstate]))
  | launch b p r h hstate => exact hs.put_granted hq (isPosted_false h (by simp [hstate]))
  | cut b p r h hstate =>
    exact (hs.put_granted hq (isPosted_false h (by simp [hstate]))).changeExposure _

/-! ## The calendar's load as a sum over the records (R51) -/

/-- What stands at position `p` of bay `src`, where granted, places this load on bay `b` in slot `m`. -/
def State.grantedLoad (s : State) (src b : Bay) (m : Slot) (p : Pos) : Nat :=
  ((s.seekAt src p).map fun r => if r.isGranted then s.loadOn src r b m else 0).getD 0

theorem calendarLoad_eq (s : State) (b : Bay) (m : Slot) :
    s.calendarLoad b m = ∑ x : Bay × Pos, s.grantedLoad x.1 b m x.2 := by
  rw [Fintype.sum_prod_type, Fin.sum_univ_def]
  refine congrArg List.sum (List.map_congr_left fun src _ => ?_)
  rw [Fin.sum_univ_def, State.liveSeeks, sum_map_filterMap]
  simp only [Option.map_map]
  rfl

theorem grantedLoad_le (s : State) (src b : Bay) (m : Slot) (p : Pos) :
    s.grantedLoad src b m p ≤ s.calendarLoad b m := by
  rw [calendarLoad_eq]
  exact Finset.single_le_sum (f := fun x : Bay × Pos => s.grantedLoad x.1 b m x.2)
    (fun _ _ => Nat.zero_le _) (Finset.mem_univ (src, p))

theorem grantedLoad_congr {s t : State} {src b : Bay} {p : Pos}
    (hseek : t.seekAt src p = s.seekAt src p) (hcoeff : t.coeff b src = s.coeff b src) (m : Slot) :
    t.grantedLoad src b m p = s.grantedLoad src b m p := by
  unfold State.grantedLoad State.loadOn
  rw [hseek, hcoeff]

theorem calendarLoad_congr {s t : State} {b : Bay} {m n : Slot}
    (h : ∀ src p, t.grantedLoad src b m p = s.grantedLoad src b n p) :
    t.calendarLoad b m = s.calendarLoad b n := by
  rw [calendarLoad_eq, calendarLoad_eq]
  exact Finset.sum_congr rfl fun x _ => h x.1 x.2

/-- A record that changes, with its old load and its new one. -/
theorem calendarLoad_put (s : State) (src : Bay) (p : Pos) (x : Option Seek) (b : Bay) (m : Slot) :
    (s.putSeek src p x).calendarLoad b m + s.grantedLoad src b m p
      = s.calendarLoad b m + (s.putSeek src p x).grantedLoad src b m p := by
  rw [calendarLoad_eq, calendarLoad_eq, Fintype.sum_eq_add_sum_compl (src, p),
    Fintype.sum_eq_add_sum_compl (src, p) fun y : Bay × Pos => s.grantedLoad y.1 b m y.2]
  have hrest : (∑ y ∈ {(src, p)}ᶜ, (s.putSeek src p x).grantedLoad y.1 b m y.2)
      = ∑ y ∈ {(src, p)}ᶜ, s.grantedLoad y.1 b m y.2 := by
    refine Finset.sum_congr rfl fun y hy =>
      grantedLoad_congr (s := s) (t := s.putSeek src p x) (src := y.1) (p := y.2) ?_ rfl m
    rw [State.seekAt_putSeek, if_neg]
    rintro ⟨rfl, rfl⟩
    simp at hy
  rw [hrest]
  dsimp only
  omega

theorem grantedLoad_putSeek (s : State) (src : Bay) (p : Pos) (x : Option Seek) (b : Bay) (m : Slot) :
    (s.putSeek src p x).grantedLoad src b m p
      = (x.map fun r => if r.isGranted then s.loadOn src r b m else 0).getD 0 := by
  unfold State.grantedLoad
  rw [State.seekAt_putSeek, if_pos ⟨rfl, rfl⟩]
  rfl

theorem grantedLoad_of_seekAt {s : State} {src : Bay} {p : Pos} {r : Seek}
    (h : s.seekAt src p = some r) (b : Bay) (m : Slot) :
    s.grantedLoad src b m p = if r.isGranted then s.loadOn src r b m else 0 := by
  rw [State.grantedLoad, h]
  rfl

theorem isGranted_of_course {now : Sample} {r : Seek} (h : r.Timely now ∨ r.Due now)
    (hstate : r.state ≠ .posted) : r.isGranted = true := by
  have hlaunch : r.launch.isSome := by
    obtain h | h := h
    · unfold Seek.Timely at h
      split at h
      · exact absurd h.1 hstate
      · next hl => rw [hl]; rfl
    · rw [h.1]
      rfl
  simp [Seek.isGranted, hstate, hlaunch]

theorem isGranted_posted {r : Seek} (h : r.state = .posted) : r.isGranted = false := by
  simp [Seek.isGranted, h]

/-! ## The exposure table under a move (R51 to R54, R59) -/

/-- The table agrees again where the entries follow a record's change. -/
theorem ExposureAgrees.put {s t : State} (hs : ExposureAgrees s) {src : Bay} {p : Pos} {x : Option Seek}
    (hsame : SameCalendar (((s.putSeek src p x).setQueue t.queue).setEngine t.engine)
      (t.setExposure s.exposure))
    (hentry : s.rebuild = none → ∀ (b : Bay) (i : Fin 64), i ≠ positionOf s.slot →
      s.grantedLoad src b (slotAt s.slot i) p ≤ s.exposureAt b i →
      t.exposureAt b i + s.grantedLoad src b (slotAt s.slot i) p
        = s.exposureAt b i + (s.putSeek src p x).grantedLoad src b (slotAt s.slot i) p) :
    ExposureAgrees t := by
  intro hnone b i hi
  have hslot : t.slot = s.slot := hsame.slot
  have hrebuild : s.rebuild = none := hsame.rebuild.symm.trans hnone
  have hload : t.calendarLoad b (slotAt s.slot i) = (s.putSeek src p x).calendarLoad b (slotAt s.slot i) :=
    calendarLoad_congr fun c q => grantedLoad_congr (hsame.seekAt c q) (hsame.coeff b c) _
  rw [hslot] at hi ⊢
  have hold := hs hrebuild b i hi
  have hput := calendarLoad_put s src p x b (slotAt s.slot i)
  have := hentry hrebuild b i hi (hold ▸ grantedLoad_le s src b _ p)
  omega

theorem ExposureAgrees.same {s t : State} (hs : ExposureAgrees s) (h : SameCalendar s t) :
    ExposureAgrees t := by
  intro hnone b i hi
  rw [h.slot] at hi ⊢
  rw [h.exposureAt, hs (h.rebuild.symm.trans hnone) b i hi]
  exact (calendarLoad_congr fun c q => grantedLoad_congr (h.seekAt c q) (h.coeff b c) _).symm

theorem recomputeExposure_at (s : State) (b : Bay) (i : Fin 64) :
    (recomputeExposure s).exposureAt b i = s.calendarLoad b (slotAt s.slot i) :=
  mapExposure_at s _ b i

theorem Move.exposureAgrees {s t : State} (h : Move s t) (hq : QueueLawful s) (hc : OnCourse s)
    (hs : ExposureAgrees s) : ExposureAgrees t := by
  cases h with
  | same h => exact hs.same h
  | rehold | idle | search => exact hs
  | recommit => exact fun h => nomatch h
  | rebuilt =>
    intro _ b i _
    have hload : ((recomputeExposure s).setRebuild none).calendarLoad b (slotAt s.slot i)
        = s.calendarLoad b (slotAt s.slot i) :=
      calendarLoad_congr fun src p => grantedLoad_congr rfl rfl _
    exact (recomputeExposure_at s b i).trans hload.symm
  | release b p r h hstate =>
    rw [abandonSearch_eq, dequeue_eq]
    refine hs.put (src := b) (p := p) (x := none) (by constructor <;> rfl) fun _ c i _ _ => ?_
    rw [grantedLoad_putSeek, grantedLoad_of_seekAt h, isGranted_posted hstate]
    rfl
  | post b p r h hcompiled hstate =>
    refine hs.put (src := b) (p := p) (x := some r) (by constructor <;> rfl) fun _ c i _ _ => ?_
    rw [grantedLoad_putSeek, Option.map_some, isGranted_posted hstate, State.grantedLoad, h]
    rfl
  | confirm b p r h hstate =>
    refine hs.put (src := b) (p := p) (by constructor <;> rfl) fun _ c i _ _ => ?_
    rw [grantedLoad_putSeek, grantedLoad_of_seekAt h]
    simp only [Seek.isGranted, hstate]
    rfl
  | launch b p r h hstate =>
    refine hs.put (src := b) (p := p) (by constructor <;> rfl) fun _ c i _ _ => ?_
    rw [grantedLoad_putSeek, grantedLoad_of_seekAt h]
    simp only [Seek.isGranted, hstate]
    rfl
  | withdraw b p r h hstate =>
    rw [removeExposure_eq]
    refine hs.put (src := b) (p := p) (x := none) (by constructor <;> rfl) fun hnone c i hi hle => ?_
    rw [grantedLoad_putSeek]
    rw [grantedLoad_of_seekAt h, if_pos (isGranted_of_course (hc b p r h).2 hstate)] at hle ⊢
    have hentry := removeExposure_at b r (s.putSeek b p none) c i
    rw [if_neg (by simp [hnone, hi])] at hentry
    refine (congrArg (· + _) hentry).trans ?_
    exact Nat.sub_add_cancel hle
  | cut b p r h hstate hcut =>
    rw [replaceExposure_eq]
    refine hs.put (src := b) (p := p) (by constructor <;> rfl) fun hnone c i hi hle => ?_
    rw [grantedLoad_putSeek]
    have hgranted := isGranted_of_course (hc b p r h).2 (by simp [hstate])
    have hnew : (recompileCut r (cutIndex s.now r)).isGranted = true := hgranted
    rw [grantedLoad_of_seekAt h, if_pos hgranted] at hle ⊢
    rw [Option.map_some, Option.getD_some, if_pos hnew]
    have hentry := replaceExposure_at b r (recompileCut r (cutIndex s.now r))
      (s.putSeek b p (some (recompileCut r (cutIndex s.now r)))) c i
    rw [if_neg (by simp [hnone, hi])] at hentry
    refine (congrArg (· + _) hentry).trans ?_
    have hkeep : (s.putSeek b p (some (recompileCut r (cutIndex s.now r)))).exposureAt c i
      = s.exposureAt c i := rfl
    show s.exposureAt c i - s.loadOn b r c (slotAt s.slot i)
      + s.loadOn b (recompileCut r (cutIndex s.now r)) c (slotAt s.slot i) + _ = _
    omega
  | grant sr r c o hsr h hchosen hnear =>
    obtain ⟨x, hx, hposted⟩ := isPosted_iff.mp (hq.2.2 sr hsr).1
    obtain rfl := Option.some.inj (hx.symm.trans h)
    have hgranted : (grantedSeek x c o).isGranted = true := by
      simp only [Seek.isGranted, grantedSeek]
      split <;> rfl
    rw [dequeue_eq, show addExposure sr.bay (grantedSeek x c o) _ = _ from changeExposure_eq ..]
    refine hs.put (src := sr.bay) (p := sr.pos) (x := some (grantedSeek x c o))
      (by constructor <;> rfl) fun hnone b i hi hle => ?_
    rw [grantedLoad_putSeek, Option.map_some, Option.getD_some, if_pos hgranted,
      grantedLoad_of_seekAt h, isGranted_posted hposted]
    refine (addExposure_at sr.bay (grantedSeek x c o) (((s.putSeek sr.bay sr.pos
      (some (grantedSeek x c o))).setQueue _).setEngine none) b i).trans (if_neg ?_)
    show ¬ s.rebuild.isSome
    simp [hnone]

/-- The laws that the moves of an event keep together, with the records timely or due. -/
structure CalendarOnCourse (s : State) : Prop where
  queue : QueueLawful s
  course : OnCourse s
  search : SearchLawful s
  exposure : ExposureAgrees s

theorem Move.calendarOnCourse {s t : State} (h : Move s t) (hs : CalendarOnCourse s) :
    CalendarOnCourse t :=
  ⟨h.queueLawful hs.queue, h.onCourse hs.queue hs.search hs.course, h.searchLawful hs.queue hs.search,
    h.exposureAgrees hs.queue hs.course hs.exposure⟩

theorem Moves.calendarOnCourse {s t : State} (h : Moves s t) (hs : CalendarOnCourse s) :
    CalendarOnCourse t :=
  h.keeps (fun _ _ => Move.calendarOnCourse) hs

end Sys2Proof.Machine
end

section
/-! PROOF. A sample boundary keeps the calendar's law: what it brings whatever the order leaves each record
timely or due and each exposure entry the calendar's, and its duties are moves, among them the launch or
expiry of every due seek. With the moves of the other commands every step keeps the law. -/

namespace Sys2Proof.Machine

/-! ## No due seek -/

/-- What stands at position `p` of bay `b` is not due. -/
def NotDue (b : Bay) (p : Pos) (s : State) : Prop :=
  ∀ r, s.seekAt b p = some r → ¬ r.Due s.now

theorem NotDue.of {b : Bay} {p : Pos} {s t : State} (hs : NotDue b p s) (hnow : t.now = s.now)
    (hseek : t.seekAt b p = s.seekAt b p) : NotDue b p t := by
  intro r hr
  rw [hnow]
  exact hs r (hseek ▸ hr)

/-- A changed record is not due, where it was not. -/
theorem NotDue.put {b c : Bay} {p q : Pos} {s : State} {x : Option Seek} (hs : NotDue b p s)
    (hx : NotDue c q s → ∀ y, x = some y → ¬ y.Due s.now) : NotDue b p (s.putSeek c q x) := by
  intro r hr
  rw [State.seekAt_putSeek] at hr
  split at hr
  · next h =>
    obtain ⟨rfl, rfl⟩ := h
    exact hx hs r hr
  · exact hs r hr

theorem NotDue.changeExposure {b : Bay} {p : Pos} {s : State} (f : Bay → Fin 64 → Nat → Nat)
    (hs : NotDue b p s) : NotDue b p (s.changeExposure f) := by
  rw [changeExposure_eq]
  exact hs

/-- A slot at or after current + 2 is not the current one. -/
theorem ne_of_near {m c : Slot} (h : atOrBefore (m + 2) c = true) : c ≠ m := by
  rintro rfl
  have hback : (c - (c + 2)).toInt = -2 := toInt_sub_add_ofNat (j := 2) c (by norm_num)
  rw [atOrBefore, decide_eq_true_iff, hback] at h
  omega

theorem Move.notDue {s t : State} (h : Move s t) {b : Bay} {p : Pos} (hs : NotDue b p s) :
    NotDue b p t := by
  have hnone (c : Bay) (q : Pos) : NotDue b p (s.putSeek c q none) := hs.put fun _ y hy => nomatch hy
  cases h with
  | same h => exact hs.of h.now (h.seekAt b p)
  | rehold | idle | search | rebuilt | recommit => exact hs
  | release c q r h hstate =>
    rw [abandonSearch_eq, dequeue_eq]
    exact hnone c q
  | withdraw c q r h hstate => exact (hnone c q).changeExposure _
  | post c q r h hcompiled hstate hlaunch =>
    refine hs.put (c := c) (q := q) (x := some r) fun _ y hy hdue => ?_
    obtain rfl := Option.some.inj hy
    rw [Seek.Due, hlaunch] at hdue
    cases hdue.1
  | grant sr r c o hsr h hc hnear =>
    rw [dequeue_eq]
    refine NotDue.changeExposure _ (hs.put (c := sr.bay) (q := sr.pos)
      (x := some (grantedSeek r c o)) fun _ y hy hdue => ?_)
    obtain rfl := Option.some.inj hy
    exact ne_of_near hnear (Option.some.inj hdue.1)
  | confirm c q r h hstate =>
    refine hs.put fun hold y hy hdue => ?_
    obtain rfl := Option.some.inj hy
    obtain ⟨hlaunch, -, hmarkers, hcut⟩ := hdue
    exact hold r h ⟨hlaunch, .inl hstate, hmarkers, hcut⟩
  | launch c q r h hstate hlaunch hstart =>
    refine hs.put fun _ y hy hdue => ?_
    obtain rfl := Option.some.inj hy
    simp [Seek.Due] at hdue
  | cut c q r h hstate hcut =>
    refine NotDue.changeExposure _ (hs.put fun _ y hy hdue => ?_)
    obtain rfl := Option.some.inj hy
    have hrunning : (recompileCut r (cutIndex s.now r)).state = .running := hstate
    simp [Seek.Due, hrunning] at hdue

theorem Moves.notDue {s t : State} (h : Moves s t) {b : Bay} {p : Pos} (hs : NotDue b p s) :
    NotDue b p t :=
  h.keeps (P := NotDue b p) (fun _ _ hmove => hmove.notDue) hs

theorem Seek.Timely.not_due {now : Sample} {r : Seek} (h : r.Timely now) : ¬ r.Due now := by
  rintro ⟨hl, hstate, -⟩
  rw [Seek.Timely, hl] at h
  dsimp only at h
  rw [BitVec.sub_self] at h
  obtain hstate | hstate := hstate <;>
    · rw [hstate] at h
      exact absurd h.2.2.2.1 (by simp)

theorem notDue_of_seeksLawful {s : State} (hs : SeeksLawful s) (b : Bay) (p : Pos) : NotDue b p s :=
  fun r hr => (hs b p r hr).2.not_due

theorem OnCourse.seeksLawful {s : State} (hs : OnCourse s) (hdue : ∀ b p, NotDue b p s) :
    SeeksLawful s := by
  intro b p r hr
  obtain ⟨hcompiled, hcourse⟩ := hs b p r hr
  exact ⟨hcompiled, hcourse.resolve_right (hdue b p r hr)⟩

/-! ## The launches and expiries of a slot start (R22, R23) -/

theorem handThen_establishes {P : State → Prop} (hP : ∀ s t, Moves s t → P s → P t) {b : Bay} {f : Frame}
    {rest : State → State} {s : State} (hrest : ∀ u, SameCalendar s u → P (rest u)) :
    P (handThen b f rest s) := by
  unfold handThen
  split
  · exact hP _ _ (faultLane_moves ..) (hrest s (.refl s))
  · exact hrest _ (handFrame_same_calendar ..)

theorem launchOrExpire_notDue (b : Bay) (p : Pos) (s : State) : NotDue b p (launchOrExpire b s p) := by
  unfold launchOrExpire
  split
  · next h =>
    intro r hr
    rw [h] at hr
    cases hr
  · next r hr =>
    split
    · intro x hx hdue
      rw [State.seekAt_putSeek, if_pos ⟨rfl, rfl⟩] at hx
      obtain rfl := Option.some.inj hx
      simp [Seek.Due] at hdue
    · next hcommitted =>
      split
      · refine handThen_establishes (fun _ _ h => h.notDue) fun u _ x hx => ?_
        rw [expirySteps_seekAt, if_pos ⟨rfl, rfl⟩] at hx
        cases hx
      · next hgranted =>
        intro x hx hdue
        obtain rfl := Option.some.inj (hr.symm.trans hx)
        obtain ⟨hlaunch, hstate | hstate, -⟩ := hdue
        · exact hgranted ⟨hlaunch, hstate⟩
        · exact hcommitted ⟨hlaunch, hstate⟩

theorem foldl_launchOrExpire_notDue {s : State} (hstart : isSlotStart s.now = true) (b : Bay)
    (ps : List Pos) : ∀ p ∈ ps, NotDue b p (ps.foldl (launchOrExpire b) s) := by
  induction ps generalizing s with
  | nil => exact fun _ h => nomatch h
  | cons q ps ih =>
    have hnext : isSlotStart (launchOrExpire b s q).now = true := by
      rw [(launchOrExpire_keeps b s q).now]
      exact hstart
    intro p hp
    obtain rfl | hp := List.mem_cons.mp hp
    · exact (foldl_launchOrExpire_moves hnext b ps).notDue (launchOrExpire_notDue b p s)
    · exact ih hnext p hp

theorem foldl_runDuty_moves (changed : Bool) (ds : List Duty) (s : State) :
    Moves s (ds.foldl (runDuty changed) s) :=
  .foldl (runDuty_moves changed) ds s

theorem runDuty_now (changed : Bool) (s : State) (d : Duty) : (runDuty changed s d).now = s.now :=
  congrArg TimeBase.sample (runDuty_time_history changed s d).1

/-- The duties of a slot start leave no seek due. -/
theorem foldl_runDuty_notDue (changed : Bool) {s : State} (hstart : isSlotStart s.now = true)
    (ds : List Duty) {b : Bay} (hb : Duty.seek b ∈ ds) (p : Pos) :
    NotDue b p (ds.foldl (runDuty changed) s) := by
  induction ds generalizing s with
  | nil => cases hb
  | cons d ds ih =>
    obtain rfl | hb := List.mem_cons.mp hb
    · refine (foldl_runDuty_moves changed ds _).notDue ?_
      rw [runDuty, if_pos hstart]
      exact foldl_launchOrExpire_notDue hstart b positions p (mem_positions p)
    · refine ih ?_ hb
      rw [runDuty_now]
      exact hstart

/-! ## A search older than its bound (R75) -/

/-- The search in progress started at most `n` samples ago. -/
def SearchAge (n : Nat) (s : State) : Prop :=
  ∀ sr, s.engine = some sr → (s.now - sr.startSample).toNat ≤ n

theorem searchAge_of_idle {n : Nat} {s : State} (h : s.engine = none) : SearchAge n s := by
  intro sr hsr
  rw [h] at hsr
  cases hsr

/-- A search just prepared is of age 0. -/
theorem searchAge_of_trySeek {n : Nat} {s : State} {b : Bay} {p : Pos} {sr : Search}
    (h : trySeek s b p = some sr) : SearchAge n (s.setEngine (some sr)) := by
  intro x hx
  obtain rfl := Option.some.inj hx
  obtain ⟨r, -, rfl, -⟩ := trySeek_some h
  show (s.now - s.now).toNat ≤ n
  simp

theorem Move.searchAge {n : Nat} {s t : State} (h : Move s t) (hs : SearchAge n s) : SearchAge n t := by
  cases h with
  | same h =>
    intro sr hsr
    rw [h.now]
    exact hs sr (h.engine ▸ hsr)
  | idle => exact searchAge_of_idle rfl
  | search b p sr h => exact searchAge_of_trySeek h
  | release b p r =>
    rw [abandonSearch_eq, dequeue_eq]
    exact fun sr hsr => hs sr (Option.filter_eq_some_iff.mp hsr).1
  | withdraw =>
    rw [removeExposure_eq]
    exact hs
  | grant =>
    rw [show addExposure _ _ _ = _ from changeExposure_eq ..]
    exact searchAge_of_idle rfl
  | cut =>
    rw [replaceExposure_eq]
    exact hs
  | rehold | post | confirm | launch | rebuilt | recommit => exact hs

theorem Moves.searchAge {n : Nat} {s t : State} (h : Moves s t) (hs : SearchAge n s) : SearchAge n t :=
  h.keeps (P := SearchAge n) (fun _ _ hmove => hmove.searchAge) hs

theorem grantSteps_searchAge (b : Bay) (p : Pos) (r : Seek) (s : State) :
    SearchAge 0 (grantSteps b p r s) := by
  have hidle : SearchAge 0 (addExposure b r ((dequeue b p (s.putSeek b p (some r))).setEngine none)) := by
    rw [show addExposure _ _ _ = _ from changeExposure_eq ..]
    exact searchAge_of_idle rfl
  have hpublished := (forecastChange_same_calendar b
    (addExposure b r ((dequeue b p (s.putSeek b p (some r))).setEngine none)) r.launchAt
    (lastOf r.launchAt r.tailEnd)).moves
  exact ((Moves.ite (fun _ => hpublished.same (raiseCause_same_calendar ..)) fun _ => hpublished).trans
    (searchStart_moves _)).searchAge hidle

theorem rerunSearch_searchAge (b : Bay) (p : Pos) (s : State) : SearchAge 0 (rerunSearch b p s) := by
  unfold rerunSearch
  split
  · exact searchAge_of_idle rfl
  · split
    · next h => exact searchAge_of_trySeek h
    · exact (searchStart_moves _).searchAge (searchAge_of_idle rfl)

/-- A completed search leaves none, or a new one. -/
theorem completeSearch_searchAge (s : State) : SearchAge 0 (completeSearch s) := by
  unfold completeSearch
  split
  · next h => exact searchAge_of_idle h
  · split
    · split
      · exact (readRevisions_same_calendar _).moves.searchAge
          (handThen_establishes (fun _ _ h => h.searchAge) fun u _ => grantSteps_searchAge _ _ _ u)
      · exact rerunSearch_searchAge _ _ s
    · exact (searchStart_moves _).searchAge (searchAge_of_idle rfl)

theorem overdueSearch_searchAge (s : State) : SearchAge 6 (overdueSearch s) := by
  unfold overdueSearch
  split
  · next sr hsr =>
    split
    · exact fun x hx => (completeSearch_searchAge s x hx).trans (Nat.zero_le 6)
    · next hyoung =>
      intro x hx
      obtain rfl := Option.some.inj (hsr.symm.trans hx)
      rw [eighthBoundary, decide_eq_true_iff] at hyoung
      omega
  · next h => exact searchAge_of_idle h

theorem completeOverdue_searchAge (order : List Duty) (s : State) :
    SearchAge 6 (completeOverdue order s) :=
  (overdueRebuild_moves ..).searchAge (overdueSearch_searchAge _)

/-! ## The next sample -/

theorem isSlotStart_iff {m : Sample} : isSlotStart m = true ↔ m.toNat % 8 = 0 := beq_iff_eq

theorem slotOf_succ (m : Sample) :
    slotOf (m + 1) = if isSlotStart (m + 1) = true then slotOf m + 1 else slotOf m := by
  have hm := m.isLt
  have hone : (1 : Sample).toNat = 1 := rfl
  have hone' : (1 : Slot).toNat = 1 := rfl
  simp only [isSlotStart_iff, BitVec.toNat_add, hone]
  refine BitVec.eq_of_toNat_eq ?_
  split <;> simp only [slotOf, BitVec.toNat_add, BitVec.toNat_ofNat, hone, hone'] <;> omega

theorem toInt_sub_succ (l m : Slot) (h : 1 ≤ (l - m).toInt) : (l - (m + 1)).toInt = (l - m).toInt - 1 := by
  obtain ⟨j, hj, hlt⟩ : ∃ j : Nat, (l - m).toNat = j + 1 ∧ j + 1 < 2 ^ 28 := by
    refine ⟨(l - m).toNat - 1, ?_⟩
    rw [BitVec.toInt_eq_toNat_cond] at h
    have := (l - m).isLt
    split at h <;> omega
  have hnext : (l - (m + 1)).toNat = j := by bv_omega
  rw [BitVec.toInt_eq_toNat_of_lt, BitVec.toInt_eq_toNat_of_lt] <;> omega

/-- The first sample of a waiting seek's launch slot begins that slot. -/
theorem slotOf_succ_waiting {now : Sample} {l : Slot} (h : 1 ≤ (l - slotOf now).toInt) :
    (l - slotOf (now + 1)).toInt = (l - slotOf now).toInt
      ∨ isSlotStart (now + 1) = true ∧ (l - slotOf (now + 1)).toInt = (l - slotOf now).toInt - 1 := by
  rw [slotOf_succ]
  split
  · next hstart => exact .inr ⟨hstart, toInt_sub_succ _ _ h⟩
  · exact .inl rfl

theorem eq_of_toInt_sub_zero {l m : Slot} (h : (l - m).toInt = 0) : l = m :=
  sub_eq_zero.mp (BitVec.eq_of_toInt_eq h)

/-! ## A record at the next sample (R22, R25, R26) -/

theorem Seek.Timely.run_index {now : Sample} {r : Seek} (h : r.Timely now) (hstate : r.state = .running) :
    ∃ l, ∃ d : Nat, r.launch = some l ∧ r.markers.isSome ∧ now = launchSample l + BitVec.ofNat 32 d
      ∧ d < r.runEnd := by
  obtain ⟨l, hl, hmarkers, -, hlo, hhi⟩ := h.running hstate
  obtain ⟨d, hnow, hd⟩ := eq_launchSample_add hlo
  exact ⟨l, d, hl, hmarkers, hnow, by omega⟩

theorem Seek.Timely.tail_index {now : Sample} {r : Seek} (h : r.Timely now) (hstate : r.state = .tail) :
    ∃ l, ∃ d : Nat, r.launch = some l ∧ r.markers.isSome ∧ now = launchSample l + BitVec.ofNat 32 d
      ∧ r.runEnd ≤ d ∧ d < r.tailEnd := by
  unfold Seek.Timely at h
  split at h
  · rw [hstate] at h
    cases h.1
  · next l hl =>
    rw [hstate] at h
    obtain ⟨-, hmarkers, -, hlo, hhi⟩ := h
    obtain ⟨d, hnow, hd⟩ := eq_launchSample_add (now := now) (l := l) (by omega)
    exact ⟨l, d, hl, hmarkers, hnow, by omega, by omega⟩

/-- Two samples counted from one slot's first are the same where their counts are. -/
theorem launchSample_add_inj {l : Slot} {d e : Nat} (hd : d < 2 ^ 31) (he : e < 2 ^ 31) :
    launchSample l + BitVec.ofNat 32 d = launchSample l + BitVec.ofNat 32 e ↔ d = e := by
  refine ⟨fun h => ?_, fun h => h ▸ rfl⟩
  have hint := launchSample_add_sub l hd
  rw [h, launchSample_add_sub l he] at hint
  omega

/-- A run that has lasted as long as another count is RUNNING or TAIL by it. -/
theorem endedSeek_running {l : Slot} {d : Nat} {r : Seek} (hl : r.launch = some l)
    (hstate : r.state = .running) (hd : d < 2 ^ 31) (hrun : r.runEnd < 2 ^ 31) :
    endedSeek (launchSample l + BitVec.ofNat 32 d) r
      = if d = r.runEnd then (if r.tailLen = 0 then none else some { r with state := .tail })
        else some r := by
  have hlaunch : r.launchAt = launchSample l := by simp [Seek.launchAt, hl]
  simp only [endedSeek, hstate, hlaunch, launchSample_add_inj hd hrun]
  simp

theorem endedSeek_tail {l : Slot} {d : Nat} {r : Seek} (hl : r.launch = some l) (hstate : r.state = .tail)
    (hd : d < 2 ^ 31) (hend : r.tailEnd < 2 ^ 31) :
    endedSeek (launchSample l + BitVec.ofNat 32 d) r = if d = r.tailEnd then none else some r := by
  have hlaunch : r.launchAt = launchSample l := by simp [Seek.launchAt, hl]
  simp only [endedSeek, hstate, hlaunch, launchSample_add_inj hd hend]
  simp

/-- A launched record's agreement with a sample counted from its launch. -/
theorem timely_of_index {l : Slot} {d : Nat} {r : Seek} (hc : r.Compiled) (hl : r.launch = some l)
    (hmarkers : r.markers.isSome) (hd : d < 2 ^ 20)
    (h : r.state = .running ∧ d < r.runEnd ∨ r.state = .tail ∧ r.runEnd ≤ d ∧ d < r.tailEnd) :
    r.Timely (launchSample l + BitVec.ofNat 32 d) := by
  have hspan := hc.span_pos
  have hslot : (l - slotOf (launchSample l + BitVec.ofNat 32 d)).toInt = -((d / 8 : Nat) : Int) := by
    rw [slotOf_launchSample_add, toInt_sub_add_ofNat _ (by omega)]
  rw [Seek.Timely, hl]
  dsimp only
  rw [hslot, launchSample_add_sub l (by omega)]
  obtain ⟨hstate, hrun⟩ | ⟨hstate, hrun, htail⟩ := h <;> rw [hstate]
  · exact ⟨by simp, hmarkers, by omega, by omega, by omega⟩
  · exact ⟨by simp, hmarkers, by omega, by omega, by omega⟩

theorem Seek.Compiled.tailEnd_le {r : Seek} (h : r.Compiled) : r.runEnd ≤ 320 ∧ r.tailEnd ≤ 447 := by
  obtain ⟨-, hrun, htail, -⟩ := h.bounds
  exact ⟨hrun, by unfold Seek.tailEnd; omega⟩

/-- At the next sample a waiting seek is timely still, or due at the slot start that its launch slot is. -/
theorem waiting_next {now : Sample} {r : Seek} (h : r.Timely now)
    (hstate : r.state = .granted ∨ r.state = .committed) (hc : r.Compiled) :
    r.Timely (now + 1) ∨ r.Due (now + 1) ∧ isSlotStart (now + 1) = true := by
  obtain ⟨l, hl, hmarkers, hcut, hspan, -, hahead⟩ := Seek.waiting_course hc (.inl h) hstate
  have hpos : 1 ≤ (l - slotOf now).toInt := hahead.resolve_left h.not_due
  by_cases hzero : (l - slotOf (now + 1)).toInt = 0
  · refine .inr ⟨⟨by rw [hl, eq_of_toInt_sub_zero hzero], hstate, hmarkers, hcut⟩, ?_⟩
    obtain hsame | ⟨hstart, -⟩ := slotOf_succ_waiting hpos
    · omega
    · exact hstart
  · left
    have hnext : 1 ≤ (l - slotOf (now + 1)).toInt ∧ (l - slotOf (now + 1)).toInt + r.span ≤ 64 := by
      obtain hsame | ⟨-, hless⟩ := slotOf_succ_waiting hpos <;> omega
    rw [Seek.Timely, hl]
    obtain hstate | hstate := hstate <;>
      · rw [hstate]
        exact ⟨by simp, hmarkers, hnext.2, hnext.1, hcut⟩

theorem endedSeek_course {now : Sample} {r x : Seek} (hc : r.Compiled) (h : r.Timely now)
    (hx : endedSeek (now + 1) r = some x) :
    x.Compiled ∧ (x.Timely (now + 1) ∨ x.Due (now + 1) ∧ isSlotStart (now + 1) = true) := by
  obtain ⟨hrun, htail⟩ := hc.tailEnd_le
  have hcompiled : x.Compiled := by
    obtain rfl | rfl := endedSeek_some hx <;> exact hc
  refine ⟨hcompiled, ?_⟩
  cases hstate : r.state with
  | posted =>
    obtain ⟨hl, hmarkers, hcut⟩ := Seek.posted_course (.inl h) hstate
    have hsame : endedSeek (now + 1) r = some r := by simp [endedSeek, hstate]
    obtain rfl := Option.some.inj (hsame.symm.trans hx)
    left
    rw [Seek.Timely, hl]
    exact ⟨hstate, hmarkers, hcut⟩
  | granted | committed =>
    rw [endedSeek_of_waiting (by simp [hstate])] at hx
    obtain rfl := Option.some.inj hx
    exact waiting_next h (by simp [hstate]) hc
  | running =>
    obtain ⟨l, d, hl, hmarkers, rfl, hd⟩ := h.run_index hstate
    rw [launchSample_add_succ, endedSeek_running hl hstate (by omega) (by omega)] at hx
    rw [launchSample_add_succ]
    left
    split at hx
    · split at hx
      · cases hx
      · obtain rfl := Option.some.inj hx
        refine timely_of_index hcompiled hl hmarkers (by omega) (.inr ⟨rfl, ?_, ?_⟩)
        · show r.runEnd ≤ d + 1
          omega
        · show d + 1 < r.runEnd + r.tailLen
          omega
    · obtain rfl := Option.some.inj hx
      exact timely_of_index hc hl hmarkers (by omega) (.inl ⟨hstate, by omega⟩)
  | tail =>
    obtain ⟨l, d, hl, hmarkers, rfl, hlo, hd⟩ := h.tail_index hstate
    rw [launchSample_add_succ, endedSeek_tail hl hstate (by omega) (by omega)] at hx
    rw [launchSample_add_succ]
    left
    split at hx
    · cases hx
    · obtain rfl := Option.some.inj hx
      exact timely_of_index hc hl hmarkers (by omega) (.inr ⟨hstate, by omega, by omega⟩)

/-! ## The load of the records of the sample that ends (R50, R51) -/

theorem magAt_past {r : Seek} {l m : Slot} (hl : r.launch = some l) (h : r.mags.length ≤ (m - l).toNat) :
    r.magAt m = 0 := by
  rw [Seek.magAt, hl]
  dsimp only
  split
  · rfl
  · rw [List.getD_eq_default _ _ h]

theorem grantedLoad_of_magAt {s : State} {src : Bay} {p : Pos} {r : Seek} (hr : s.seekAt src p = some r)
    {m : Slot} (h : r.magAt m = 0) (b : Bay) : s.grantedLoad src b m p = 0 := by
  rw [grantedLoad_of_seekAt hr, State.loadOn, h]
  simp [contribution]

/-- A record that ends at the next sample bears on no slot after the current one. -/
theorem magAt_of_ended {now : Sample} {r : Seek} (hc : r.Compiled) (h : r.Timely now)
    (hx : endedSeek (now + 1) r = none) {j : Nat} (h1 : 1 ≤ j) (hj : j ≤ 64) :
    r.magAt (slotOf now + BitVec.ofNat 29 j) = 0 := by
  obtain ⟨hrun, htail⟩ := hc.tailEnd_le
  obtain ⟨-, -, -, hspan⟩ := hc.bounds
  have hfar : ∃ l, ∃ d : Nat, r.launch = some l ∧ now = launchSample l + BitVec.ofNat 32 d
      ∧ d + 1 = r.tailEnd := by
    cases hstate : r.state with
    | posted => simp [endedSeek, hstate] at hx
    | granted | committed =>
      rw [endedSeek_of_waiting (by simp [hstate])] at hx
      cases hx
    | running =>
      obtain ⟨l, d, hl, -, rfl, hd⟩ := h.run_index hstate
      rw [launchSample_add_succ, endedSeek_running hl hstate (by omega) (by omega)] at hx
      split_ifs at hx with hend hnone
      exact ⟨l, d, hl, rfl, by unfold Seek.tailEnd; omega⟩
    | tail =>
      obtain ⟨l, d, hl, -, rfl, -, hd⟩ := h.tail_index hstate
      rw [launchSample_add_succ, endedSeek_tail hl hstate (by omega) (by omega)] at hx
      split_ifs at hx with hend
      exact ⟨l, d, hl, rfl, hend⟩
  obtain ⟨l, d, hl, rfl, hd⟩ := hfar
  refine magAt_past hl ?_
  rw [hc.mags_length, hspan, slotOf_launchSample_add, BitVec.add_assoc, BitVec.add_comm,
    BitVec.add_sub_cancel, BitVec.toNat_add, BitVec.toNat_ofNat, BitVec.toNat_ofNat]
  unfold Seek.tailEnd at hd htail
  omega

/-- No granted seek bears on the slot that follows the horizon (R71). -/
theorem magAt_past_horizon {now : Sample} {r : Seek} (hc : r.Compiled) (h : r.Timely now) :
    r.magAt (slotOf now + 64) = 0 := by
  cases hl : r.launch with
  | none => simp [Seek.magAt, hl]
  | some l =>
    have hbound : (l - slotOf now).toInt + r.span ≤ 64 := by
      rw [Seek.Timely, hl] at h
      exact h.2.2.1
    have hfar : -(2 ^ 20) ≤ (l - slotOf now).toInt := by
      cases hstate : r.state with
      | posted => exact absurd (Seek.posted_course (.inl h) hstate).1 (by simp [hl])
      | granted | committed =>
        obtain ⟨k, hk, -, -, -, hpos, -⟩ := Seek.waiting_course hc (.inl h) (by simp [hstate])
        obtain rfl := Option.some.inj (hl.symm.trans hk)
        omega
      | running =>
        obtain ⟨k, d, hk, -, rfl, hd⟩ := h.run_index hstate
        obtain rfl := Option.some.inj (hl.symm.trans hk)
        have := hc.tailEnd_le
        rw [slotOf_launchSample_add, toInt_sub_add_ofNat _ (by omega)]
        omega
      | tail =>
        obtain ⟨k, d, hk, -, rfl, -, hd⟩ := h.tail_index hstate
        obtain rfl := Option.some.inj (hl.symm.trans hk)
        have := hc.tailEnd_le
        rw [slotOf_launchSample_add, toInt_sub_add_ofNat _ (by omega)]
        omega
    refine magAt_past hl ?_
    have hspan := hc.span_pos
    rw [hc.mags_length]
    rw [BitVec.toInt_eq_toNat_cond] at hbound hfar
    have hlt := (l - slotOf now).isLt
    split at hbound <;> bv_omega

end Sys2Proof.Machine
end

section
/-! PROOF. A sample boundary, a reset and its release keep the calendar's law, and with the moves of the
other commands so does every step (StepKeepsTheCalendar). -/

namespace Sys2Proof.Machine

/-! ## The positions of the exposure table (R50, R56) -/

theorem slotAt_of_ne {m : Slot} {i : Fin 64} (h : i ≠ positionOf m) :
    ∃ j : Nat, 1 ≤ j ∧ j ≤ 64 ∧ slotAt m i = m + BitVec.ofNat 29 j := by
  refine ⟨(i.val + 64 - m.toNat % 64) % 64, ?_, ?_, rfl⟩
  · have hi := i.isLt
    have : i.val ≠ m.toNat % 64 := fun hv => h (Fin.ext hv)
    omega
  · omega

theorem slotAt_succ {m : Slot} {i : Fin 64} (h : i ≠ positionOf m) : slotAt (m + 1) i = slotAt m i := by
  have hi := i.isLt
  have hm := m.isLt
  have hone : (1 : Slot).toNat = 1 := rfl
  have hne : i.val ≠ m.toNat % 64 := fun hv => h (Fin.ext hv)
  refine BitVec.eq_of_toNat_eq ?_
  simp only [slotAt, BitVec.toNat_add, BitVec.toNat_ofNat, hone]
  omega

theorem slotAt_succ_self (m : Slot) : slotAt (m + 1) (positionOf m) = m + 64 := by
  have hm := m.isLt
  have hone : (1 : Slot).toNat = 1 := rfl
  have hround : (64 : Slot).toNat = 64 := rfl
  refine BitVec.eq_of_toNat_eq ?_
  simp only [slotAt, positionOf, BitVec.toNat_add, BitVec.toNat_ofNat, hone, hround]
  omega

theorem positionOf_recycled (m : Slot) : positionOf (m + 1 + 63) = positionOf m := by
  have hm := m.isLt
  have hone : (1 : Slot).toNat = 1 := rfl
  have hround : (63 : Slot).toNat = 63 := rfl
  refine Fin.ext ?_
  simp only [positionOf, BitVec.toNat_add, hone, hround]
  omega

/-! ## The boundary before its duties -/

section
variable (s : State)

theorem slotOpened_queue : s.slotOpened.queue = s.queue := by
  rw [State.slotOpened, boundaryStart_exposed]
  rfl

theorem slotOpened_engine : s.slotOpened.engine = s.engine := by
  rw [State.slotOpened, boundaryStart_exposed]
  rfl

theorem slotOpened_coeff (b src : Bay) : s.slotOpened.coeff b src = s.coeff b src := by
  rw [State.coeff, (slotOpened_keeps s).store]
  rfl

end

theorem slotOpened_exposureAt_within {s : State} (hslot : s.slotStartNext = false) (c : Bay) (i : Fin 64) :
    s.slotOpened.exposureAt c i = s.exposureAt c i := by
  have hopened : s.slotOpened = (advanceSample s).retired.allDrained := by
    refine (boundaryStart_drained _).trans (if_neg ?_)
    show ¬ s.slotStartNext = true
    simp [hslot]
  rw [hopened]
  rfl

section
variable {s : State} (hs : SeeksLawful s)
include hs

theorem slotOpened_seekAt_course {b : Bay} {p : Pos} {x : Seek} (h : s.slotOpened.seekAt b p = some x) :
    x.Compiled ∧ (x.Timely (s.now + 1) ∨ x.Due (s.now + 1) ∧ isSlotStart (s.now + 1) = true) := by
  rw [slotOpened_seekAt, Option.bind_eq_some_iff] at h
  obtain ⟨r, hr, hx⟩ := h
  obtain ⟨hcompiled, htimely⟩ := hs b p r hr
  exact endedSeek_course hcompiled htimely hx

theorem slotOpened_onCourse : OnCourse s.slotOpened := by
  intro b p x hx
  rw [slotOpened_now]
  obtain ⟨hcompiled, hcourse⟩ := slotOpened_seekAt_course hs hx
  exact ⟨hcompiled, hcourse.imp_right And.left⟩

/-- Only at a slot start does a seek come due. -/
theorem slotOpened_notDue (hslot : isSlotStart (s.now + 1) = false) (b : Bay) (p : Pos) :
    NotDue b p s.slotOpened := by
  intro x hx
  rw [slotOpened_now]
  obtain ⟨-, htimely | ⟨-, hstart⟩⟩ := slotOpened_seekAt_course hs hx
  · exact htimely.not_due
  · rw [hslot] at hstart
    cases hstart

/-- The records that a boundary ends bear on no slot of the horizon but the one that ends. -/
theorem slotOpened_grantedLoad (src b : Bay) (p : Pos) {j : Nat} (h1 : 1 ≤ j) (hj : j ≤ 64) :
    s.slotOpened.grantedLoad src b (s.slot + BitVec.ofNat 29 j) p
      = s.grantedLoad src b (s.slot + BitVec.ofNat 29 j) p := by
  have hseek := slotOpened_seekAt s src p
  cases hr : s.seekAt src p with
  | none =>
    rw [hr] at hseek
    exact grantedLoad_congr (hseek.trans hr.symm) (slotOpened_coeff s b src) _
  | some r =>
    rw [hr, Option.bind_some] at hseek
    obtain ⟨hcompiled, htimely⟩ := hs src p r hr
    cases hx : endedSeek (s.now + 1) r with
    | none =>
      have hzero : r.magAt (s.slot + BitVec.ofNat 29 j) = 0 := magAt_of_ended hcompiled htimely hx h1 hj
      rw [grantedLoad_of_magAt hr hzero, State.grantedLoad, hseek, hx]
      rfl
    | some x =>
      rw [grantedLoad_of_seekAt hr, grantedLoad_of_seekAt (hseek.trans hx), State.loadOn, State.loadOn,
        slotOpened_coeff]
      obtain rfl | rfl := endedSeek_some hx
      · rfl
      · have hstate : r.state ≠ .posted := by
          intro hposted
          rw [show endedSeek (s.now + 1) r = some r by simp [endedSeek, hposted]] at hx
          have := congrArg Seek.state (Option.some.inj hx)
          rw [hposted] at this
          cases this
        have hgranted := isGranted_of_course (.inl htimely) hstate
        have htail : ({ r with state := .tail } : Seek).isGranted = true := by
          simpa [Seek.isGranted, hstate] using hgranted
        rw [if_pos hgranted, if_pos htail]
        rfl

theorem slotOpened_calendarLoad (b : Bay) {j : Nat} (h1 : 1 ≤ j) (hj : j ≤ 64) :
    s.slotOpened.calendarLoad b (s.slot + BitVec.ofNat 29 j)
      = s.calendarLoad b (s.slot + BitVec.ofNat 29 j) :=
  calendarLoad_congr fun src p => slotOpened_grantedLoad hs src b p h1 hj

/-- The slot that enters the horizon bears no load yet (R56). -/
theorem calendarLoad_past_horizon (b : Bay) : s.calendarLoad b (s.slot + 64) = 0 := by
  rw [calendarLoad_eq]
  refine Finset.sum_eq_zero fun x _ => ?_
  cases hr : s.seekAt x.1 x.2 with
  | none => rw [State.grantedLoad, hr]; rfl
  | some r =>
    obtain ⟨hcompiled, htimely⟩ := hs _ _ r hr
    exact grantedLoad_of_magAt hr (magAt_past_horizon hcompiled htimely) b

theorem slotOpened_exposureAgrees (h : ExposureAgrees s) : ExposureAgrees s.slotOpened := by
  intro hnone b i hi
  have hrebuild : s.rebuild = none := (slotOpened_keeps s).rebuild.symm.trans hnone
  rw [slotOpened_slot, slotOf_succ] at hi ⊢
  have hagrees (hne : i ≠ positionOf s.slot) :
      s.exposureAt b i = s.slotOpened.calendarLoad b (slotAt s.slot i) := by
    obtain ⟨j, h1, hj, hat⟩ := slotAt_of_ne hne
    rw [h hrebuild b i hne, hat, slotOpened_calendarLoad hs b h1 hj]
  split at hi
  · next hstart =>
    rw [if_pos hstart, slotOpened_exposureAt hstart hrebuild, slotOf_succ, if_pos hstart,
      positionOf_recycled]
    split
    · next heq =>
      rw [heq, slotAt_succ_self]
      exact ((slotOpened_calendarLoad hs b (j := 64) (by omega) le_rfl).trans
        (calendarLoad_past_horizon hs b)).symm
    · next hne =>
      rw [slotAt_succ hne]
      exact hagrees hne
  · next hstart =>
    rw [if_neg hstart, slotOpened_exposureAt_within (Bool.not_eq_true _ ▸ hstart)]
    exact hagrees hi

end

theorem slotOpened_queueLawful {s : State} (h : QueueLawful s) : QueueLawful s.slotOpened := by
  refine h.of (by rw [slotOpened_queue]) (fun b p => ?_) fun sr hsr => .inl (slotOpened_engine s ▸ hsr)
  rw [State.isPosted, slotOpened_seekAt, State.isPosted]
  cases hr : s.seekAt b p with
  | none => rfl
  | some r =>
    rw [Option.bind_some, Option.any_some]
    by_cases hposted : r.state = .posted
    · simp [endedSeek, hposted]
    · cases hx : endedSeek (s.now + 1) r with
      | none => simp [hposted]
      | some x => obtain rfl | rfl := endedSeek_some hx <;> simp [hposted]

theorem slotOpened_searchLawful {s : State} (h : SearchLawful s) (hage : SearchAge 6 s) :
    SearchLawful s.slotOpened := by
  intro sr hsr
  rw [slotOpened_engine] at hsr
  obtain ⟨hstart, -, hcopy, hbound⟩ := h sr hsr
  have hyoung := hage sr hsr
  refine ⟨hstart, ?_, fun x hx => ?_, hbound⟩
  · rw [slotOpened_now]
    have hnext : s.now + 1 - sr.startSample = s.now - sr.startSample + 1 := by bv_omega
    rw [hnext, BitVec.toNat_add, show (1 : Sample).toNat = 1 from rfl]
    omega
  · rw [slotOpened_seekAt, Option.bind_eq_some_iff] at hx
    obtain ⟨r, hr, hx⟩ := hx
    have hcopied := hcopy r hr
    obtain heq | heq := endedSeek_some hx <;>
      · rw [heq]
        exact hcopied

/-! ## The duties of a boundary -/

/-- The calendar's law but for the settings and the held reset. -/
structure CalendarSettled (s : State) : Prop where
  queue : QueueLawful s
  seeks : SeeksLawful s
  search : SearchLawful s
  exposure : ExposureAgrees s

theorem CalendarSettled.onCourse {s : State} (h : CalendarSettled s) : CalendarOnCourse s :=
  ⟨h.queue, onCourse_of_seeksLawful h.seeks, h.search, h.exposure⟩

theorem CalendarOnCourse.settled {s : State} (h : CalendarOnCourse s) (hdue : ∀ b p, NotDue b p s) :
    CalendarSettled s :=
  ⟨h.queue, h.course.seeksLawful hdue, h.search, h.exposure⟩

theorem Moves.settled {s t : State} (h : Moves s t) (hs : CalendarSettled s) : CalendarSettled t :=
  (h.calendarOnCourse hs.onCourse).settled fun b p => h.notDue (notDue_of_seeksLawful hs.seeks b p)

/-- The duties leave the calendar lawful where no seek is due, or the sample begins a slot. -/
theorem foldl_runDuty_settled (changed : Bool) (order : List Duty) {s : State} (hs : CalendarOnCourse s)
    (hdue : isSlotStart s.now = false → ∀ b p, NotDue b p s) :
    CalendarSettled ((dutyOrder order).foldl (runDuty changed) s) := by
  have hmoves := foldl_runDuty_moves changed (dutyOrder order) s
  refine (hmoves.calendarOnCourse hs).settled fun b p => ?_
  cases hstart : isSlotStart s.now with
  | true => exact foldl_runDuty_notDue changed hstart _ (mem_dutyOrder order (.seek b)) p
  | false => exact hmoves.notDue (hdue hstart b p)

theorem takeBoundary_settled (order : List Duty) {s : State} (hs : CalendarSettled s) :
    CalendarSettled (takeBoundary order s) := by
  have hover := (completeOverdue_moves order s).settled hs
  have hage := completeOverdue_searchAge order s
  unfold takeBoundary
  dsimp only
  generalize completeOverdue order s = u at hover hage
  refine (readRevisions_same_calendar _).moves.settled (foldl_runDuty_settled _ order ?_ fun hslot => ?_)
  · exact ⟨slotOpened_queueLawful hover.queue, slotOpened_onCourse hover.seeks,
      slotOpened_searchLawful hover.search hage, slotOpened_exposureAgrees hover.seeks hover.exposure⟩
  · exact slotOpened_notDue hover.seeks (slotOpened_now u ▸ hslot)

/-! ## Resets (R46, R131, R132) -/

/-- No record stands and every entry of the exposure table is 0. -/
structure CalendarBlank (s : State) : Prop where
  seekAt : ∀ b p, s.seekAt b p = none
  queue : s.queue = []
  engine : s.engine = none
  exposureAt : ∀ b i, s.exposureAt b i = 0

theorem CalendarBlank.settled {s : State} (h : CalendarBlank s) : CalendarSettled s := by
  have hposted (b : Bay) (p : Pos) : s.isPosted b p = false := by
    rw [State.isPosted, h.seekAt]
    rfl
  refine ⟨⟨by simp [h.queue], fun b p => by simp [h.queue, hposted], fun sr hsr => ?_⟩,
    fun b p r hr => ?_, SearchLawful.of_idle h.engine, fun _ b i _ => ?_⟩
  · rw [h.engine] at hsr
    cases hsr
  · rw [h.seekAt] at hr
    cases hr
  · rw [h.exposureAt, calendarLoad_eq]
    refine (Finset.sum_eq_zero fun x _ => ?_).symm
    rw [State.grantedLoad, h.seekAt]
    rfl

theorem hubReset_blank (c : ResetCause) (x : Store) (s : State) : CalendarBlank (hubReset c x s) :=
  ⟨reset_seekAt, rfl, rfl, reset_exposureAt⟩

theorem heldAtReset_blank {s : State} (hs : HeldAtReset s) (hheld : s.pins.resetHeld = true) :
    CalendarBlank s := by
  obtain ⟨x, c, h⟩ := hs hheld
  rw [h]
  exact ⟨reset_seekAt, rfl, rfl, reset_exposureAt⟩

theorem boundaryStart_blank {s : State} (h : CalendarBlank s) : CalendarBlank (boundaryStart s) := by
  refine ⟨fun b p => ?_, ?_, ?_, fun b i => ?_⟩
  · rw [boundaryStart_seekAt, h.seekAt]
    rfl
  · rw [boundaryStart_exposed]
    exact h.queue
  · rw [boundaryStart_exposed]
    exact h.engine
  · have hdrained (b : Bay) (i : Fin 64) : s.retired.allDrained.exposureAt b i = 0 := h.exposureAt b i
    rw [boundaryStart_drained]
    split
    · refine (changeExposure_at ..).trans ?_
      simp only [hdrained, ite_self]
    · exact hdrained b i

theorem releaseReset_settled (order : List Duty) {s : State} (h : CalendarBlank s) :
    CalendarSettled (releaseReset order s) := by
  have hlifted : CalendarBlank (s.setPins { s.pins with resetHeld := false }) :=
    ⟨h.seekAt, h.queue, h.engine, h.exposureAt⟩
  have hopened := (boundaryStart_blank hlifted).settled
  have harrive (u : State) (b : Bay) : SameCalendar u (arriveHeld u b) :=
    .ite (detectDrive_same_calendar b u) (.refl u)
  refine (SameCalendar.foldl harrive bays _).moves.settled
    ((readRevisions_same_calendar _).moves.settled ?_)
  exact foldl_runDuty_settled _ order hopened.onCourse fun _ b p =>
    notDue_of_seeksLawful hopened.seeks b p

/-! ## Every step (R51) -/

theorem CalendarEvent.settled {s t : State} (h : CalendarEvent s t) (hheld : HeldAtReset s)
    (hs : CalendarSettled s) : CalendarSettled t := by
  cases h with
  | moves h => exact h.settled hs
  | boundary order => exact takeBoundary_settled order hs
  | reset c x => exact (hubReset_blank c x s).settled
  | release order h => exact releaseReset_settled order (heldAtReset_blank hheld h)
  | command => exact releaseReset_settled _ (hubReset_blank ..)

theorem setPending_same_calendar (s : State) (x : List Instr) : SameCalendar s (s.setPending x) := by
  constructor <;> rfl

theorem heldAtReset_setPending {s : State} (h : HeldAtReset s) (pending : List Instr) :
    HeldAtReset (s.setPending pending) := by
  intro hheld
  obtain ⟨x, c, hx⟩ := h hheld
  refine ⟨x, c, ?_⟩
  conv_lhs => rw [hx]
  rfl

theorem calendarSettled_step {s t : State} (h : step s = .next t) (hheld : HeldAtReset s)
    (hset : SettingsLawful s) (hs : CalendarSettled s) : CalendarSettled t := by
  unfold step at h
  split at h
  · cases h
    exact (countPeriod_calendarEvent s).settled hheld hs
  · next c rest _ =>
    have hpopped := (setPending_same_calendar s rest).moves.settled hs
    rw [← takeEvent_of_exec h]
    have hevent := takeEvent_calendarEvent (s := s.setPending rest) c hset
    exact hevent.settled (heldAtReset_setPending hheld rest) hpopped

/-- Settles O57: a step is moves, each lawful by itself, a boundary, whose slot start leaves no seek due
and whose eighth ends a search, or a reset, which leaves no record. -/
theorem stepKeepsTheCalendar : Obligations.StepKeepsTheCalendar := by
  rintro s t h ⟨hheld, hset, hqueue, hseeks, hsearch, hexposure⟩
  obtain ⟨hqueue', hseeks', hsearch', hexposure'⟩ :=
    calendarSettled_step h hheld hset ⟨hqueue, hseeks, hsearch, hexposure⟩
  exact ⟨heldAtReset_step h hheld, settingsLawful_stepLaw.step h hset, hqueue', hseeks', hsearch',
    hexposure'⟩

end Sys2Proof.Machine
end

section
/-! PROOF. The step (StepTakesFrontOrCountsAPeriod), HUB WRITE (HubWriteTakesDivisorAndEpoch) and the choice
of a search (ChosenSlotFitsOrHarmsLeast). -/

namespace Sys2Proof.Machine

/-! ## The step (R44) -/

theorem step_of_pending {s : State} {c : Instr} {rest : List Instr} (h : s.pending = c :: rest) :
    step s = exec c (s.setPending rest) := by
  rw [step, h]

theorem step_of_idle {s : State} (h : s.pending = []) : step s = .next (countPeriod s) := by
  rw [step, h]

theorem countPeriod_held {s : State} (h : s.pins.resetHeld = true) : countPeriod s = s := if_pos h

theorem countPeriod_running {s : State} (h : s.pins.resetHeld = false) : countPeriod s
    = if s.time.divisor ≤ s.time.divider + 1 then takeBoundary (Config.boundaryOrder s.now.toNat) s
      else s.setTime { s.time with divider := s.time.divider + 1 } := by
  rw [countPeriod, if_neg (by simp [h])]

theorem exec_sampleBoundary_running {s : State} (h : s.pins.resetHeld = false) (order : List Duty) :
    exec (.sampleBoundary order) s = .next (takeBoundary order s) :=
  congrArg Host.Outcome.next (if_neg (by simp [h]))

/-- Settles O1: the step's two cases and the period's three. -/
theorem stepTakesFrontOrCountsAPeriod : Obligations.StepTakesFrontOrCountsAPeriod := by
  refine ⟨fun c rest s => step_of_pending, fun s hidle => ?_⟩
  rw [step_of_idle hidle]
  refine ⟨fun hheld => ?held, fun hheld hearly => ?early, fun hheld hlast => ?last⟩
  case held => rw [countPeriod_held hheld]
  case early => rw [countPeriod_running hheld, if_neg (by omega)]
  case last => rw [countPeriod_running hheld, if_pos hlast, exec_sampleBoundary_running hheld]

/-! ## HUB WRITE (R47, R49, R169) -/

theorem exec_hubWrite {s : State} (htakes : s.portTakes = true) (divisor : BitVec 16) (code : Byte) :
    exec (.hubWrite divisor code) s = .next (hubWriteRequest divisor code s) :=
  congrArg Host.Outcome.next (if_pos htakes)

theorem anyLiveSeek_iff {s : State} : s.anyLiveSeek = true ↔ ∃ b p, s.seekAt b p ≠ none := by
  simp only [State.anyLiveSeek, List.any_eq_true, mem_bays, true_and, Bool.not_eq_true',
    List.isEmpty_eq_false_iff]
  refine exists_congr fun b => ⟨fun h => ?_, fun ⟨p, h⟩ hnone => ?_⟩
  · obtain ⟨x, hx⟩ := List.exists_mem_of_ne_nil _ h
    exact ⟨x.1, by simp [mem_liveSeeks.mp hx]⟩
  · obtain ⟨r, hr⟩ := Option.ne_none_iff_exists'.mp h
    have hmem : (p, r) ∈ s.liveSeeks b := mem_liveSeeks.mpr hr
    rw [hnone] at hmem
    cases hmem

theorem anyStreamOn_iff {s : State} : s.anyStreamOn = true ↔ ∃ b, (s.stream b).state ≠ .off := by
  simp [State.anyStreamOn, mem_bays]

theorem divisorBusy_iff {s : State} {d : Nat} : s.divisorBusy d = true ↔ d ≠ s.time.divisor
    ∧ ((∃ b p, s.seekAt b p ≠ none) ∨ ∃ b, (s.stream b).state ≠ .off) := by
  rw [State.divisorBusy, Bool.and_eq_true, Bool.or_eq_true, anyLiveSeek_iff, anyStreamOn_iff, bne_iff_ne]

/-- The epoch length in force, written again, leaves the counter. -/
theorem writeEpochLength_eq (e : EpochLength) (s : State) : writeEpochLength e s = s.setStore { s.store with
    epochLength := e
    epochCount := if e = s.store.epochLength then s.store.epochCount else 0 } := by
  unfold writeEpochLength
  split
  · next h => rw [h]; rfl
  · rfl

/-- Settles O43: the refused write and the taken one, whose record is formed after it. -/
theorem hubWriteTakesDivisorAndEpoch : Obligations.HubWriteTakesDivisorAndEpoch := by
  intro s divisor code htakes d e busy u
  have hbusy : s.divisorBusy (takeDivisor divisor) = true ↔ busy := divisorBusy_iff
  rw [exec_hubWrite htakes, hubWriteRequest]
  refine ⟨fun h => ?_, fun h => ?_⟩
  · rw [if_pos (hbusy.mpr h)]
    rfl
  · rw [if_neg (mt hbusy.mp h), writeEpochLength_eq]
    rfl

/-! ## The test of a candidate (R50, R72) -/

/-- A contribution is the whole number that its quotient is rounded up to. -/
theorem contribution_eq_iff {c : Int} {m k : Nat} : contribution c m = k
    ↔ c.natAbs * m ≤ 64 * k ∧ 64 * k < c.natAbs * m + 64 := by
  unfold contribution
  omega

theorem mem_excesses {sr : Search} {t : Slot} {v : Int} : v ∈ excesses sr t ↔ ∃ x ∈ sr.tested,
    ∃ j, j < sr.span ∧ ((x.row.get (positionOf (t + BitVec.ofNat 29 j)) : Nat) : Int)
      + contribution x.c (sr.mags.getD j 0) - x.limit = v := by
  simp only [excesses, List.mem_flatMap, List.mem_map, List.mem_range, Nat.cast_add]

theorem fits_iff {sr : Search} {t : Slot} : fits sr t = true ↔ ∀ x ∈ sr.tested, ∀ j, j < sr.span →
    x.row.get (positionOf (t + BitVec.ofNat 29 j)) + contribution x.c (sr.mags.getD j 0) ≤ x.limit := by
  rw [fits, List.all_eq_true]
  refine ⟨fun h x hx j hj => ?_, fun h v hv => ?_⟩
  · have := of_decide_eq_true (h _ (mem_excesses.mpr ⟨x, hx, j, hj, rfl⟩))
    omega
  · obtain ⟨x, hx, j, hj, rfl⟩ := mem_excesses.mp hv
    have := h x hx j hj
    exact decide_eq_true (by omega)

theorem le_foldl_max (xs : List Int) (a : Int) : a ≤ xs.foldl max a ∧ ∀ x ∈ xs, x ≤ xs.foldl max a := by
  induction xs generalizing a with
  | nil => simp
  | cons y ys ih =>
    obtain ⟨hacc, hall⟩ := ih (max a y)
    refine ⟨(le_max_left a y).trans hacc, fun x hx => ?_⟩
    obtain rfl | hx := List.mem_cons.mp hx
    · exact (le_max_right a x).trans hacc
    · exact hall x hx

theorem foldl_max_mem (xs : List Int) (a : Int) : xs.foldl max a ∈ a :: xs := by
  induction xs generalizing a with
  | nil => exact List.mem_singleton.mpr rfl
  | cons y ys ih =>
    obtain h | h := List.mem_cons.mp (ih (max a y))
    · rw [List.foldl_cons, h]
      obtain hmax | hmax := max_choice a y <;> simp [hmax]
    · exact List.mem_cons_of_mem _ (List.mem_cons_of_mem _ h)

theorem le_largest {xs : List Int} {x : Int} (h : x ∈ xs) : x ≤ largest xs := by
  cases xs with
  | nil => cases h
  | cons y ys =>
    obtain ⟨hhead, htail⟩ := le_foldl_max ys y
    obtain rfl | h := List.mem_cons.mp h
    · exact hhead
    · exact htail x h

theorem largest_mem (xs : List Int) : largest xs = 0 ∨ largest xs ∈ xs := by
  cases xs with
  | nil => exact .inl rfl
  | cons y ys => exact .inr (foldl_max_mem ys y)

/-! ## The choice (R73) -/

theorem leastHarm_cons (sr : Search) (best c : Slot) (cs : List Slot) : leastHarm sr best (c :: cs)
    = leastHarm sr (if worstExcess sr c < worstExcess sr best then c else best) cs := rfl

theorem leastHarm_of_least {sr : Search} {best : Slot} {cs : List Slot}
    (h : ∀ c ∈ cs, worstExcess sr best ≤ worstExcess sr c) : leastHarm sr best cs = best := by
  induction cs with
  | nil => rfl
  | cons c cs ih =>
    rw [leastHarm_cons, if_neg (not_lt.mpr (h c (List.mem_cons_self ..)))]
    exact ih fun x hx => h x (List.mem_cons_of_mem _ hx)

/-- The least harm is the first candidate that harms less than all before it and no more than any after. -/
theorem leastHarm_append {sr : Search} {best c : Slot} {before after : List Slot}
    (hbest : worstExcess sr c < worstExcess sr best)
    (hbefore : ∀ x ∈ before, worstExcess sr c < worstExcess sr x)
    (hafter : ∀ x ∈ after, worstExcess sr c ≤ worstExcess sr x) :
    leastHarm sr best (before ++ c :: after) = c := by
  induction before generalizing best with
  | nil => rw [List.nil_append, leastHarm_cons, if_pos hbest, leastHarm_of_least hafter]
  | cons x xs ih =>
    have hx := hbefore x (List.mem_cons_self ..)
    rw [List.cons_append, leastHarm_cons]
    refine ih ?_ fun y hy => hbefore y (List.mem_cons_of_mem _ hy)
    split <;> assumption

theorem chooseSlot_of_fit {sr : Search} {before after : List Slot} {c : Slot}
    (hc : sr.candidates = before ++ c :: after) (hbefore : ∀ x ∈ before, fits sr x = false)
    (hfits : fits sr c = true) : chooseSlot sr = some (c, false) := by
  have hfind : sr.candidates.find? (fits sr) = some c := by
    rw [hc, List.find?_append, List.find?_eq_none.mpr (by simpa using hbefore), List.find?_cons, hfits]
    rfl
  rw [chooseSlot, hfind]

theorem chooseSlot_of_nil {sr : Search} (hc : sr.candidates = []) : chooseSlot sr = none := by
  simp only [chooseSlot, hc, List.find?_nil]

theorem chooseSlot_of_none {sr : Search} {t : Slot} {rest : List Slot} (hc : sr.candidates = t :: rest)
    (h : ∀ x ∈ sr.candidates, fits sr x = false) :
    chooseSlot sr = some (leastHarm sr t rest, true) := by
  have hfind : (t :: rest).find? (fits sr) = none := List.find?_eq_none.mpr (by simpa [hc] using h)
  simp only [chooseSlot, hc, hfind]

/-- Settles O16: the first fit is found, and of candidates that do not fit the least harm is kept. -/
theorem chosenSlotFitsOrHarmsLeast : Obligations.ChosenSlotFitsOrHarmsLeast := by
  refine fun sr => ⟨fun c => ?fits, fun c x hx j hj => ?bound, fun c => ?attained, fun hempty => ?empty,
    fun before c after => chooseSlot_of_fit, fun before c after hc hnone hbefore hafter => ?harm⟩
  case fits =>
    rw [fits_iff]
    refine forall₄_congr fun x _ j _ => ⟨fun h => ?_, fun ⟨k, hlo, hhi, hk⟩ => ?_⟩
    · obtain ⟨hlo, hhi⟩ := contribution_eq_iff.mp (rfl : contribution x.c (sr.mags.getD j 0) = _)
      exact ⟨_, hlo, hhi, h⟩
    · rwa [contribution_eq_iff.mpr ⟨hlo, hhi⟩]
  case bound => exact le_largest (mem_excesses.mpr ⟨x, hx, j, hj, rfl⟩)
  case attained => exact (largest_mem (excesses sr c)).imp_right mem_excesses.mp
  case empty => exact chooseSlot_of_nil hempty
  case harm =>
    cases before with
    | nil => rw [chooseSlot_of_none hc hnone, leastHarm_of_least hafter]
    | cons t rest =>
      rw [List.cons_append] at hc
      rw [chooseSlot_of_none hc hnone, leastHarm_append (hbefore t (List.mem_cons_self ..))
        (fun x hx => hbefore x (List.mem_cons_of_mem _ hx)) hafter]

end Sys2Proof.Machine
end

section
/-! PROOF. The reads of the records (ReadsReportTheRecords). -/

namespace Sys2Proof.Machine

/-! ## Bytes of numbers (R149) -/

theorem ofNat_mod_byte (n : Nat) : BitVec.ofNat 8 (n % 256) = BitVec.ofNat 8 n :=
  BitVec.eq_of_toNat_eq (by simp)

theorem leBytes_two (n : Nat) : leBytes 2 n = [BitVec.ofNat 8 (n % 256), BitVec.ofNat 8 (n / 256)] := by
  rw [ofNat_mod_byte]
  rfl

/-- A byte of a word is a quotient of its number. -/
theorem extract_byte {w : Nat} (x : BitVec w) (i : Nat) :
    x.extractLsb' i 8 = BitVec.ofNat 8 (x.toNat / 2 ^ i) := by
  refine BitVec.eq_of_toNat_eq ?_
  rw [BitVec.extractLsb'_toNat, BitVec.toNat_ofNat, Nat.shiftRight_eq_div_pow]

theorem leBytes_two_toNat {w : Nat} (x : BitVec w) :
    leBytes 2 x.toNat = [x.extractLsb' 0 8, x.extractLsb' 8 8] := by
  rw [extract_byte, extract_byte, pow_zero, Nat.div_one]
  rfl

theorem leBytes_four_toNat {w : Nat} (x : BitVec w) : leBytes 4 x.toNat
    = [x.extractLsb' 0 8, x.extractLsb' 8 8, x.extractLsb' 16 8, x.extractLsb' 24 8] := by
  simp only [extract_byte, leBytes, Nat.div_div_eq_div_mul, pow_zero, Nat.div_one]
  norm_num

/-- Two bytes for each entry of a list, in its order. -/
theorem flatMap_pair {α β : Type} (f g : α → β) (l : List α) :
    (l.flatMap fun a => [f a, g a]).length = 2 * l.length
      ∧ ∀ i a, l[i]? = some a → (l.flatMap fun a => [f a, g a])[2 * i]? = some (f a)
        ∧ (l.flatMap fun a => [f a, g a])[2 * i + 1]? = some (g a) := by
  induction l with
  | nil => exact ⟨rfl, fun i a h => by simp at h⟩
  | cons x xs ih =>
    obtain ⟨hlen, hget⟩ := ih
    refine ⟨?_, fun i a h => ?_⟩
    · rw [List.flatMap_cons, List.length_append, hlen]
      simp
      omega
    · cases i with
      | zero =>
        obtain rfl := Option.some.inj h
        exact ⟨rfl, rfl⟩
      | succ i => exact hget i a h

/-! ## The reads (R62, R121, R129, R166, R168, R169) -/

section
variable {s : State} (htakes : s.portTakes = true)
include htakes

theorem exec_settingRead (b : Bay) : exec (.settingRead b) s
    = .next (s.setPort (s.port.answer 0xA0#8 (0x00#8 :: settingPayload b s))) :=
  congrArg Host.Outcome.next (if_pos htakes)

theorem exec_hubRead : exec .hubRead s
    = .next (s.setPort (s.port.answer 0xA2#8 (0x00#8 :: s.hubRecord))) :=
  congrArg Host.Outcome.next (if_pos htakes)

theorem exec_peekRow_thawed (b : Bay) (h : s.store.frozen = false) : exec (.peekRow b) s
    = .next (s.setPort (s.port.answer 0xA6#8 [0x03#8])) := by
  refine congrArg Host.Outcome.next ((if_pos htakes).trans ?_)
  exact if_neg (by simp [h])

theorem exec_peekRow_frozen (b : Bay) (h : s.store.frozen = true) : exec (.peekRow b) s
    = .next (s.setPort (s.port.answer 0xA6#8 (0x00#8 :: snapshotPayload b s))) := by
  refine congrArg Host.Outcome.next ((if_pos htakes).trans ?_)
  exact if_pos h

theorem exec_activeRowRead (b : Bay) : exec (.activeRowRead b) s
    = .next (s.setPort (s.port.answer 0xA8#8 (0x00#8 :: activePayload b s))) :=
  congrArg Host.Outcome.next (if_pos htakes)

theorem exec_exposureRead (b : Bay) (offset count : Byte) : exec (.exposureRead b offset count) s
    = .next (s.setPort (s.port.answer 0xAA#8
        (0x00#8 :: s.exposureRecord b (takeOffset offset) (takeCount count)))) :=
  congrArg Host.Outcome.next (if_pos htakes)

end

theorem setting_bytes (x : Setting) : x.bytes
    = [if x.enable then 1 else 0, BitVec.ofNat 8 x.burst, BitVec.ofNat 8 x.lead, BitVec.ofNat 8 x.gain,
        BitVec.ofNat 8 (x.limit % 256), BitVec.ofNat 8 (x.limit / 256), BitVec.ofNat 8 x.shift,
        x.rate.code, BitVec.ofNat 8 x.deadband, if x.dither = .interleaved then 1 else 0] := by
  have hdither : bitAt 0 (x.dither == .interleaved) = if x.dither = .interleaved then 1 else 0 := by
    simp only [bitAt, beq_iff_eq]
    rfl
  rw [Setting.bytes, leBytes_two, hdither]
  rfl

theorem flag_bits (x y : Bool) : bitAt 0 x ||| bitAt 1 y
    = (if x then 1 else 0) + (if y then 2 else 0) := by
  cases x <;> cases y <;> rfl

theorem hubRecord_eq (s : State) : s.hubRecord
    = [BitVec.ofNat 8 (s.time.pendingDivisor.getD s.time.divisor % 256),
        BitVec.ofNat 8 (s.time.pendingDivisor.getD s.time.divisor / 256), s.store.epochLength.code,
        s.now.extractLsb' 0 8, s.now.extractLsb' 8 8, s.now.extractLsb' 16 8, s.now.extractLsb' 24 8,
        (if s.store.frozen then 1 else 0) + (if s.rebuild.isSome then 2 else 0),
        s.store.sequence.extractLsb' 0 8, s.store.sequence.extractLsb' 8 8, s.port.cause.code] := by
  rw [State.hubRecord, leBytes_two, sampleBytes, leBytes_four_toNat, leBytes_two_toNat, flag_bits]
  rfl

/-- The bytes of a row read with its diagonal (0, 0). -/
theorem rowBytes_readRow (table : CoeffTable) (b : Bay) :
    (rowBytes (readRow table b)).length = 32 ∧ ∀ src : Bay,
      (rowBytes (readRow table b))[2 * src.val]?
          = some (BitVec.ofInt 8 (if src = b then (⟨0, 0⟩ : Coeff) else (table.get b).get src).c)
        ∧ (rowBytes (readRow table b))[2 * src.val + 1]?
          = some (BitVec.ofNat 8 (if src = b then (⟨0, 0⟩ : Coeff) else (table.get b).get src).d) := by
  obtain ⟨hlen, hget⟩ := flatMap_pair (fun e : Coeff => signedByte e.c) (fun e => BitVec.ofNat 8 e.d)
    (readRow table b).cells
  refine ⟨by rw [rowBytes, hlen, (readRow table b).size], fun src => ?_⟩
  have hentry : (readRow table b).get src = if src = b then ⟨0, 0⟩ else (table.get b).get src := by
    rw [readRow, Tab.get_upd]
    exact if_congr eq_comm rfl rfl
  refine hget src.val _ ?_
  rw [← hentry]
  exact List.getElem?_eq_getElem _

theorem positionOf_wrapped (m : Slot) (n : Nat) :
    positionOf (m + BitVec.ofNat 29 (n % 64)) = positionOf (m + BitVec.ofNat 29 n) := by
  refine Fin.ext ?_
  simp only [positionOf, BitVec.toNat_add, BitVec.toNat_ofNat]
  omega

theorem bay_with_flag (b : Bay) (x : Bool) : BitVec.ofNat 8 b.val ||| bitAt 7 x
    = BitVec.ofNat 8 b.val + (if x then 0x80#8 else 0x00#8) := by
  revert b x
  decide

/-- The entries of an EXPOSURE READ, two bytes each. -/
def State.exposureBytes (s : State) (b : Bay) (first n : Nat) : List Byte :=
  (List.range n).flatMap fun i =>
    [BitVec.ofNat 8 (s.exposureAt b (positionOf (s.slot + BitVec.ofNat 29 (first + i))) % 256),
      BitVec.ofNat 8 (s.exposureAt b (positionOf (s.slot + BitVec.ofNat 29 (first + i))) / 256)]

theorem exposureRecord_eq (s : State) (b : Bay) (first n : Nat) : s.exposureRecord b first n
    = [BitVec.ofNat 8 b.val + (if s.rebuild.isSome then 0x80#8 else 0x00#8), BitVec.ofNat 8 first,
        BitVec.ofNat 8 n, (s.slot.setWidth 32).extractLsb' 0 8, (s.slot.setWidth 32).extractLsb' 8 8,
        (s.slot.setWidth 32).extractLsb' 16 8, (s.slot.setWidth 32).extractLsb' 24 8]
      ++ s.exposureBytes b first n := by
  have hslot : s.slot.toNat = (s.slot.setWidth 32).toNat := by
    have := s.slot.isLt
    rw [BitVec.toNat_setWidth]
    omega
  simp only [State.exposureRecord, State.exposureBytes, leBytes_two, positionOf_wrapped, bay_with_flag]
  rw [hslot, leBytes_four_toNat]
  rfl

/-- Settles O41: every read answers the record's bytes, and a list of pairs is read at twice the place. -/
theorem readsReportTheRecords : Obligations.ReadsReportTheRecords := by
  refine ⟨fun s b htakes => ⟨?setting, ?hub⟩, fun s b offset count htakes =>
    ⟨exec_peekRow_thawed htakes b, fun hfrozen => ?peek, ?active, ?exposure⟩⟩
  case setting =>
    rw [exec_settingRead htakes, settingPayload, setting_bytes]
    rfl
  case hub =>
    rw [exec_hubRead htakes, hubRecord_eq]
    rfl
  case peek => exact ⟨_, rowBytes_readRow s.store.snapshot b, exec_peekRow_frozen htakes b hfrozen⟩
  case active =>
    refine ⟨_, rowBytes_readRow s.store.active b, ?_⟩
    rw [exec_activeRowRead htakes, activePayload, sequencePayload, leBytes_two_toNat]
    rfl
  case exposure =>
    obtain ⟨hlen, hget⟩ := flatMap_pair
      (fun i => BitVec.ofNat 8
        (s.exposureAt b (positionOf (s.slot + BitVec.ofNat 29 (min 63 offset.toNat + i))) % 256))
      (fun i => BitVec.ofNat 8
        (s.exposureAt b (positionOf (s.slot + BitVec.ofNat 29 (min 63 offset.toNat + i))) / 256))
      (List.range (max 1 (min 16 count.toNat)))
    have hoffset : takeOffset offset = min 63 offset.toNat := Nat.zero_max _
    refine ⟨s.exposureBytes b (min 63 offset.toNat) (max 1 (min 16 count.toNat)), ?_, fun i hi => ?_, ?_⟩
    · rw [State.exposureBytes, hlen, List.length_range]
    · exact hget i i (List.getElem?_range hi)
    · rw [exec_exposureRead htakes, exposureRecord_eq, hoffset]
      rfl

end Sys2Proof.Machine
end

section
/-! PROOF. The completion of a rebuild (RebuildWritesTheCalendar). -/

namespace Sys2Proof.Machine

/-- A search start that reads the same as another's leaves the same queue and search. -/
theorem searchStart_congr {s t : State} (htry : ∀ b p, trySeek t b p = trySeek s b p)
    (hqueue : t.queue = s.queue) (hengine : t.engine = s.engine) (hrebuild : t.rebuild = s.rebuild) :
    searchStart t = (t.setQueue (searchStart s).queue).setEngine (searchStart s).engine := by
  unfold searchStart
  rw [hengine, hrebuild, hqueue, scanQueue_congr htry]
  split
  · rfl
  · rw [← hqueue, ← hengine]
    rfl

/-- A search start reads no part of the store but the active table. -/
theorem searchStart_setStore (s : State) {x : Store} (h : x.active = s.store.active) :
    searchStart (s.setStore x) = (searchStart s).setStore x := by
  have htry (b : Bay) (p : Pos) : trySeek (s.setStore x) b p = trySeek s b p := by
    unfold trySeek prepareSearch State.testedBays State.coeff
    simp only [State.setStore_store, h]
    rfl
  rw [searchStart_congr htry rfl rfl rfl, searchStart_eq s]
  rfl

theorem searchStart_of_rebuilding {s : State} {m : Sample} (h : s.rebuild = some m) : searchStart s = s := by
  simp [searchStart, h]

/-! ## A commit due (R126, R127) -/

/-- A commit is due, and changes the active table. -/
def State.commitChanges (s : State) : Prop :=
  s.store.commitDue = true ∧ s.store.working ≠ s.store.active

/-- The store with a due commit taken that changes the active table. -/
def State.committedStore (s : State) : Store :=
  { s.store with active := s.store.working, sequence := s.store.sequence + 1, commitDue := false }

theorem takeDueCommit_of_change {s : State} (h : s.commitChanges) :
    takeDueCommit s = (s.setStore s.committedStore).setRebuild (some s.now) := by
  obtain ⟨hdue, hdiffers⟩ := h
  rw [takeDueCommit, if_pos hdue, takeCommit]
  exact if_neg hdiffers

theorem takeDueCommit_of_none {s : State} (h : ¬ s.commitChanges) :
    takeDueCommit s = s.setStore { s.store with commitDue := false } := by
  unfold takeDueCommit
  split
  · next hdue => exact if_pos (not_not.mp fun hdiffers => h ⟨hdue, hdiffers⟩)
  · next hdue =>
    rw [← Bool.eq_false_of_not_eq_true hdue]
    rfl

/-! ## The completion (R59) -/

/-- The part with the calendar written into the exposure table and REBUILT raised. -/
def State.rebuilt (s : State) : State :=
  raiseCause .rebuilt 0 ((recomputeExposure s).setRebuild none)

theorem completeRebuild_none {s : State} (h : s.rebuild = none) (searchFirst : Bool) :
    completeRebuild searchFirst s = s := by
  rw [completeRebuild, if_pos (by simp [h])]

theorem completeRebuild_some {s : State} {m : Sample} (h : s.rebuild = some m) (searchFirst : Bool) :
    completeRebuild searchFirst s = if searchFirst then takeDueCommit (searchStart s.rebuilt)
      else searchStart (takeDueCommit s.rebuilt) := by
  rw [completeRebuild, if_neg (by simp [h])]
  rfl

/-- What a rebuild's completion writes before anything is started. -/
theorem rebuilt_eq (s : State) : ∃ x a, s.rebuilt = ((s.setExposure x).setAttention a).setRebuild none
    ∧ (∀ (b : Bay) (p : Fin 64), (x.get b).get p = s.calendarLoad b (slotAt s.slot p))
    ∧ a = { s.attention with pending := s.attention.pending ||| 0x40#8 } :=
  ⟨_, _, rfl, recomputeExposure_at s, rfl⟩

section
variable {s : State} {m : Sample} (hm : s.rebuild = some m) (searchFirst : Bool)
include hm

/-- With no change to commit, the search start follows on whichever order. -/
theorem completeRebuild_of_none (h : ¬ s.commitChanges) : completeRebuild searchFirst s
    = searchStart (s.rebuilt.setStore { s.store with commitDue := false }) := by
  rw [completeRebuild_some hm]
  split
  · rw [searchStart_setStore _ (by rfl), takeDueCommit_of_none]
    · rw [(searchStart_keeps _).store]
      rfl
    · rw [State.commitChanges, (searchStart_keeps _).store]
      exact h
  · rw [takeDueCommit_of_none (s := s.rebuilt) h]
    rfl

/-- With a change to commit, the new rebuild bars a search start that follows it. -/
theorem completeRebuild_of_change (h : s.commitChanges) : completeRebuild searchFirst s
    = ((if searchFirst then searchStart s.rebuilt else s.rebuilt).setStore
        s.committedStore).setRebuild (some s.now) := by
  rw [completeRebuild_some hm]
  split
  · have hkeeps := searchStart_keeps s.rebuilt
    have hstore : (searchStart s.rebuilt).committedStore = s.committedStore := by
      rw [State.committedStore, hkeeps.store]
      rfl
    rw [takeDueCommit_of_change, hstore, hkeeps.now]
    · rfl
    · rw [State.commitChanges, hkeeps.store]
      exact h
  · rw [takeDueCommit_of_change (s := s.rebuilt) h, searchStart_of_rebuilding rfl]
    rfl

end

/-- The queue and the search after the search start that may precede a commit. -/
theorem rebuilt_search (s : State) (searchFirst : Bool) : ∃ q e,
    (if searchFirst then searchStart s.rebuilt else s.rebuilt) = (s.rebuilt.setQueue q).setEngine e
      ∧ (searchFirst = false → q = s.queue ∧ e = s.engine)
      ∧ (searchFirst = true → searchStart s.rebuilt = (s.rebuilt.setQueue q).setEngine e) := by
  cases searchFirst with
  | false => exact ⟨s.queue, s.engine, rfl, fun _ => ⟨rfl, rfl⟩, Bool.noConfusion⟩
  | true => exact ⟨_, _, searchStart_eq s.rebuilt, Bool.noConfusion, fun _ => searchStart_eq s.rebuilt⟩

/-- Settles O13: with a change to commit and without one, in each order. -/
theorem rebuildWritesTheCalendar : Obligations.RebuildWritesTheCalendar := by
  refine fun s searchFirst => ⟨fun hnone => ?idle, fun m hm => ⟨completeRebuild searchFirst s, rfl, ?_⟩⟩
  case idle => exact congrArg Host.Outcome.next (completeRebuild_none hnone searchFirst)
  obtain ⟨x, a, hrebuilt, hexposure, hattention⟩ := rebuilt_eq s
  by_cases h : s.commitChanges
  · obtain ⟨q, e, hsearch, hlater, hfirst⟩ := rebuilt_search s searchFirst
    rw [completeRebuild_of_change hm searchFirst h, hsearch,
      if_pos (show s.store.commitDue = true ∧ s.store.working ≠ s.store.active from h)]
    rw [hrebuilt] at hfirst ⊢
    refine ⟨hexposure, hattention, ⟨rfl, rfl, hlater, fun htrue => ?_⟩, rfl⟩
    refine ⟨_, (congrArg (exec .searchStart) ?_).trans (congrArg Host.Outcome.next (hfirst htrue)), ?_⟩
    · simp only [State.setExposure, State.setAttention, State.setRebuild, State.setQueue,
        State.setEngine, State.setStore]
    · rfl
  · rw [completeRebuild_of_none hm searchFirst h, hrebuilt,
      if_neg (show ¬ (s.store.commitDue = true ∧ s.store.working ≠ s.store.active) from h), searchStart_eq]
    refine ⟨hexposure, hattention, ⟨rfl, rfl, ?_⟩, rfl⟩
    exact congrArg Host.Outcome.next (searchStart_eq _)

end Sys2Proof.Machine
end

section
/-! PROOF. The epoch counter and the commit at an epoch's end (EpochEndCommitsOrDefers): of all that a
boundary takes, the epoch's duty alone changes the store. -/

namespace Sys2Proof.Machine

/-! ## Work that has reached its bound -/

theorem overdueBurst_keeps (s : State) (b : Bay) : KeepsSetup s (overdueBurst s b) := by
  unfold overdueBurst
  split
  · exact .ite (.refl s) (completeBurst_keeps ..)
  · exact .refl s

theorem overdueRevisions_keeps (s : State) (b : Bay) : KeepsSetup s (overdueRevisions s b) :=
  .foldl (fun u m => completeRevision_keeps b m u) _ _

theorem overdueSearch_keeps (s : State) : KeepsSetup s (overdueSearch s) := by
  unfold overdueSearch
  split
  · exact .ite (completeSearch_keeps s) (.refl s)
  · exact .refl s

/-- The overdue work before the rebuild's. -/
theorem overdueWork_keeps (s : State) :
    KeepsSetup s (overdueSearch (bays.foldl overdueRevisions (bays.foldl overdueBurst s))) :=
  ((KeepsSetup.foldl overdueBurst_keeps bays s).trans (.foldl overdueRevisions_keeps bays _)).trans
    (overdueSearch_keeps _)

/-- No rebuild is bound to complete before the next boundary. -/
def State.RebuildYoung (s : State) : Prop :=
  ∀ m, s.rebuild = some m → (s.now - m).toNat < 7

theorem overdueRebuild_of_young {s : State} (h : s.RebuildYoung) (order : List Duty) :
    overdueRebuild order s = s := by
  unfold overdueRebuild
  split
  · next m hm => exact if_neg (by simpa [eighthBoundary] using h m hm)
  · rfl

theorem completeOverdue_keeps {s : State} (h : s.RebuildYoung) (order : List Duty) :
    KeepsSetup s (completeOverdue order s) := by
  have hkeeps := overdueWork_keeps s
  rw [completeOverdue, overdueRebuild_of_young]
  · exact hkeeps
  · intro m hm
    rw [hkeeps.now]
    exact h m (hkeeps.rebuild.symm.trans hm)

/-! ## The epoch's duty among the others -/

theorem foldl_runDuty_keeps (changed : Bool) {ds : List Duty} (hds : Duty.epoch ∉ ds) (s : State) :
    KeepsSetup s (ds.foldl (runDuty changed) s) := by
  induction ds generalizing s with
  | nil => exact .refl s
  | cons d ds ih =>
    obtain ⟨hd, hds⟩ := not_or.mp (List.mem_cons.not.mp hds)
    exact (runDuty_keeps changed s (Ne.symm hd)).trans (ih hds _)

/-- The epoch's duty is among the others once. -/
theorem dutyOrder_epoch (order : List Duty) : ∃ ds es, dutyOrder order = ds ++ .epoch :: es
    ∧ Duty.epoch ∉ ds ∧ Duty.epoch ∉ es := by
  obtain ⟨ds, es, horder⟩ := List.append_of_mem (mem_dutyOrder order .epoch)
  have hnodup := dutyOrder_nodup order
  rw [horder, List.nodup_append, List.nodup_cons] at hnodup
  obtain ⟨-, ⟨hes, -⟩, hdisjoint⟩ := hnodup
  exact ⟨ds, es, horder, fun h => hdisjoint _ h _ (List.mem_cons_self ..) rfl, hes⟩

/-- The duties before and after the epoch's leave the setup as they find it. -/
theorem foldl_runDuty_epoch (changed : Bool) (order : List Duty) (s : State) : ∃ v, KeepsSetup s v
    ∧ KeepsSetup (runDuty changed v .epoch) ((dutyOrder order).foldl (runDuty changed) s) := by
  obtain ⟨ds, es, horder, hds, hes⟩ := dutyOrder_epoch order
  refine ⟨ds.foldl (runDuty changed) s, foldl_runDuty_keeps changed hds s, ?_⟩
  rw [horder, List.foldl_append, List.foldl_cons]
  exact foldl_runDuty_keeps changed hes _

/-- Before the epoch's duty of a slot start the store and the rebuild stand, and after it they stand. -/
theorem takeBoundary_epoch {s : State} (hslot : s.slotStartNext = true) (h : s.RebuildYoung)
    (order : List Duty) : ∃ v, v.store = s.store ∧ v.rebuild = s.rebuild ∧ v.now = s.now + 1
      ∧ (takeBoundary order s).store = (advanceEpoch v).store
      ∧ (takeBoundary order s).rebuild = (advanceEpoch v).rebuild := by
  have hover := completeOverdue_keeps h order
  unfold takeBoundary
  dsimp only
  generalize completeOverdue order s = u at hover
  obtain ⟨v, hbefore, hafter⟩ := foldl_runDuty_epoch u.time.pendingDivisor.isSome order u.slotOpened
  have hopened := (slotOpened_keeps u).trans hbefore
  have hnow : v.now = s.now + 1 := by
    rw [hopened.now]
    exact congrArg (· + 1) hover.now
  have hduty : runDuty u.time.pendingDivisor.isSome v .epoch = advanceEpoch v := by
    refine if_pos ?_
    rw [hnow]
    exact hslot
  rw [hduty] at hafter
  refine ⟨v, hopened.store.trans hover.store, hopened.rebuild.trans hover.rebuild, hnow, ?_, ?_⟩
  · exact hafter.store
  · exact hafter.rebuild

/-! ## The epoch's duty (R49, R58, R126, R127) -/

section
variable {v : State}

theorem advanceEpoch_counts (h : v.store.epochCount + 1 < v.store.epochLength.slots) :
    advanceEpoch v = v.setStore { v.store with epochCount := v.store.epochCount + 1 } := if_pos h

theorem advanceEpoch_defers (h : ¬ v.store.epochCount + 1 < v.store.epochLength.slots) {m : Sample}
    (hm : v.rebuild = some m) :
    advanceEpoch v = v.setStore { v.store with epochCount := 0, commitDue := true } := by
  rw [advanceEpoch, if_neg h, if_pos (by simp [hm])]

theorem advanceEpoch_ends (h : ¬ v.store.epochCount + 1 < v.store.epochLength.slots)
    (hnone : v.rebuild = none) :
    advanceEpoch v = takeCommit (v.setStore { v.store with epochCount := 0 }) := by
  rw [advanceEpoch, if_neg h, if_neg (by simp [hnone])]

end

theorem epochEndNext_iff {s : State} : s.epochEndNext = true
    ↔ s.slotStartNext = true ∧ ¬ s.store.epochCount + 1 < s.store.epochLength.slots := by
  simp [State.epochEndNext]

section
variable {s : State} (hheld : s.pins.resetHeld = false) (order : List Duty)
include hheld

theorem exec_slotStart_taken (hslot : s.slotStartNext = true) :
    exec (.slotStart order) s = .next (takeBoundary order s) :=
  congrArg Host.Outcome.next (if_pos (by simp [hheld, hslot]))

theorem exec_epochEnd_taken (hend : s.epochEndNext = true) :
    exec (.epochEnd order) s = .next (takeBoundary order s) :=
  congrArg Host.Outcome.next (if_pos (by simp [hheld, hend]))

/-- A slot start that ends no epoch. -/
theorem slotStart_counts (hslot : s.slotStartNext = true) (hend : s.epochEndNext = false)
    (hyoung : s.RebuildYoung) : ∃ t, exec (.slotStart order) s = .next t
      ∧ t.store = { s.store with epochCount := s.store.epochCount + 1 } ∧ t.rebuild = s.rebuild := by
  obtain ⟨v, hstore, hrebuild, -, hafter, hbuilding⟩ := takeBoundary_epoch hslot hyoung order
  refine ⟨_, exec_slotStart_taken hheld order hslot, ?_⟩
  have hcount : v.store.epochCount + 1 < v.store.epochLength.slots := by
    rw [hstore]
    by_contra hlast
    rw [epochEndNext_iff.mpr ⟨hslot, hlast⟩] at hend
    cases hend
  rw [hafter, hbuilding, advanceEpoch_counts hcount, ← hstore]
  exact ⟨rfl, hrebuild⟩

/-- What the end of an epoch leaves, by the state before the epoch's duty. -/
theorem epochEnd_ends (hend : s.epochEndNext = true) (hyoung : s.RebuildYoung) :
    ∃ v, v.store = s.store ∧ v.rebuild = s.rebuild ∧ v.now = s.now + 1
      ∧ (¬ v.store.epochCount + 1 < v.store.epochLength.slots)
      ∧ ∃ t, exec (.epochEnd order) s = .next t ∧ t.store = (advanceEpoch v).store
        ∧ t.rebuild = (advanceEpoch v).rebuild := by
  obtain ⟨hslot, hlast⟩ := epochEndNext_iff.mp hend
  obtain ⟨v, hstore, hrebuild, hnow, hafter, hbuilding⟩ := takeBoundary_epoch hslot hyoung order
  exact ⟨v, hstore, hrebuild, hnow, hstore ▸ hlast, _, exec_epochEnd_taken hheld order hend, hafter,
    hbuilding⟩

end

theorem rebuildYoung_of_none {s : State} (h : s.rebuild = none) : s.RebuildYoung := by
  intro m hm
  rw [h] at hm
  cases hm

theorem rebuildYoung_of_some {s : State} {m : Sample} (h : s.rebuild = some m)
    (hyoung : (s.now - m).toNat < 7) : s.RebuildYoung := by
  intro n hn
  obtain rfl := Option.some.inj (h.symm.trans hn)
  exact hyoung

/-- Settles O12: a count, a commit, an end without a difference, and a deferral. -/
theorem epochEndCommitsOrDefers : Obligations.EpochEndCommitsOrDefers := by
  refine fun s order hheld => ⟨fun hslot hend hnone => ?counts, fun m hslot hend hm hage => ?behind,
    fun hend hnone hdiffers => ?commits, fun hend hnone hsame => ?same, fun m hend hm hage => ?defers⟩
  case counts =>
    obtain ⟨t, ht, hstore, hrebuild⟩ := slotStart_counts hheld order hslot hend (rebuildYoung_of_none hnone)
    exact ⟨t, ht, hstore, hrebuild.trans hnone⟩
  case behind =>
    obtain ⟨t, ht, hstore, hrebuild⟩ :=
      slotStart_counts hheld order hslot hend (rebuildYoung_of_some hm hage)
    exact ⟨t, ht, hstore, hrebuild.trans hm⟩
  case commits =>
    obtain ⟨v, hstore, hrebuild, hnow, hlast, t, ht, htstore, htrebuild⟩ :=
      epochEnd_ends hheld order hend (rebuildYoung_of_none hnone)
    refine ⟨t, ht, ?_⟩
    rw [htstore, htrebuild, advanceEpoch_ends hlast (hrebuild.trans hnone), takeCommit,
      if_neg (by simpa [hstore] using hdiffers), ← hstore, ← hnow]
    exact ⟨rfl, rfl⟩
  case same =>
    obtain ⟨v, hstore, hrebuild, -, hlast, t, ht, htstore, htrebuild⟩ :=
      epochEnd_ends hheld order hend (rebuildYoung_of_none hnone)
    refine ⟨t, ht, ?_⟩
    rw [htstore, htrebuild, advanceEpoch_ends hlast (hrebuild.trans hnone), takeCommit,
      if_pos (by simpa [hstore] using hsame), ← hstore]
    exact ⟨rfl, hrebuild.trans hnone⟩
  case defers =>
    obtain ⟨v, hstore, hrebuild, -, hlast, t, ht, htstore, htrebuild⟩ :=
      epochEnd_ends hheld order hend (rebuildYoung_of_some hm hage)
    refine ⟨t, ht, ?_⟩
    rw [htstore, htrebuild, advanceEpoch_defers hlast (hrebuild.trans hm), ← hstore]
    exact ⟨rfl, hrebuild.trans hm⟩

end Sys2Proof.Machine
end

section
/-! PROOF. The release of a reset (ReleaseBeginsSampleZero): on a part at its reset values a boundary counts
its slot start and changes nothing else, and then the occupied bays' drives arrive. -/

namespace Sys2Proof.Machine

/-! ## A part at its reset values -/

/-- What the duties of a boundary read stands at its reset values. -/
structure AtRest (s : State) : Prop where
  lanes : s.lanes = State.reset.lanes
  seeks : s.seeks = State.reset.seeks
  history : s.history = State.reset.history
  exposure : s.exposure = State.reset.exposure
  queue : s.queue = []
  engine : s.engine = none
  rebuild : s.rebuild = none
  streams : s.streams = State.reset.streams

section
variable {s : State} (h : AtRest s)
include h

theorem AtRest.lane (b : Bay) : s.lane b = Lane.reset := by
  rw [State.lane, h.lanes]
  exact reset_lane b

theorem AtRest.isReady (b : Bay) : s.isReady b = false := by
  rw [State.isReady, h.lane]
  rfl

theorem AtRest.seekAt (b : Bay) (p : Pos) : s.seekAt b p = none := by
  rw [State.seekAt, h.seeks]
  exact reset_seekAt b p

theorem AtRest.stream (b : Bay) : s.stream b = Stream.reset := by
  rw [State.stream, h.streams]
  exact reset_stream b

theorem AtRest.exposureAt (b : Bay) (i : Fin 64) : s.exposureAt b i = 0 := by
  rw [State.exposureAt, h.exposure]
  exact reset_exposureAt b i

theorem AtRest.appendedTorque (b : Bay) (m : Sample) : s.appendedTorque b m = 0 := by
  have hnone : s.liveSeeks b = [] := List.eq_nil_iff_forall_not_mem.mpr fun x hx => by
    have hseek := mem_liveSeeks.mp hx
    rw [h.seekAt] at hseek
    cases hseek
  rw [State.appendedTorque, hnone]
  rfl

/-! ### What the boundary brings whatever the order -/

theorem AtRest.appendHistories_eq : appendHistories s = s := by
  have hkept : (Tab.gen 16 fun b => pushHistory (s.appendedTorque b s.now) (s.history.get b)) = s.history := by
    refine Tab.ext_get fun b => Tab.ext_get fun i => ?_
    rw [Tab.get_gen, pushHistory, Tab.get_gen, h.appendedTorque, h.history, reset_history]
    split <;> exact (reset_history b i).symm
  rw [appendHistories, hkept]
  rfl

theorem AtRest.endSeeks_eq : endSeeks s = s := by
  have hkept : (Tab.gen 16 fun b => Tab.gen 4 fun p => (s.seekAt b p).bind (endedSeek s.now)) = s.seeks := by
    refine Tab.ext_get fun b => Tab.ext_get fun p => ?_
    rw [Tab.get_gen, Tab.get_gen, h.seekAt]
    exact (h.seekAt b p).symm
  rw [endSeeks, hkept]
  rfl

theorem AtRest.retired_eq : s.retired = s := by
  have hkept : (Tab.gen 16 fun b => retireRecords s.now (s.stream b)) = s.streams := by
    refine Tab.ext_get fun b => ?_
    rw [Tab.get_gen, h.stream]
    exact (h.stream b).symm
  rw [State.retired, h.appendHistories_eq, h.endSeeks_eq, hkept]
  rfl

theorem AtRest.allDrained_eq : s.allDrained = s := by
  have hdrained (b : Bay) : (s.stream b).drained = false := by
    rw [h.stream]
    rfl
  have hkept : (Tab.gen 16 fun b => drainedStream (s.stream b)) = s.streams := by
    refine Tab.ext_get fun b => ?_
    rw [Tab.get_gen, drainedStream, if_neg (by simp [hdrained])]
    rfl
  have hquiet : s.drainedAttention = s.attention :=
    List.foldl_fixed' (fun b => if_neg (by simp [hdrained])) bays
  rw [State.allDrained, hkept, hquiet]
  rfl

theorem AtRest.recycleExposure_eq : recycleExposure s = s := by
  have hkept : (recycleExposure s).exposure = s.exposure := by
    refine Tab.ext_get fun b => Tab.ext_get fun i => ?_
    refine (changeExposure_at ..).trans ?_
    rw [h.exposureAt, ite_self, ite_self]
    exact (h.exposureAt b i).symm
  rw [recycleExposure, changeExposure_eq]
  exact congrArg s.setExposure hkept

theorem AtRest.boundaryStart_eq : boundaryStart s = s := by
  rw [boundaryStart_drained, h.retired_eq, h.allDrained_eq, h.recycleExposure_eq, ite_self]

/-! ### The duties -/

theorem AtRest.launchOrExpire_eq (b : Bay) (p : Pos) : launchOrExpire b s p = s :=
  launchOrExpire_none (h.seekAt b p)

theorem AtRest.burstDuty_eq (b : Bay) : burstDuty b s = s := by
  refine if_neg fun hx => ?_
  rw [h.stream] at hx
  simp [Stream.reset] at hx

theorem AtRest.search_eq : searchStart (clearHolds s) = s := by
  have hclear : clearHolds s = s := by
    rw [clearHolds, h.queue, ← h.queue]
    exact congrArg s.setQueue (by rw [h.queue]; rfl)
  have hscan : searchStart s = (s.setQueue []).setEngine none := by
    simp [searchStart, h.engine, h.rebuild, h.queue, scanQueue]
  rw [hclear, hscan, ← h.queue, ← h.engine]
  rfl

/-- On a part at rest every duty but the epoch's does nothing. -/
theorem AtRest.runDuty_eq {d : Duty} (hd : d ≠ .epoch) : runDuty false s d = s := by
  cases d with
  | epoch => exact absurd rfl hd
  | seek b =>
    have hturn : positions.foldl (launchOrExpire b) s = s :=
      List.foldl_fixed' (h.launchOrExpire_eq b) positions
    simp only [runDuty, hturn, ite_self]
  | stream b => exact h.burstDuty_eq b
  | search => simp only [runDuty, h.search_eq, ite_self]
  | welcome b => rfl
  | mark b => simp [runDuty, markDuty, h.isReady]

theorem AtRest.foldl_runDuty_eq {ds : List Duty} (hds : Duty.epoch ∉ ds) :
    ds.foldl (runDuty false) s = s := by
  induction ds with
  | nil => rfl
  | cons d ds ih =>
    obtain ⟨hd, hds⟩ := not_or.mp (List.mem_cons.not.mp hds)
    rw [List.foldl_cons, h.runDuty_eq (Ne.symm hd), ih hds]

theorem AtRest.setStore (x : Store) : AtRest (s.setStore x) :=
  ⟨h.lanes, h.seeks, h.history, h.exposure, h.queue, h.engine, h.rebuild, h.streams⟩

theorem AtRest.setPins (x : Pins) : AtRest (s.setPins x) :=
  ⟨h.lanes, h.seeks, h.history, h.exposure, h.queue, h.engine, h.rebuild, h.streams⟩

theorem AtRest.revisionsRead : RevisionsRead s := by
  intro b v hv
  rw [h.stream] at hv
  cases hv

/-- A boundary that begins a slot counts it and does nothing else. -/
theorem AtRest.boundaryDuties_eq (hstart : isSlotStart s.now = true)
    (hcount : s.store.epochCount + 1 < s.store.epochLength.slots) (order : List Duty) :
    boundaryDuties false order s = s.setStore { s.store with epochCount := s.store.epochCount + 1 } := by
  obtain ⟨ds, es, horder, hds, hes⟩ := dutyOrder_epoch order
  have hepoch : runDuty false s .epoch
      = s.setStore { s.store with epochCount := s.store.epochCount + 1 } :=
    (if_pos hstart).trans (advanceEpoch_counts hcount)
  have hafter := h.setStore { s.store with epochCount := s.store.epochCount + 1 }
  rw [boundaryDuties, h.boundaryStart_eq, horder, List.foldl_append, List.foldl_cons,
    h.foldl_runDuty_eq hds, hepoch, hafter.foldl_runDuty_eq hes, readRevisions_of_read hafter.revisionsRead]

end

/-! ## The arrivals (R151, R159, R176) -/

/-- `t` is `s` with the drives of the occupied bays among `bs` detected. -/
structure Arrived (bs : List Bay) (s t : State) : Prop where
  rest : t = (s.setLanes t.lanes).setAttention t.attention
  lane : ∀ b, t.lane b
    = if b ∈ bs ∧ s.pins.present.get b = true then movedLane (s.lane b) .detected else s.lane b
  mask : t.attention.mask = s.attention.mask
  route : t.attention.route = s.attention.route
  pending : t.attention.pending
    = s.attention.pending ||| (if bs.any s.pins.present.get then 0x01#8 else 0x00#8)
  arrive : ∀ b : Bay, (t.attention.sets.get Cause.arrive.bit).getLsbD b.val
    = ((s.attention.sets.get Cause.arrive.bit).getLsbD b.val || decide (b ∈ bs) && s.pins.present.get b)
  others : ∀ c : Cause, c ≠ .arrive → t.attention.sets.get c.bit = s.attention.sets.get c.bit

theorem Arrived.nil (s : State) : Arrived [] s s := by
  refine ⟨rfl, fun b => ?_, rfl, rfl, ?_, fun b => ?_, fun c _ => rfl⟩
  · rw [if_neg (by simp)]
  · simp
  · simp

theorem Arrived.trans {bs cs : List Bay} {s t u : State} (h : Arrived bs s t) (k : Arrived cs t u)
    (hdisjoint : ∀ b ∈ bs, b ∉ cs) : Arrived (bs ++ cs) s u := by
  have hpins : t.pins = s.pins := by
    rw [h.rest]
    rfl
  refine ⟨?_, fun b => ?_, k.mask.trans h.mask, k.route.trans h.route, ?_, fun b => ?_, fun c hc => ?_⟩
  · conv_lhs => rw [k.rest, h.rest]
    rfl
  · rw [k.lane, h.lane, hpins]
    by_cases hb : b ∈ bs
    · simp [hb, hdisjoint b hb]
    · simp [hb]
  · rw [k.pending, h.pending, hpins, List.any_append, BitVec.or_assoc]
    cases bs.any s.pins.present.get <;> cases cs.any s.pins.present.get <;> simp
  · rw [k.arrive, h.arrive, hpins]
    simp [Bool.or_assoc, Bool.and_or_distrib_right]
  · rw [k.others c hc, h.others c hc]

theorem arriveHeld_arrived {s : State} {b : Bay} (habsent : (s.lane b).state = .absent) :
    Arrived [b] s (arriveHeld s b) := by
  unfold arriveHeld
  split
  · next hpresent =>
    rw [detectDrive, if_pos habsent]
    have hattention := raiseCause_attention (c := .arrive) (by decide) b
      (s.putLane b (movedLane (s.lane b) .detected))
    refine ⟨rfl, fun c => ?_, ?_, ?_, ?_, fun c => ?_, fun c hc => ?_⟩
    · refine (State.lane_putLane s b c _).trans ?_
      by_cases hbc : b = c
      · subst hbc
        simp [hpresent]
      · simp [hbc, Ne.symm hbc]
    · rw [hattention]
      rfl
    · rw [hattention]
      rfl
    · rw [hattention]
      simp [hpresent]
      rfl
    · rw [hattention]
      have hc : c.val < 16 := c.isLt
      by_cases hbc : b = c
      · subst hbc
        simp [hpresent, hc]
      · have hval : ¬ c.val = b.val := fun hv => hbc (Fin.ext hv.symm)
        simp [Ne.symm hbc, hval, hc]
    · rw [hattention]
      refine Tab.get_upd_ne _ _ ?_
      cases c <;> simp_all [Cause.bit]
  · next hempty =>
    refine ⟨rfl, fun c => ?_, rfl, rfl, ?_, fun c => ?_, fun c _ => rfl⟩
    · rw [if_neg]
      rintro ⟨hc, hpresent⟩
      obtain rfl := List.mem_singleton.mp hc
      exact hempty hpresent
    · simp [hempty]
    · by_cases hbc : c = b
      · subst hbc
        simp [hempty]
      · simp [hbc]

theorem foldl_arriveHeld {bs : List Bay} (hbs : bs.Nodup) {s : State}
    (habsent : ∀ b ∈ bs, (s.lane b).state = .absent) : Arrived bs s (bs.foldl arriveHeld s) := by
  induction bs generalizing s with
  | nil => exact .nil s
  | cons b bs ih =>
    obtain ⟨hb, hbs⟩ := List.nodup_cons.mp hbs
    have hfirst := arriveHeld_arrived (habsent b (List.mem_cons_self ..))
    refine Arrived.trans (bs := [b]) hfirst (ih hbs fun c hc => ?_) ?_
    · have hne : c ∉ [b] := fun h => hb (List.mem_singleton.mp h ▸ hc)
      rw [hfirst.lane, if_neg fun h => hne h.1]
      exact habsent c (List.mem_cons_of_mem _ hc)
    · exact fun c hc => List.mem_singleton.mp hc ▸ hb

/-! ## The release (R46, R159, R179) -/

theorem HeldAtReset.atRest {s : State} (hs : HeldAtReset s) (hheld : s.pins.resetHeld = true) :
    AtRest s := by
  obtain ⟨x, c, h⟩ := hs hheld
  rw [h]
  constructor <;> rfl

/-- What the release reads besides, as the reset left it. -/
theorem HeldAtReset.clock {s : State} (hs : HeldAtReset s) (hheld : s.pins.resetHeld = true) :
    s.now = 0 ∧ s.store.epochCount = 0 ∧ s.store.epochLength = .slots256
      ∧ s.attention = Attention.reset := by
  obtain ⟨x, c, h⟩ := hs hheld
  rw [h]
  exact ⟨rfl, rfl, rfl, rfl⟩

/-- Settles O5: the boundary counts the slot start on a part at rest, and the drives arrive. -/
theorem releaseBeginsSampleZero : Obligations.ReleaseBeginsSampleZero := by
  intro s order hs hheld
  obtain ⟨hnow, hcount, hlength, hattention⟩ := hs.clock hheld
  have hrest := hs.atRest hheld
  have hboundary : boundaryDuties false order (s.setPins { s.pins with resetHeld := false })
      = (s.setPins { s.pins with resetHeld := false }).setStore { s.store with epochCount := 1 } := by
    rw [(hrest.setPins _).boundaryDuties_eq]
    · simp [hcount]
    · show isSlotStart s.now = true
      rw [hnow]
      rfl
    · show s.store.epochCount + 1 < s.store.epochLength.slots
      rw [hcount, hlength]
      decide
  have harrived := foldl_arriveHeld (bs := bays) (List.nodup_finRange 16)
    (s := (s.setPins { s.pins with resetHeld := false }).setStore { s.store with epochCount := 1 })
    fun b _ => by
      rw [((hrest.setPins _).setStore _).lane]
      rfl
  have hexec : exec (.resetRelease order) s = .next (releaseReset order s) :=
    congrArg Host.Outcome.next (if_pos hheld)
  refine ⟨_, hexec, ?_⟩
  rw [releaseReset, hboundary]
  generalize bays.foldl arriveHeld _ = t at harrived ⊢
  obtain ⟨hwhole, hlane, hmask, hroute, hpending, harrive, hothers⟩ := harrived
  refine ⟨hwhole, ?_, fun b => ?_, ?_, ?_, ?_, fun b => ?_, fun c hc => ?_⟩
  · rw [hwhole]
    exact hnow
  · rw [hlane, ((hrest.setPins _).setStore _).lane]
    by_cases hpresent : s.pins.present.get b = true <;> simp [hpresent, mem_bays, movedLane, Lane.reset]
  · rw [hmask]
    exact congrArg Attention.mask hattention
  · rw [hroute]
    exact congrArg Attention.route hattention
  · rw [hpending]
    simp [hattention, Attention.reset]
  · rw [harrive]
    simp [hattention, Attention.reset, mem_bays]
  · rw [hothers c hc]
    simp [hattention, Attention.reset]

end Sys2Proof.Machine
end

section
/-! PROOF. A sample boundary (BoundaryAdvancesTheSample): what it leaves of the setup, and the frames that
its duties hand to a lane. -/

namespace Sys2Proof.Machine

/-! ## What a boundary leaves of the setup (R44, R49, R126, R127) -/

/-- The clock, settings, accumulators, port and pins as they were, and the store but for the active table,
the epoch counter, the sequence and commit due. -/
structure KeepsConfig (s t : State) : Prop where
  time : t.time = s.time
  settings : t.settings = s.settings
  acc : t.acc = s.acc
  port : t.port = s.port
  pins : t.pins = s.pins
  store : ∃ a e n d, t.store = { s.store with
    active := a, epochCount := e, sequence := n, commitDue := d }

section
variable {s t u : State}

theorem KeepsSetup.config (h : KeepsSetup s t) : KeepsConfig s t :=
  ⟨h.time, h.settings, h.acc, h.port, h.pins, _, _, _, _, h.store⟩

theorem KeepsConfig.refl (s : State) : KeepsConfig s s := (KeepsSetup.refl s).config

theorem KeepsConfig.trans (h : KeepsConfig s t) (k : KeepsConfig t u) : KeepsConfig s u := by
  obtain ⟨a, e, n, d, hstore⟩ := h.store
  obtain ⟨a', e', n', d', kstore⟩ := k.store
  refine ⟨k.time.trans h.time, k.settings.trans h.settings, k.acc.trans h.acc, k.port.trans h.port,
    k.pins.trans h.pins, a', e', n', d', ?_⟩
  rw [kstore, hstore]

theorem KeepsConfig.ite {p : Prop} [Decidable p] (h : KeepsConfig s t) (k : KeepsConfig s u) :
    KeepsConfig s (if p then t else u) := by
  split <;> assumption

theorem KeepsConfig.foldl {α : Type} {f : State → α → State} (h : ∀ s x, KeepsConfig s (f s x))
    (xs : List α) (s : State) : KeepsConfig s (xs.foldl f s) := by
  induction xs generalizing s with
  | nil => exact .refl s
  | cons x xs ih => exact (h s x).trans (ih _)

end

section
variable (s : State)

theorem setStore_config (a : CoeffTable) (e : Nat) (n : BitVec 16) (d : Bool) : KeepsConfig s (s.setStore
    { s.store with active := a, epochCount := e, sequence := n, commitDue := d }) :=
  ⟨rfl, rfl, rfl, rfl, rfl, a, e, n, d, rfl⟩

theorem takeCommit_config : KeepsConfig s (takeCommit s) := by
  unfold takeCommit
  exact .ite (.refl s) ⟨rfl, rfl, rfl, rfl, rfl, _, _, _, _, rfl⟩

theorem takeDueCommit_config : KeepsConfig s (takeDueCommit s) := by
  unfold takeDueCommit
  have hcleared := setStore_config s s.store.active s.store.epochCount s.store.sequence false
  exact .ite (hcleared.trans (takeCommit_config _)) (.refl s)

theorem completeRebuild_config (searchFirst : Bool) : KeepsConfig s (completeRebuild searchFirst s) := by
  have hwritten : KeepsConfig s (raiseCause .rebuilt 0 ((recomputeExposure s).setRebuild none)) :=
    ⟨rfl, rfl, rfl, rfl, rfl, _, _, _, _, rfl⟩
  unfold completeRebuild
  refine .ite (.refl s) (.ite ?_ ?_)
  · exact (hwritten.trans (searchStart_keeps _).config).trans (takeDueCommit_config _)
  · exact (hwritten.trans (takeDueCommit_config _)).trans (searchStart_keeps _).config

theorem completeOverdue_config (order : List Duty) : KeepsConfig s (completeOverdue order s) := by
  refine (overdueWork_keeps s).config.trans ?_
  rw [completeOverdue]
  unfold overdueRebuild
  split
  · exact .ite (completeRebuild_config ..) (.refl _)
  · exact .refl _

theorem advanceEpoch_config : KeepsConfig s (advanceEpoch s) := by
  unfold advanceEpoch
  have hended := setStore_config s s.store.active 0 s.store.sequence
  exact .ite (setStore_config s _ _ _ _) (.ite (hended true)
    ((hended s.store.commitDue).trans (takeCommit_config _)))

theorem runDuty_config (changed : Bool) (d : Duty) : KeepsConfig s (runDuty changed s d) := by
  by_cases hd : d = .epoch
  · subst hd
    exact .ite (advanceEpoch_config s) (.refl s)
  · exact (runDuty_keeps changed s hd).config

theorem boundaryDuties_config (changed : Bool) (order : List Duty) :
    KeepsConfig s (boundaryDuties changed order s) := by
  have hretired : KeepsConfig s s.retired := ⟨rfl, rfl, rfl, rfl, rfl, _, _, _, _, rfl⟩
  refine ((hretired.trans (boundaryStart_keeps s).config).trans ?_).trans (readRevisions_keeps _).config
  exact .foldl (fun u d => runDuty_config u changed d) _ _

end

/-- Nothing but the clock's advance and the configuration's own changes. -/
theorem takeBoundary_config (order : List Duty) (s : State) : ∃ u, KeepsConfig s u
    ∧ KeepsConfig (advanceSample u) (takeBoundary order s) :=
  ⟨_, completeOverdue_config s order, boundaryDuties_config ..⟩

/-! ## What the duties leave of the streams and of the exposure table -/

/-- No stream's shape changes, and no entry of the exposure table rises. -/
structure Subsides (s t : State) : Prop where
  shape : ∀ b, (t.stream b).burstLen = (s.stream b).burstLen ∧ (t.stream b).lead = (s.stream b).lead
  exposure : ∀ b i, t.exposureAt b i ≤ s.exposureAt b i

section
variable {s t u : State}

theorem subsides_of_blocks (hstreams : t.streams = s.streams) (hexposure : t.exposure = s.exposure) :
    Subsides s t := by
  refine ⟨fun b => ?_, fun b i => ?_⟩
  · rw [State.stream, hstreams]
    exact ⟨rfl, rfl⟩
  · rw [State.exposureAt, hexposure]
    exact le_rfl

theorem Subsides.refl (s : State) : Subsides s s := subsides_of_blocks rfl rfl

theorem Subsides.trans (h : Subsides s t) (k : Subsides t u) : Subsides s u :=
  ⟨fun b => ⟨(k.shape b).1.trans (h.shape b).1, (k.shape b).2.trans (h.shape b).2⟩,
    fun b i => (k.exposure b i).trans (h.exposure b i)⟩

theorem Subsides.ite {p : Prop} [Decidable p] (h : Subsides s t) (k : Subsides s u) :
    Subsides s (if p then t else u) := by
  split <;> assumption

theorem Subsides.foldl {α : Type} {f : State → α → State} (h : ∀ s x, Subsides s (f s x))
    (xs : List α) (s : State) : Subsides s (xs.foldl f s) := by
  induction xs generalizing s with
  | nil => exact .refl s
  | cons x xs ih => exact (h s x).trans (ih _)

theorem putStream_subsides {b : Bay} {x : Stream} (hburst : x.burstLen = (s.stream b).burstLen)
    (hlead : x.lead = (s.stream b).lead) : Subsides s (s.putStream b x) := by
  refine ⟨fun c => ?_, fun _ _ => le_rfl⟩
  rw [State.stream_putStream]
  split
  · next h =>
    subst h
    exact ⟨hburst, hlead⟩
  · exact ⟨rfl, rfl⟩

/-- A change of every stream that leaves each one's shape. -/
theorem setStreams_subsides {f : Bay → Stream} (h : ∀ b, (f b).burstLen = (s.stream b).burstLen
    ∧ (f b).lead = (s.stream b).lead) : Subsides s (s.setStreams (Tab.gen 16 f)) := by
  refine ⟨fun b => ?_, fun _ _ => le_rfl⟩
  rw [State.stream, State.setStreams_streams, Tab.get_gen]
  exact h b

end

section
variable (b : Bay) (s : State)

theorem removeExposure_subsides (r : Seek) : Subsides s (removeExposure b r s) := by
  refine ⟨fun c => ?_, fun c i => ?_⟩
  · rw [removeExposure_eq]
    exact ⟨rfl, rfl⟩
  · rw [removeExposure_at]
    split
    · exact le_rfl
    · exact Nat.sub_le ..

theorem forecastChange_subsides (a z : Sample) : Subsides s (forecastChange b a z s) := by
  refine setStreams_subsides fun c => ?_
  dsimp only
  split
  · exact ⟨rfl, rfl⟩
  · exact ⟨rfl, rfl⟩

theorem readRevisions_subsides : Subsides s (readRevisions s) :=
  setStreams_subsides fun _ => ⟨rfl, rfl⟩

theorem searchStart_subsides : Subsides s (searchStart s) := by
  rw [searchStart_eq]
  exact subsides_of_blocks rfl rfl

theorem freeSeek_subsides (p : Pos) : Subsides s (freeSeek b s p) := by
  have hput : Subsides s (s.putSeek b p none) := subsides_of_blocks rfl rfl
  unfold freeSeek
  split
  · exact .refl s
  · next r _ =>
    refine .ite ?_ ((hput.trans (removeExposure_subsides ..)).trans (forecastChange_subsides ..))
    rw [abandonSearch_eq, dequeue_eq]
    exact subsides_of_blocks rfl rfl

theorem stopStream_subsides : Subsides s (stopStream b s) := putStream_subsides rfl rfl

theorem faultLane_subsides : Subsides s (faultLane b s) := by
  have hraised : Subsides s (raiseCause .laneFault b (s.putLane b (movedLane (s.lane b) .fault))) :=
    subsides_of_blocks rfl rfl
  exact ((hraised.trans (.foldl (freeSeek_subsides b) positions _)).trans
    (stopStream_subsides ..)).trans (searchStart_subsides _)

theorem handThen_subsides (f : Frame) {rest : State → State} (hrest : ∀ u, Subsides u (rest u)) :
    Subsides s (handThen b f rest s) := by
  have hhand : Subsides s (handFrame b f s) := .ite (.refl s) (subsides_of_blocks rfl rfl)
  exact .ite ((hrest s).trans (faultLane_subsides ..)) (hhand.trans (hrest _))

theorem sendFrame_subsides (f : Frame) : Subsides s (sendFrame b f s) :=
  handThen_subsides b s f .refl

theorem launchOrExpire_subsides (p : Pos) : Subsides s (launchOrExpire b s p) := by
  unfold launchOrExpire
  split
  · exact .refl s
  · next r _ =>
    refine .ite (subsides_of_blocks rfl rfl) (.ite (handThen_subsides _ _ _ fun u => ?_) (.refl s))
    have hlane : Subsides u ((u.putSeek b p none).putLane b { u.lane b with lastExpired := some r.tag }) :=
      subsides_of_blocks rfl rfl
    exact ((hlane.trans (removeExposure_subsides ..)).trans (forecastChange_subsides ..)).trans
      (subsides_of_blocks rfl rfl)

theorem takeCommit_subsides : Subsides s (takeCommit s) := by
  unfold takeCommit
  exact .ite (.refl s) (subsides_of_blocks rfl rfl)

theorem advanceEpoch_subsides : Subsides s (advanceEpoch s) := by
  have hstored (x : Store) : Subsides s (s.setStore x) := subsides_of_blocks rfl rfl
  unfold advanceEpoch
  exact .ite (hstored _) (.ite (hstored _) ((hstored _).trans (takeCommit_subsides _)))

theorem runDuty_subsides (changed : Bool) (d : Duty) : Subsides s (runDuty changed s d) := by
  cases d with
  | seek c => exact .ite (.foldl (launchOrExpire_subsides c) positions s) (.refl s)
  | stream c => exact .ite (putStream_subsides rfl rfl) (.refl s)
  | epoch => exact .ite (advanceEpoch_subsides s) (.refl s)
  | search =>
    have hcleared : Subsides s (clearHolds s) := subsides_of_blocks rfl rfl
    exact .ite (hcleared.trans (searchStart_subsides _)) (.refl s)
  | welcome c => exact .ite (.ite (sendFrame_subsides ..) (.refl s)) (.refl s)
  | mark c => exact .ite (.ite (sendFrame_subsides ..) (.refl s)) (.refl s)

theorem retired_shape (c : Bay) : (s.retired.stream c).burstLen = (s.stream c).burstLen
    ∧ (s.retired.stream c).lead = (s.stream c).lead := by
  rw [State.retired, State.stream, State.setStreams_streams, Tab.get_gen]
  exact ⟨rfl, rfl⟩

theorem boundaryStart_shape (c : Bay) : ((boundaryStart s).stream c).burstLen = (s.stream c).burstLen
    ∧ ((boundaryStart s).stream c).lead = (s.stream c).lead := by
  have hdrained (t : Stream) : (drainedStream t).burstLen = t.burstLen ∧ (drainedStream t).lead = t.lead := by
    unfold drainedStream
    split
    · exact ⟨rfl, rfl⟩
    · exact ⟨rfl, rfl⟩
  have hstream : (boundaryStart s).stream c = drainedStream (s.retired.stream c) := by
    rw [boundaryStart_exposed]
    exact Tab.get_gen _ c
  rw [hstream]
  exact ⟨(hdrained _).1.trans (retired_shape s c).1, (hdrained _).2.trans (retired_shape s c).2⟩

end

/-! ## The frames that the duties hand to a lane (R23, R48, R57) -/

/-- A frame other than EXPIRE. -/
def Frame.notExpire : Frame → Bool
  | .expire _ _ => false
  | _ => true

/-- What a duty hands to bay `b`'s lane besides EXPIRE, as the state stands. -/
def State.dutyTells (s : State) (changed : Bool) (b : Bay) : Duty → List Frame
  | .welcome c => if c = b ∧ changed ∧ s.isReady b then [s.welcomeFrame b] else []
  | .mark c => if c = b ∧ isSlotStart s.now ∧ s.isReady b then [.mark s.now] else []
  | _ => []

/-- Bay `b`'s lane has been handed `fs` and EXPIREs, at most `n` frames in all, and is in the same state. -/
structure Told (b : Bay) (fs : List Frame) (n : Nat) (s t : State) : Prop where
  state : (t.lane b).state = (s.lane b).state
  frames : (t.lane b).queue.filter Frame.notExpire = (s.lane b).queue.filter Frame.notExpire ++ fs
  length : (t.lane b).queue.length ≤ (s.lane b).queue.length + n

section
variable {b : Bay} {s t u : State}

theorem told_of_lane (h : t.lane b = s.lane b) (n : Nat) : Told b [] n s t :=
  ⟨by rw [h], by rw [h, List.append_nil], by rw [h]; omega⟩

theorem Told.trans {fs gs : List Frame} {m n : Nat} (h : Told b fs m s t) (k : Told b gs n t u) :
    Told b (fs ++ gs) (m + n) s u := by
  refine ⟨k.state.trans h.state, ?_, ?_⟩
  · rw [k.frames, h.frames, List.append_assoc]
  · have := h.length
    have := k.length
    omega

theorem Told.isReady {fs : List Frame} {n : Nat} (h : Told b fs n s t) : t.isReady b = s.isReady b := by
  rw [State.isReady, h.state]
  rfl

/-- A frame handed to a lane with room, before steps that leave the lane's queue and state. -/
theorem handThen_told {f : Frame} {rest : State → State} (hroom : (s.lane b).queue.length < 32)
    (hrest : ∀ u, ((rest u).lane b).state = (u.lane b).state
      ∧ ((rest u).lane b).queue = (u.lane b).queue) :
    Told b ([f].filter Frame.notExpire) 1 s (handThen b f rest s) := by
  obtain ⟨hstate, hqueue⟩ := hrest (s.putLane b { s.lane b with queue := (s.lane b).queue ++ [f] })
  rw [handThen_of_room hroom]
  rw [State.lane_putLane_self] at hstate hqueue
  exact ⟨hstate, by rw [hqueue, List.filter_append], by rw [hqueue]; simp⟩

theorem sendFrame_told {f : Frame} (hf : f.notExpire = true) (hroom : (s.lane b).queue.length < 32) :
    Told b [f] 1 s (sendFrame b f s) := by
  have h := handThen_told (f := f) hroom (rest := id) fun _ => ⟨rfl, rfl⟩
  rwa [List.filter_cons_of_pos hf] at h

/-- A frame handed on a condition. -/
theorem sendIf_told {f : Frame} (hf : f.notExpire = true) {p : Prop} [Decidable p]
    (hroom : p → (s.lane b).queue.length < 32) :
    Told b (if p then [f] else []) 1 s (if p then sendFrame b f s else s) := by
  by_cases h : p
  · rw [if_pos h, if_pos h]
    exact sendFrame_told hf (hroom h)
  · rw [if_neg h, if_neg h]
    exact told_of_lane rfl 1

/-- An EXPIRE finds room, or a lane that is not READY, which loses it and nothing more. -/
theorem launchOrExpire_told (p : Pos) (hroom : s.isReady b = true → (s.lane b).queue.length < 32) :
    Told b [] 1 s (launchOrExpire b s p) := by
  unfold launchOrExpire
  split
  · exact told_of_lane rfl 1
  · next r _ =>
    have hsteps (u : State) : ((expirySteps b p r u).lane b).state = (u.lane b).state
        ∧ ((expirySteps b p r u).lane b).queue = (u.lane b).queue := by
      rw [expirySteps_lane]
      exact ⟨rfl, rfl⟩
    split
    · exact told_of_lane (s := s) (by rfl) 1
    · split
      · by_cases hfull : (s.lane b).queue.length < 32
        · exact handThen_told (f := .expire r.tag r.launchAt) hfull hsteps
        · have hready : (s.lane b).state ≠ .ready := fun h => hfull (hroom (isReady_iff.mpr h))
          obtain ⟨hstate, hqueue⟩ := hsteps s
          rw [handThen_of_full_unready (not_lt.mp hfull) hready]
          exact ⟨hstate, by rw [hqueue, List.append_nil], by rw [hqueue]; omega⟩
      · exact told_of_lane rfl 1

theorem foldl_launchOrExpire_told (ps : List Pos)
    (hroom : s.isReady b = true → (s.lane b).queue.length + ps.length ≤ 32) :
    Told b [] ps.length s (ps.foldl (launchOrExpire b) s) := by
  induction ps generalizing s with
  | nil => exact told_of_lane rfl 0
  | cons p ps ih =>
    have hlen : (p :: ps).length = ps.length + 1 := rfl
    have hfirst := launchOrExpire_told p fun hready => by
      have := hroom hready
      omega
    have hgrown := hfirst.length
    have hrest := ih (s := launchOrExpire b s p) fun hready => by
      have := hroom (hfirst.isReady ▸ hready)
      omega
    rw [hlen, Nat.add_comm]
    exact hfirst.trans hrest

theorem runDuty_told (changed : Bool) (d : Duty)
    (hroom : s.isReady b = true → (s.lane b).queue.length + dutyFrames b d ≤ 32) :
    Told b (s.dutyTells changed b d) (dutyFrames b d) s (runDuty changed s d) := by
  have hsame : Told b [] (dutyFrames b d) s s := told_of_lane rfl _
  by_cases hbay : dutyBay d = some b
  · cases d with
    | seek c =>
      obtain rfl := Option.some.inj hbay
      rw [dutyFrames, if_pos rfl] at hroom hsame ⊢
      simp only [runDuty]
      split
      · exact foldl_launchOrExpire_told positions hroom
      · exact hsame
    | stream c =>
      refine told_of_lane ?_ _
      simp only [runDuty, burstDuty_eq]
      rfl
    | welcome c =>
      obtain rfl := Option.some.inj hbay
      rw [dutyFrames, if_pos rfl] at hroom hsame ⊢
      simp only [runDuty, welcomeDuty, State.dutyTells, true_and, ← ite_and]
      exact sendIf_told rfl fun h => hroom h.2
    | mark c =>
      obtain rfl := Option.some.inj hbay
      rw [dutyFrames, if_pos rfl] at hroom hsame ⊢
      simp only [runDuty, markDuty, State.dutyTells, true_and, ← ite_and]
      exact sendIf_told rfl fun h => hroom h.2
    | epoch | search => cases hbay
  · have htells : s.dutyTells changed b d = [] := by
      cases d with
      | welcome c | mark c => exact if_neg fun h => hbay (congrArg some h.1)
      | seek | stream | epoch | search => rfl
    rw [htells]
    exact told_of_lane (runDuty_undisturbed changed s hbay).lane _

/-- What a duty tells reads nothing that another duty changes. -/
theorem dutyTells_congr (changed : Bool) (htime : t.time = s.time) (hready : t.isReady b = s.isReady b)
    (hshape : Subsides s t) (d : Duty) : t.dutyTells changed b d = s.dutyTells changed b d := by
  obtain ⟨hburst, hlead⟩ := hshape.shape b
  have hnow : t.now = s.now := congrArg TimeBase.sample htime
  have hwelcome : t.welcomeFrame b = s.welcomeFrame b := by
    rw [State.welcomeFrame, htime, hnow, hburst, hlead]
    rfl
  cases d <;> simp only [State.dutyTells, hready, hnow, hwelcome]

theorem foldl_runDuty_told (changed : Bool) (ds : List Duty)
    (hroom : s.isReady b = true → (s.lane b).queue.length + framesOf b ds ≤ 32) :
    Told b (ds.flatMap (s.dutyTells changed b)) (framesOf b ds) s (ds.foldl (runDuty changed) s) := by
  induction ds generalizing s with
  | nil => exact told_of_lane rfl 0
  | cons d ds ih =>
    rw [framesOf_cons] at hroom ⊢
    have hfirst := runDuty_told (s := s) changed d fun hready => by
      have := hroom hready
      omega
    have hgrown := hfirst.length
    have hrest := ih (s := runDuty changed s d) fun hready => by
      have := hroom (hfirst.isReady ▸ hready)
      omega
    have htells : (runDuty changed s d).dutyTells changed b = s.dutyTells changed b := by
      funext e
      exact dutyTells_congr changed (runDuty_time_history changed s d).1 hfirst.isReady
        (runDuty_subsides s changed d) e
    rw [htells] at hrest
    exact hfirst.trans hrest

end

/-- Of duties taken once each, one alone tells a frame that no other does. -/
theorem count_flatMap_of_one {ds : List Duty} (hnodup : ds.Nodup) {d : Duty} (hd : d ∈ ds)
    {g : Duty → List Frame} {f : Frame} (h : ∀ e, e ≠ d → (g e).count f = 0) :
    (ds.flatMap g).count f = (g d).count f := by
  rw [List.count_flatMap, List.sum_map_eq_nsmul_single d (List.count f ∘ g) fun e he _ => h e he,
    List.count_eq_one_of_mem hnodup hd, one_nsmul]
  rfl

/-- How often a frame other than EXPIRE stands in a lane's queue after the boundary, where one duty alone can
hand it. -/
theorem boundary_count {s : State} {b : Bay} {f : Frame} (hf : f.notExpire = true) (changed : Bool)
    (order : List Duty) (hroom : (s.lane b).state ≠ .ready ∨ s.hasRoom b 6) (d : Duty)
    (hother : ∀ e, e ≠ d → ((boundaryStart s).dutyTells changed b e).count f = 0) :
    ((boundaryDuties changed order s).lane b).queue.count f
      = (s.lane b).queue.count f + ((boundaryStart s).dutyTells changed b d).count f := by
  have hlane := boundaryStart_lane s b
  have htold := foldl_runDuty_told (s := boundaryStart s) (b := b) changed (dutyOrder order) fun hready => by
    rw [dutyOrder_frames, hlane]
    refine hroom.resolve_left fun h => h ?_
    rw [← hlane]
    exact isReady_iff.mp hready
  have hfilter (q : List Frame) : (q.filter Frame.notExpire).count f = q.count f :=
    List.count_filter hf
  show (((dutyOrder order).foldl (runDuty changed) (boundaryStart s)).lane b).queue.count f = _
  rw [← hfilter, htold.frames, List.count_append, hfilter, hlane,
    count_flatMap_of_one (dutyOrder_nodup order) (mem_dutyOrder order d) hother]

/-! ## WELCOME (R48) -/

section
variable {s : State}

theorem slotOpened_time : s.slotOpened.time = (advanceSample s).time := (slotOpened_keeps s).time

theorem slotOpened_isReady (b : Bay) : s.slotOpened.isReady b = s.isReady b := by
  rw [State.isReady, slotOpened_lane]
  rfl

theorem slotOpened_welcomeFrame (b : Bay) : s.slotOpened.welcomeFrame b = .welcome b
    (s.time.pendingDivisor.getD s.time.divisor) (s.now + 1) (s.stream b).burstLen (s.stream b).lead := by
  obtain ⟨hburst, hlead⟩ := boundaryStart_shape (advanceSample s) b
  rw [State.welcomeFrame, slotOpened_time, slotOpened_now, State.slotOpened, hburst, hlead]
  rfl

/-- A duty that is no change of the divisor for the bay's lane tells no WELCOME. -/
theorem dutyTells_no_welcome (b c : Bay) (changed : Bool) (d : Nat) (m : Sample) (n lead : Nat) {e : Duty}
    (h : e = .welcome b → changed = false) :
    (s.dutyTells changed b e).count (.welcome c d m n lead) = 0 := by
  cases e with
  | welcome x =>
    rw [State.dutyTells, if_neg, List.count_nil]
    rintro ⟨rfl, hchanged, -⟩
    rw [h rfl] at hchanged
    cases hchanged
  | mark x =>
    rw [State.dutyTells]
    split <;> simp
  | seek | stream | epoch | search => rfl

end

section
variable {s : State} {b : Bay} (order : List Duty)

theorem boundary_welcome {d : Nat} (hd : s.time.pendingDivisor = some d)
    (hroom : (s.lane b).state ≠ .ready ∨ s.hasRoom b 6) :
    ((boundaryDuties s.time.pendingDivisor.isSome order (advanceSample s)).lane b).queue.count
        (.welcome b d (s.now + 1) (s.stream b).burstLen (s.stream b).lead)
      = (s.lane b).queue.count (.welcome b d (s.now + 1) (s.stream b).burstLen (s.stream b).lead)
        + if s.isReady b then 1 else 0 := by
  refine (boundary_count (s := advanceSample s) rfl _ order hroom (.welcome b) fun e he =>
    dutyTells_no_welcome b b _ _ _ _ _ fun h => absurd h he).trans (congrArg (Nat.add _) ?_)
  have hframe := slotOpened_welcomeFrame (s := s) b
  have hready := slotOpened_isReady (s := s) b
  rw [hd, Option.getD_some] at hframe
  show (s.slotOpened.dutyTells _ b (.welcome b)).count _ = _
  rw [State.dutyTells, hready, hframe, hd]
  by_cases h : s.isReady b = true <;> simp [h]

theorem boundary_no_welcome (hnone : s.time.pendingDivisor = none)
    (hroom : (s.lane b).state ≠ .ready ∨ s.hasRoom b 6) (c : Bay) (d : Nat) (m : Sample) (n lead : Nat) :
    ((boundaryDuties s.time.pendingDivisor.isSome order (advanceSample s)).lane b).queue.count
        (.welcome c d m n lead) = (s.lane b).queue.count (.welcome c d m n lead) := by
  have hunchanged : s.time.pendingDivisor.isSome = false := by rw [hnone]; rfl
  have hcount (e : Duty) := dutyTells_no_welcome (s := s.slotOpened) b c s.time.pendingDivisor.isSome d m n
    lead (e := e) fun _ => hunchanged
  refine (boundary_count (s := advanceSample s) rfl _ order hroom .epoch fun e _ => hcount e).trans ?_
  exact congrArg (Nat.add _) (hcount .epoch)

end

/-! ## The three commands of a boundary (R44, R45, R49) -/

theorem exec_slotStart_eq {s : State} (h : s.slotStartNext = true) (order : List Duty) :
    exec (.slotStart order) s = exec (.sampleBoundary order) s := by
  refine congrArg Host.Outcome.next ?_
  cases hheld : s.pins.resetHeld <;> simp [h]

theorem exec_epochEnd_eq {s : State} (h : s.epochEndNext = true) (order : List Duty) :
    exec (.epochEnd order) s = exec (.sampleBoundary order) s := by
  refine congrArg Host.Outcome.next ?_
  cases hheld : s.pins.resetHeld <;> simp [h]

/-- Settles O7: the clock and the setup by what every duty leaves, WELCOME by the one duty that hands it. -/
theorem boundaryAdvancesTheSample : Obligations.BoundaryAdvancesTheSample := by
  refine ⟨fun s order hheld => ⟨_, exec_sampleBoundary_running hheld order, ?clock⟩,
    fun s order hheld hnothing => ⟨_, exec_sampleBoundary_of_nothing hnothing hheld order, fun b =>
      ⟨fun d hd => ⟨fun hready hroom => ?told, fun hunready => ?untold⟩, fun hnone hroom => ?none⟩⟩,
    fun s order => ⟨fun h => exec_slotStart_eq h order, fun h => ?_, fun h => exec_epochEnd_eq h order,
      fun h => ?_⟩⟩
  case clock =>
    obtain ⟨u, hu, ht⟩ := takeBoundary_config order s
    generalize takeBoundary order s = t at ht
    obtain ⟨a, e, n, d, hstore⟩ := hu.store
    obtain ⟨a', e', n', d', htstore⟩ := ht.store
    refine ⟨?_, ht.settings.trans hu.settings, ht.acc.trans hu.acc, ht.port.trans hu.port,
      ht.pins.trans hu.pins, ?_⟩
    · rw [ht.time, ← hu.time]
      rfl
    · have hkept : (advanceSample u).store = u.store := rfl
      rw [htstore, hkept, hstore]
  case told =>
    rw [boundary_welcome order hd (.inr hroom), if_pos (isReady_iff.mpr hready)]
  case untold =>
    rw [boundary_welcome order hd (.inl hunready), if_neg (mt isReady_iff.mp hunready), Nat.add_zero]
  case none => exact boundary_no_welcome order hnone hroom
  · exact congrArg Host.Outcome.next (if_neg (by simp [h]))
  · exact congrArg Host.Outcome.next (if_neg (by simp [h]))

end Sys2Proof.Machine
end

section
/-! PROOF. A slot start (SlotStartMarksAndRecycles): the frames by what one duty hands, the recycled row by
what no duty raises, and the search start by what no other duty of a calm slot start changes. -/

namespace Sys2Proof.Machine

/-! ## MARK (R57) -/

theorem dutyTells_no_mark {s : State} (b : Bay) (changed : Bool) (m : Sample) {e : Duty} (h : e ≠ .mark b) :
    (s.dutyTells changed b e).count (.mark m) = 0 := by
  cases e with
  | mark c =>
    rw [State.dutyTells, if_neg, List.count_nil]
    rintro ⟨rfl, -⟩
    exact h rfl
  | welcome c =>
    rw [State.dutyTells, State.welcomeFrame]
    split <;> simp
  | seek | stream | epoch | search => rfl

theorem boundary_mark {s : State} {b : Bay} (order : List Duty) (hslot : s.slotStartNext = true)
    (hroom : (s.lane b).state ≠ .ready ∨ s.hasRoom b 6) (changed : Bool) :
    ((boundaryDuties changed order (advanceSample s)).lane b).queue.count (.mark (s.now + 1))
      = (s.lane b).queue.count (.mark (s.now + 1)) + if s.isReady b then 1 else 0 := by
  refine (boundary_count (s := advanceSample s) rfl changed order hroom (.mark b) fun e he =>
    dutyTells_no_mark b changed _ he).trans (congrArg (Nat.add _) ?_)
  have hstart : isSlotStart s.slotOpened.now = true := by
    rw [slotOpened_now]
    exact hslot
  show (s.slotOpened.dutyTells changed b (.mark b)).count _ = _
  rw [State.dutyTells, slotOpened_isReady, hstart, slotOpened_now]
  by_cases h : s.isReady b = true <;> simp [h]

/-! ## The recycled row (R56) -/

theorem foldl_runDuty_subsides (changed : Bool) (ds : List Duty) (s : State) :
    Subsides s (ds.foldl (runDuty changed) s) :=
  .foldl (fun u d => runDuty_subsides u changed d) ds s

theorem boundary_recycled {s : State} (hslot : s.slotStartNext = true) (hnone : s.rebuild = none)
    (changed : Bool) (order : List Duty) (b : Bay) :
    (boundaryDuties changed order (advanceSample s)).exposureAt b
      (positionOf (slotOf (s.now + 1) + 63)) = 0 := by
  have hopened := slotOpened_exposureAt hslot hnone b (positionOf (slotOf (s.now + 1) + 63))
  rw [if_pos rfl] at hopened
  have hduties := (foldl_runDuty_subsides changed (dutyOrder order) s.slotOpened).trans
    (readRevisions_subsides _)
  exact Nat.le_zero.mp ((hduties.exposure b _).trans hopened.le)

/-! ## What a search start reads (R66 to R72) -/

/-- The runs a search spaces its seek from, position by position (R69). -/
theorem otherRuns_eq (s : State) (b : Bay) (p : Pos) : s.otherRuns b p
    = positions.filterMap fun q => (s.seekAt b q).bind fun r =>
        if q ≠ p ∧ r.state ≠ .posted then r.launch.map fun l => (l, r.runEnd) else none := by
  rw [State.otherRuns, State.liveSeeks, List.filterMap_filterMap]
  refine congrArg (List.filterMap · positions) (funext fun q => ?_)
  cases s.seekAt b q <;> rfl

theorem testedBays_congr {s t : State} (hactive : t.store.active = s.store.active)
    (hsettings : t.settings = s.settings) (hexposure : t.exposure = s.exposure) (src : Bay) :
    t.testedBays src = s.testedBays src := by
  simp only [State.testedBays, State.coeff, State.setting, hactive, hsettings, hexposure]
  rfl

/-- Every try on an entry, the queue, the search and the rebuild as they were. -/
structure SearchStands (s t : State) : Prop where
  tries : ∀ b p, trySeek t b p = trySeek s b p
  queue : t.queue = s.queue
  engine : t.engine = s.engine
  rebuild : t.rebuild = s.rebuild

section
variable {s t u : State}

theorem SearchStands.refl (s : State) : SearchStands s s := ⟨fun _ _ => rfl, rfl, rfl, rfl⟩

theorem SearchStands.trans (h : SearchStands s t) (k : SearchStands t u) : SearchStands s u :=
  ⟨fun b p => (k.tries b p).trans (h.tries b p), k.queue.trans h.queue, k.engine.trans h.engine,
    k.rebuild.trans h.rebuild⟩

/-- What a try reads: the sample, the records, the active table, the settings and the exposure table. -/
theorem trySeek_congr (hnow : t.now = s.now) (hseeks : t.seeks = s.seeks)
    (hactive : t.store.active = s.store.active) (hsettings : t.settings = s.settings)
    (hexposure : t.exposure = s.exposure) (b : Bay) (p : Pos) : trySeek t b p = trySeek s b p := by
  have hseek (q : Pos) : t.seekAt b q = s.seekAt b q := by
    rw [State.seekAt, hseeks]
    rfl
  have hslot : t.slot = s.slot := congrArg slotOf hnow
  have htested := testedBays_congr hactive hsettings hexposure b
  simp only [trySeek, prepareSearch, hseek, otherRuns_eq, hnow, hslot, htested]

theorem SearchStands.of_keeps (h : KeepsSetup s t) (hseeks : t.seeks = s.seeks)
    (hexposure : t.exposure = s.exposure) (hqueue : t.queue = s.queue) (hengine : t.engine = s.engine) :
    SearchStands s t :=
  ⟨trySeek_congr h.now hseeks (congrArg Store.active h.store) h.settings hexposure, hqueue, hengine,
    h.rebuild⟩

end

section
variable {s : State} {b : Bay} {p : Pos} {r : Seek}

/-- A launch changes nothing that a search reads: the seek is granted before and after it. -/
theorem launched_stands (hr : s.seekAt b p = some r) (hstate : r.state = .committed) :
    SearchStands s (s.putSeek b p (some { r with state := .running })) := by
  refine ⟨fun c q => ?_, rfl, rfl, rfl⟩
  have hseek (q : Pos) (hq : ¬ (b = c ∧ p = q)) :
      (s.putSeek b p (some { r with state := .running })).seekAt c q = s.seekAt c q := by
    rw [State.seekAt_putSeek, if_neg hq]
  have hruns : (s.putSeek b p (some { r with state := .running })).otherRuns c q = s.otherRuns c q := by
    rw [otherRuns_eq, otherRuns_eq]
    refine congrArg (List.filterMap · positions) (funext fun x => ?_)
    by_cases hx : b = c ∧ p = x
    · obtain ⟨rfl, rfl⟩ := hx
      rw [State.seekAt_putSeek, if_pos ⟨rfl, rfl⟩, hr]
      simp [hstate]
      rfl
    · rw [hseek x hx]
  have htested : (s.putSeek b p (some { r with state := .running })).testedBays c = s.testedBays c :=
    testedBays_congr rfl rfl rfl c
  unfold trySeek prepareSearch
  rw [hruns, htested]
  by_cases hq : b = c ∧ p = q
  · obtain ⟨rfl, rfl⟩ := hq
    rw [State.seekAt_putSeek, if_pos ⟨rfl, rfl⟩, hr]
    rfl
  · rw [hseek q hq]
    rfl

theorem launchOrExpire_stands (h : s.NoExpiry b p) : SearchStands s (launchOrExpire b s p)
    ∧ ∀ q, s.NoExpiry b q → (launchOrExpire b s p).NoExpiry b q := by
  cases hr : s.seekAt b p with
  | none =>
    rw [launchOrExpire_none hr]
    exact ⟨.refl s, fun _ hq => hq⟩
  | some r =>
    by_cases hcommitted : r.launch = some s.slot ∧ r.state = .committed
    · rw [launchOrExpire_committed hr hcommitted.1 hcommitted.2]
      refine ⟨launched_stands hr hcommitted.2, fun q hq x hx hstate => ?_⟩
      rw [State.seekAt_putSeek] at hx
      split at hx
      · obtain rfl := Option.some.inj hx
        cases hstate
      · exact hq x hx hstate
    · rw [launchOrExpire_other hr fun hl => ⟨fun hs => hcommitted ⟨hl, hs⟩, fun hs => h r hr hs hl⟩]
      exact ⟨.refl s, fun _ hq => hq⟩

theorem foldl_launchOrExpire_stands (ps : List Pos) (h : ∀ q, s.NoExpiry b q) :
    SearchStands s (ps.foldl (launchOrExpire b) s) := by
  induction ps generalizing s with
  | nil => exact .refl s
  | cons p ps ih =>
    obtain ⟨hstands, hquiet⟩ := launchOrExpire_stands (h p)
    exact hstands.trans (ih fun q => hquiet q (h q))

theorem sendFrame_stands {f : Frame} (hroom : (s.lane b).queue.length + 1 ≤ 32) :
    SearchStands s (sendFrame b f s) := by
  rw [sendFrame, handThen_of_room hroom]
  exact .of_keeps (by constructor <;> rfl) rfl rfl rfl rfl

end

/-! ## A calm slot start -/

/-- With the duties `ds` left to run, no seek expires, no epoch ends and every lane has room. -/
def AllCalm (ds : List Duty) (s : State) : Prop :=
  ∀ b p, Calm b p ds s

section
variable {ds : List Duty} {d : Duty} {s : State}

theorem AllCalm.tail (h : AllCalm (d :: ds) s) (changed : Bool) : AllCalm ds (runDuty changed s d) :=
  fun b p => (h b p).tail changed

theorem AllCalm.noExpiry (h : AllCalm ds s) (b : Bay) (p : Pos) : s.NoExpiry b p := by
  have hnext : ∀ x : Bay, x ≠ x + 1 := by decide
  exact (h (b + 1) p).others b p fun he => hnext b (Prod.mk.inj he).1

theorem AllCalm.runDuty_stands (h : AllCalm (d :: ds) s) (changed : Bool) (hd : d ≠ .search) :
    SearchStands s (runDuty changed s d) := by
  have hcalm := h 0 0
  have hroom (c : Bay) (hc : dutyFrames c d = 1) : (s.lane c).queue.length + 1 ≤ 32 := by
    have := hcalm.room c
    rw [framesOf_cons, hc] at this
    omega
  cases d with
  | seek c =>
    simp only [runDuty, hcalm.slotStart, if_true]
    exact foldl_launchOrExpire_stands positions (h.noExpiry c)
  | stream c =>
    refine .of_keeps (burstDuty_keeps c s) ?_ ?_ ?_ ?_ <;>
      · simp only [runDuty, burstDuty_eq]
        rfl
  | epoch =>
    simp only [runDuty, hcalm.slotStart, if_true]
    rw [advanceEpoch_counts (hcalm.epoch (List.mem_cons_self ..))]
    exact ⟨trySeek_congr rfl rfl rfl rfl rfl, rfl, rfl, rfl⟩
  | search => exact absurd rfl hd
  | welcome c =>
    simp only [runDuty, welcomeDuty]
    split
    · split
      · exact sendFrame_stands (hroom c (if_pos rfl))
      · exact .refl s
    · exact .refl s
  | mark c =>
    simp only [runDuty, markDuty]
    split
    · split
      · exact sendFrame_stands (hroom c (if_pos rfl))
      · exact .refl s
    · exact .refl s

theorem AllCalm.foldl_stands (ds : List Duty) {es : List Duty} {s : State} (h : AllCalm (ds ++ es) s)
    (changed : Bool) (hds : Duty.search ∉ ds) : SearchStands s (ds.foldl (runDuty changed) s)
      ∧ AllCalm es (ds.foldl (runDuty changed) s) := by
  induction ds generalizing s with
  | nil => exact ⟨.refl s, h⟩
  | cons d ds ih =>
    obtain ⟨hd, hds⟩ := not_or.mp (List.mem_cons.not.mp hds)
    obtain ⟨hstands, hcalm⟩ := ih (AllCalm.tail h changed) hds
    exact ⟨(AllCalm.runDuty_stands h changed (Ne.symm hd)).trans hstands, hcalm⟩

end

/-- A search started from the queue and the search that a search start found gives back what it left. -/
theorem searchStart_again {v t : State} (h : SearchStands (searchStart v) t) :
    searchStart ((t.setQueue v.queue).setEngine v.engine) = t := by
  have htry (b : Bay) (p : Pos) :
      trySeek ((t.setQueue v.queue).setEngine v.engine) b p = trySeek v b p := by
    have hstart : trySeek (searchStart v) b p = trySeek v b p := by
      rw [searchStart_eq]
      rfl
    exact (h.tries b p).trans hstart
  have hrebuild : t.rebuild = v.rebuild := h.rebuild.trans (searchStart_keeps v).rebuild
  rw [searchStart_congr htry rfl rfl hrebuild, ← h.queue, ← h.engine]
  rfl

/-- The search's duty is among the others once. -/
theorem dutyOrder_search (order : List Duty) : ∃ ds es, dutyOrder order = ds ++ .search :: es
    ∧ Duty.search ∉ ds ∧ Duty.search ∉ es := by
  obtain ⟨ds, es, horder⟩ := List.append_of_mem (mem_dutyOrder order .search)
  have hnodup := dutyOrder_nodup order
  rw [horder, List.nodup_append, List.nodup_cons] at hnodup
  obtain ⟨-, ⟨hes, -⟩, hdisjoint⟩ := hnodup
  exact ⟨ds, es, horder, fun h => hdisjoint _ h _ (List.mem_cons_self ..) rfl, hes⟩

/-- At a calm slot start the search's duty alone acts on the queue and the search, and the others leave
what it reads. -/
theorem AllCalm.search {s : State} {order : List Duty} (h : AllCalm (dutyOrder order) s) (changed : Bool) :
    ∃ v, SearchStands s v
      ∧ SearchStands (searchStart (clearHolds v)) ((dutyOrder order).foldl (runDuty changed) s) := by
  obtain ⟨ds, es, horder, hds, hes⟩ := dutyOrder_search order
  rw [horder] at h ⊢
  obtain ⟨hbefore, hcalm⟩ := AllCalm.foldl_stands ds h changed hds
  rw [List.foldl_append, List.foldl_cons]
  have hduty : runDuty changed (ds.foldl (runDuty changed) s) .search
      = searchStart (clearHolds (ds.foldl (runDuty changed) s)) := if_pos (hcalm 0 0).slotStart
  have hafter := AllCalm.foldl_stands es (es := [])
    (by rw [List.append_nil]; exact AllCalm.tail hcalm changed) changed hes
  rw [hduty] at hafter ⊢
  exact ⟨_, hbefore, hafter.1⟩

theorem readRevisions_stands (s : State) : SearchStands s (readRevisions s) :=
  .of_keeps (readRevisions_keeps s) rfl rfl rfl rfl

/-- The search start of a calm slot start, read off the state that the slot start leaves. -/
theorem boundary_search {s : State} {order : List Duty} (h : AllCalm (dutyOrder order) s.slotOpened)
    (changed : Bool) :
    let t := boundaryDuties changed order (advanceSample s)
    searchStart ((t.setQueue (s.queue.map fun e => { e with held := false })).setEngine s.engine) = t := by
  obtain ⟨v, hbefore, hafter⟩ := h.search changed
  have hqueue : (clearHolds v).queue = s.queue.map fun e => { e with held := false } := by
    rw [← slotOpened_queue s, ← hbefore.queue]
    rfl
  have hengine : (clearHolds v).engine = s.engine := by
    rw [← slotOpened_engine s, ← hbefore.engine]
    rfl
  have hagain := searchStart_again (hafter.trans (readRevisions_stands _))
  rw [hqueue, hengine] at hagain
  exact hagain

theorem slotOpened_allCalm {s : State} (order : List Duty) (hslot : s.slotStartNext = true)
    (hend : s.epochEndNext = false) (hroom : ∀ c, s.hasRoom c 6)
    (hexpiry : ∀ c q x, s.seekAt c q = some x → x.state = .granted →
      x.launch ≠ some (slotOf (s.now + 1))) : AllCalm (dutyOrder order) s.slotOpened :=
  fun _ _ => slotOpened_calm order hslot hend hroom fun c q x _ => hexpiry c q x

theorem takeBoundary_of_nothing {s : State} (h : NothingOverdue s) (order : List Duty) :
    takeBoundary order s = boundaryDuties s.time.pendingDivisor.isSome order (advanceSample s) := by
  rw [takeBoundary, completeOverdue_of_nothing h]

/-- Settles O11: MARK by the one duty that hands it, the row by what no duty raises, the search by what the
other duties leave. -/
theorem slotStartMarksAndRecycles : Obligations.SlotStartMarksAndRecycles := by
  refine fun s order hheld hslot => ⟨_, exec_slotStart_taken hheld order hslot,
    fun hnothing b hready hroom => ?marked, fun hnothing b hunready => ?unmarked, fun hnone b => ?recycled,
    fun hnothing hend hroom hexpiry => ?search⟩
  case marked =>
    rw [takeBoundary_of_nothing hnothing, boundary_mark order hslot (.inr hroom),
      if_pos (isReady_iff.mpr hready)]
  case unmarked =>
    rw [takeBoundary_of_nothing hnothing, boundary_mark order hslot (.inl hunready),
      if_neg (mt isReady_iff.mp hunready), Nat.add_zero]
  case recycled =>
    have hover := completeOverdue_keeps (rebuildYoung_of_none hnone) order
    have hnow := hover.now
    unfold takeBoundary
    dsimp only
    generalize completeOverdue order s = u at hover hnow
    have hnext : u.slotStartNext = true := by
      rw [State.slotStartNext, hnow]
      exact hslot
    rw [← hnow]
    exact boundary_recycled hnext (hover.rebuild.trans hnone) _ order b
  case search =>
    rw [takeBoundary_of_nothing hnothing]
    exact congrArg Host.Outcome.next
      (boundary_search (slotOpened_allCalm order hslot hend hroom hexpiry) _)

end Sys2Proof.Machine
end

section
/-! PROOF. What an event leaves of the Arbiter. Every operation but the intake of a notice and the boundary's
own start is a sequence of moves that put nothing into the queue, and no operation leaves a search waiting that
could start: each that frees the engine, ends a rebuild or clears a hold ends with a search start (R64, R66,
R71, R77, R78, R79). -/

namespace Sys2Proof.Machine

/-! ## Quiet moves -/

/-- A move that puts no entry into the queue: any but the intake of a notice. -/
def QuietMove (s t : State) : Prop :=
  Move s t ∧ t.queue.length ≤ s.queue.length

/-- Quiet moves, one after another. -/
def QuietMoves : State → State → Prop :=
  Relation.ReflTransGen QuietMove

/-- Quiet moves after which every entry is held that could start a search, where it was so before. -/
structure Orderly (s t : State) : Prop where
  moves : QuietMoves s t
  eager : EngineEager s → EngineEager t

/-- Quiet moves after which every entry is held that could start a search, whatever was before. -/
structure Settles (s t : State) : Prop where
  moves : QuietMoves s t
  eager : EngineEager t

section
variable {s t u : State}

theorem QuietMoves.refl : QuietMoves s s := Relation.ReflTransGen.refl

theorem QuietMoves.trans (h : QuietMoves s t) (k : QuietMoves t u) : QuietMoves s u :=
  Relation.ReflTransGen.trans h k

theorem QuietMove.moves (h : QuietMove s t) : QuietMoves s t := Relation.ReflTransGen.single h

theorem QuietMoves.foldl {α : Type} {f : State → α → State} (h : ∀ s x, QuietMoves s (f s x))
    (xs : List α) (s : State) : QuietMoves s (xs.foldl f s) := by
  induction xs generalizing s with
  | nil => exact .refl
  | cons x xs ih => exact (h s x).trans (ih _)

/-- What every quiet move keeps, every sequence of them keeps. -/
theorem QuietMoves.keeps {P : State → Prop} (hP : ∀ s t, QuietMove s t → P s → P t)
    (h : QuietMoves s t) (hs : P s) : P t := by
  induction h with
  | refl => exact hs
  | tail _ k ih => exact hP _ _ k ih

theorem QuietMoves.any (h : QuietMoves s t) : Moves s t :=
  h.keeps (P := Moves s) (fun _ _ hmove hs => hs.then hmove.1) .refl

/-- The law reads the queue, the engine and the rebuild; a rebuild that runs bars every start (R66). -/
theorem EngineEager.of (hs : EngineEager s) (hqueue : t.queue = s.queue) (hengine : t.engine = s.engine)
    (hrebuild : t.rebuild = s.rebuild ∨ t.rebuild ≠ none) : EngineEager t := by
  intro he hr
  rw [hqueue]
  exact hs (hengine ▸ he) (hrebuild.resolve_right (not_not.mpr hr) ▸ hr)

theorem engineEager_of_rebuilding (h : s.rebuild ≠ none) : EngineEager s :=
  fun _ hr => absurd hr h

/-- A move that leaves the queue and the engine, and ends no rebuild. -/
theorem Move.orderly (h : Move s t) (hqueue : t.queue = s.queue) (hengine : t.engine = s.engine)
    (hrebuild : t.rebuild = s.rebuild ∨ t.rebuild ≠ none) : Orderly s t :=
  ⟨QuietMove.moves ⟨h, by rw [hqueue]⟩, fun hs => hs.of hqueue hengine hrebuild⟩

theorem SameCalendar.orderly (h : SameCalendar s t) : Orderly s t :=
  (Move.same h).orderly h.queue h.engine (.inl h.rebuild)

theorem Orderly.refl : Orderly s s := ⟨.refl, id⟩

theorem Orderly.trans (h : Orderly s t) (k : Orderly t u) : Orderly s u :=
  ⟨h.moves.trans k.moves, k.eager ∘ h.eager⟩

theorem Orderly.same (h : Orderly s t) (k : SameCalendar t u) : Orderly s u := h.trans k.orderly

theorem Orderly.ite {p : Prop} [Decidable p] (h : p → Orderly s t) (k : ¬p → Orderly s u) :
    Orderly s (if p then t else u) := by
  split
  · exact h ‹_›
  · exact k ‹_›

theorem Orderly.foldl {α : Type} {f : State → α → State} (h : ∀ s x, Orderly s (f s x))
    (xs : List α) (s : State) : Orderly s (xs.foldl f s) := by
  induction xs generalizing s with
  | nil => exact .refl
  | cons x xs ih => exact (h s x).trans (ih _)

theorem Settles.orderly (h : Settles s t) : Orderly s t := ⟨h.moves, fun _ => h.eager⟩

theorem Settles.then (h : Settles s t) (k : Orderly t u) : Settles s u :=
  ⟨h.moves.trans k.moves, k.eager h.eager⟩

theorem Settles.same (h : Settles s t) (k : SameCalendar t u) : Settles s u := h.then k.orderly

theorem QuietMoves.settles (h : QuietMoves s t) (k : Settles t u) : Settles s u :=
  ⟨h.trans k.moves, k.eager⟩

theorem Settles.ite {p : Prop} [Decidable p] (h : p → Settles s t) (k : ¬p → Settles s u) :
    Settles s (if p then t else u) := by
  split
  · exact h ‹_›
  · exact k ‹_›

end

/-! ## The moves that are quiet -/

section
variable {s : State}

theorem rehold_quiet {q : List QueueEntry}
    (h : (q.map fun e => (e.bay, e.pos)) = s.queue.map fun e => (e.bay, e.pos)) :
    QuietMove s (s.setQueue q) := by
  refine ⟨.rehold q h, ?_⟩
  have hlength := congrArg List.length h
  rw [List.length_map, List.length_map] at hlength
  exact hlength.le

theorem idle_quiet : QuietMove s (s.setEngine none) := ⟨.idle, le_rfl⟩

theorem release_quiet {b : Bay} {p : Pos} {r : Seek} (h : s.seekAt b p = some r)
    (hstate : r.state = .posted) : QuietMove s (abandonSearch b p (dequeue b p (s.putSeek b p none))) := by
  refine ⟨.release b p r h hstate, ?_⟩
  rw [abandonSearch_eq]
  exact List.length_filter_le ..

theorem withdraw_orderly {b : Bay} {p : Pos} {r : Seek} (h : s.seekAt b p = some r)
    (hstate : r.state ≠ .posted) : Orderly s (removeExposure b r (s.putSeek b p none)) := by
  refine (Move.withdraw b p r h hstate).orderly ?_ ?_ (.inl ?_) <;> rw [removeExposure_eq] <;> rfl

theorem grant_quiet {sr : Search} {r : Seek} {c : Slot} {o : Bool} (hsr : s.engine = some sr)
    (h : s.seekAt sr.bay sr.pos = some r) (hc : chooseSlot sr = some (c, o))
    (hnear : atOrBefore (s.slot + 2) c = true) :
    QuietMove s (addExposure sr.bay (grantedSeek r c o) ((dequeue sr.bay sr.pos
      (s.putSeek sr.bay sr.pos (some (grantedSeek r c o)))).setEngine none)) := by
  refine ⟨.grant sr r c o hsr h hc hnear, ?_⟩
  rw [addExposure, changeExposure_eq]
  exact List.length_filter_le ..

theorem confirm_orderly {b : Bay} {p : Pos} {r : Seek} (h : s.seekAt b p = some r)
    (hstate : r.state = .granted) :
    Orderly s (s.putSeek b p (some { r with state := .committed })) :=
  (Move.confirm b p r h hstate).orderly rfl rfl (.inl rfl)

theorem launch_orderly {b : Bay} {p : Pos} {r : Seek} (h : s.seekAt b p = some r)
    (hstate : r.state = .committed) (hlaunch : r.launch = some s.slot)
    (hstart : isSlotStart s.now = true) :
    Orderly s (s.putSeek b p (some { r with state := .running })) :=
  (Move.launch b p r h hstate hlaunch hstart).orderly rfl rfl (.inl rfl)

theorem cut_orderly {b : Bay} {p : Pos} {r : Seek} (h : s.seekAt b p = some r)
    (hstate : r.state = .running) (hcut : r.abortIndex = none) :
    Orderly s (replaceExposure b r (recompileCut r (cutIndex s.now r))
      (s.putSeek b p (some (recompileCut r (cutIndex s.now r))))) := by
  refine (Move.cut b p r h hstate hcut).orderly ?_ ?_ (.inl ?_) <;> rw [replaceExposure_eq] <;> rfl

theorem recommit_orderly (x : Store) : Orderly s ((s.setStore x).setRebuild (some s.now)) :=
  (Move.recommit x).orderly rfl rfl (.inr (Option.some_ne_none _))

end

/-! ## The shared operations -/

section
variable (b : Bay) (s : State)

/-- Whatever waited, a search start leaves every entry held that could start a search (R66). -/
theorem searchStart_eager : EngineEager (searchStart s) := by
  unfold searchStart
  split
  · exact fun hnone _ => scanQueue_none s s.queue hnone
  · next hbarred =>
    intro he hr
    exact absurd ⟨by simp [he], by simp [hr]⟩ hbarred

theorem searchStart_settles : Settles s (searchStart s) := by
  refine ⟨?_, searchStart_eager s⟩
  unfold searchStart
  split
  · have hengine : QuietMove s (s.setEngine (scanQueue s s.queue).2) := by
      cases h : (scanQueue s s.queue).2 with
      | none => exact idle_quiet
      | some sr =>
        obtain ⟨e, he, -, htry⟩ := scanQueue_some s s.queue sr h
        have hplace := List.mem_map_of_mem (f := fun e => (e.bay, e.pos)) he
        exact ⟨.search _ _ sr htry (.inl hplace), le_rfl⟩
    have hholds := rehold_quiet (s := s.setEngine (scanQueue s s.queue).2) (scanQueue_places s s.queue)
    exact hengine.moves.trans hholds.moves
  · exact .refl

theorem freeSeek_quiet (p : Pos) : QuietMoves s (freeSeek b s p) := by
  cases h : s.seekAt b p with
  | none =>
    rw [freeSeek_of_none s b p h]
    exact .refl
  | some r =>
    simp only [freeSeek, h]
    split
    · next hstate => exact (release_quiet h hstate).moves
    · next hstate => exact ((withdraw_orderly h hstate).same (forecastChange_same_calendar ..)).moves

theorem stopped_quiet : QuietMoves s (stopStream b (freeBay b s)) :=
  (QuietMoves.foldl (freeSeek_quiet b) positions s).trans (putStream_same_calendar b _ _).orderly.moves

theorem releaseBay_settles : Settles s (releaseBay b s) :=
  (stopped_quiet b s).settles (searchStart_settles _)

theorem faultLane_settles : Settles s (faultLane b s) :=
  ((putLane_same_calendar b s _).trans (raiseCause_same_calendar b _ .laneFault)).orderly.moves.settles
    (releaseBay_settles b _)

theorem handThen_orderly (f : Frame) {rest : State → State}
    (hrest : ∀ u, SameCalendar s u → Orderly u (rest u)) : Orderly s (handThen b f rest s) := by
  have hhand := handFrame_same_calendar b s f
  exact .ite (fun _ => (hrest s (.refl s)).trans (faultLane_settles ..).orderly) fun _ =>
    hhand.orderly.trans (hrest _ hhand)

theorem handThen_settles (f : Frame) {rest : State → State}
    (hrest : ∀ u, SameCalendar s u → Settles u (rest u)) : Settles s (handThen b f rest s) := by
  have hhand := handFrame_same_calendar b s f
  exact .ite (fun _ => (hrest s (.refl s)).then (faultLane_settles ..).orderly) fun _ =>
    hhand.orderly.moves.settles (hrest _ hhand)

theorem sendFrame_orderly (f : Frame) : Orderly s (sendFrame b f s) :=
  handThen_orderly b s f fun _ _ => .refl

theorem refuse_orderly (tag : Option Tag) (why : Reason) (kind : Byte) :
    Orderly s (refuse b tag why kind s) := sendFrame_orderly ..

end

/-! ## Completions -/

theorem grantSteps_settles {s : State} {sr : Search} {r : Seek} {c : Slot} {o : Bool}
    (hsr : s.engine = some sr) (h : s.seekAt sr.bay sr.pos = some r) (hc : chooseSlot sr = some (c, o))
    (hnear : atOrBefore (s.slot + 2) c = true) :
    Settles s (grantSteps sr.bay sr.pos (grantedSeek r c o) s) := by
  have hpublished := forecastChange_same_calendar sr.bay (addExposure sr.bay (grantedSeek r c o)
    ((dequeue sr.bay sr.pos (s.putSeek sr.bay sr.pos (some (grantedSeek r c o)))).setEngine none))
    (grantedSeek r c o).launchAt (lastOf (grantedSeek r c o).launchAt (grantedSeek r c o).tailEnd)
  have hraised := SameCalendar.ite (p := ((grantedSeek r c o).markers.getD ⟨false, false⟩).overLimit
      || ((grantedSeek r c o).markers.getD ⟨false, false⟩).delayed)
    (hpublished.trans (raiseCause_same_calendar sr.bay _ .forcedGrant)) hpublished
  exact ((grant_quiet hsr h hc hnear).moves.trans hraised.orderly.moves).settles (searchStart_settles _)

/-- A search prepared anew leaves the engine at work; a hold is followed by a search start; a rebuild bars
one (R71, R76, R79). -/
theorem rerunSearch_settles {s : State} {sr : Search} (hsr : s.engine = some sr) :
    Settles s (rerunSearch sr.bay sr.pos s) := by
  unfold rerunSearch
  split
  · next hrebuild =>
    refine ⟨idle_quiet.moves, engineEager_of_rebuilding fun hnone => ?_⟩
    rw [show s.rebuild = none from hnone] at hrebuild
    cases hrebuild
  · split
    · next x hx =>
      exact ⟨QuietMove.moves ⟨.search _ _ x hx (.inr ⟨sr, hsr, rfl, rfl⟩), le_rfl⟩, fun h _ => nomatch h⟩
    · have hheld : QuietMove s (holdEntry sr.bay sr.pos s) := by
        refine rehold_quiet ?_
        rw [List.map_map]
        refine List.map_congr_left fun e _ => ?_
        rw [Function.comp_apply]
        split <;> rfl
      exact (hheld.moves.trans idle_quiet.moves).settles (searchStart_settles _)

theorem completeSearch_orderly (s : State) : Orderly s (completeSearch s) := by
  unfold completeSearch
  split
  · exact .refl
  · next sr hsr =>
    refine Settles.orderly ?_
    split
    · next r c o hr hc =>
      refine .ite (fun hnear => Settles.same (handThen_settles _ _ _ fun u hu => ?_)
        (readRevisions_same_calendar _)) fun _ => rerunSearch_settles hsr
      exact grantSteps_settles (hu.engine.trans hsr) ((hu.seekAt _ _).trans hr) hc (by rwa [hu.slot])
    · exact idle_quiet.moves.settles (searchStart_settles _)

theorem takeCommit_orderly (s : State) : Orderly s (takeCommit s) := by
  unfold takeCommit
  exact .ite (fun _ => .refl) fun _ => recommit_orderly _

theorem takeDueCommit_orderly (s : State) : Orderly s (takeDueCommit s) := by
  unfold takeDueCommit
  exact .ite (fun _ => (setStore_same_calendar s (by rfl)).orderly.trans (takeCommit_orderly _)) fun _ =>
    .refl

/-- Whichever is first, the search start and the due commit leave no search waiting that could start: a
rebuild that the commit starts bars one (R79, R127). -/
theorem completeRebuild_orderly (x : Bool) (s : State) : Orderly s (completeRebuild x s) := by
  have hrebuilt : QuietMove s ((recomputeExposure s).setRebuild none) := ⟨.rebuilt, le_rfl⟩
  have hwritten : QuietMoves s (raiseCause .rebuilt 0 ((recomputeExposure s).setRebuild none)) :=
    hrebuilt.moves.trans (raiseCause_same_calendar ..).orderly.moves
  unfold completeRebuild
  refine .ite (fun _ => .refl) fun _ => Settles.orderly (.ite (fun _ => ?_) fun _ => ?_)
  · exact (hwritten.settles (searchStart_settles _)).then (takeDueCommit_orderly _)
  · exact (hwritten.trans (takeDueCommit_orderly _).moves).settles (searchStart_settles _)

theorem completeBurst_orderly (b : Bay) (s : State) : Orderly s (completeBurst b s) := by
  unfold completeBurst
  split
  · exact .refl
  · exact (handThen_orderly _ _ _ fun u _ => (putStream_same_calendar b u _).orderly).same
      (readRevisions_same_calendar _)

theorem completeRevision_orderly (b : Bay) (m : Sample) (s : State) :
    Orderly s (completeRevision b m s) := by
  unfold completeRevision
  split
  · exact .refl
  · exact (handThen_orderly _ _ _ fun u _ => (putStream_same_calendar b u _).orderly).same
      (readRevisions_same_calendar _)

/-! ## A boundary -/

theorem completeOverdue_orderly (order : List Duty) (s : State) : Orderly s (completeOverdue order s) := by
  have hburst (s : State) (b : Bay) : Orderly s (overdueBurst s b) := by
    unfold overdueBurst
    split
    · exact .ite (fun _ => .refl) fun _ => completeBurst_orderly ..
    · exact .refl
  have hrevisions (s : State) (b : Bay) : Orderly s (overdueRevisions s b) :=
    .foldl (fun u m => completeRevision_orderly b m u) _ _
  have hsearch (s : State) : Orderly s (overdueSearch s) := by
    unfold overdueSearch
    split
    · exact .ite (fun _ => completeSearch_orderly s) fun _ => .refl
    · exact .refl
  have hrebuild (s : State) : Orderly s (overdueRebuild order s) := by
    unfold overdueRebuild
    split
    · exact .ite (fun _ => completeRebuild_orderly ..) fun _ => .refl
    · exact .refl
  exact (((Orderly.foldl hburst bays s).trans (.foldl hrevisions bays _)).trans (hsearch _)).trans
    (hrebuild _)

theorem expirySteps_orderly {b : Bay} {p : Pos} {r : Seek} {s : State} (h : s.seekAt b p = some r)
    (hstate : r.state = .granted) : Orderly s (expirySteps b p r s) := by
  have hlane := putLane_same_calendar b (s.putSeek b p none) { s.lane b with lastExpired := some r.tag }
  exact (((withdraw_orderly h (by simp [hstate])).same (hlane.removeExposure b r)).same
    (forecastChange_same_calendar ..)).same (raiseCause_same_calendar ..)

theorem launchOrExpire_orderly {s : State} (hstart : isSlotStart s.now = true) (b : Bay) (p : Pos) :
    Orderly s (launchOrExpire b s p) := by
  unfold launchOrExpire
  split
  · exact .refl
  · next r hr =>
    refine .ite (fun h => launch_orderly hr h.2 h.1 hstart) fun _ => .ite (fun h => ?_) fun _ => .refl
    exact handThen_orderly _ _ _ fun u hu => expirySteps_orderly ((hu.seekAt b p).trans hr) h.2

theorem foldl_launchOrExpire_orderly {s : State} (hstart : isSlotStart s.now = true) (b : Bay)
    (ps : List Pos) : Orderly s (ps.foldl (launchOrExpire b) s) := by
  induction ps generalizing s with
  | nil => exact .refl
  | cons p ps ih =>
    refine (launchOrExpire_orderly hstart b p).trans (ih ?_)
    rw [(launchOrExpire_keeps b s p).now]
    exact hstart

theorem advanceEpoch_orderly (s : State) : Orderly s (advanceEpoch s) := by
  unfold advanceEpoch
  exact .ite (fun _ => (setStore_same_calendar s (by rfl)).orderly) fun _ =>
    .ite (fun _ => (setStore_same_calendar s (by rfl)).orderly) fun _ =>
      (setStore_same_calendar s (by rfl)).orderly.trans (takeCommit_orderly _)

theorem clearHolds_quiet (s : State) : QuietMove s (clearHolds s) :=
  rehold_quiet (by rw [List.map_map]; rfl)

theorem runDuty_orderly (changed : Bool) (s : State) (d : Duty) : Orderly s (runDuty changed s d) := by
  cases d with
  | seek b => exact .ite (fun h => foldl_launchOrExpire_orderly h b positions) fun _ => .refl
  | stream b => exact (burstDuty_same_calendar b s).orderly
  | epoch => exact .ite (fun _ => advanceEpoch_orderly s) fun _ => .refl
  | search =>
    have hsearch := (clearHolds_quiet s).moves.settles (searchStart_settles _)
    exact .ite (fun _ => hsearch.orderly) fun _ => .refl
  | welcome b => exact .ite (fun _ => .ite (fun _ => sendFrame_orderly ..) fun _ => .refl) fun _ => .refl
  | mark b => exact .ite (fun _ => .ite (fun _ => sendFrame_orderly ..) fun _ => .refl) fun _ => .refl

/-- The duties of a boundary, with the values that its revisions read. -/
theorem duties_orderly (changed : Bool) (order : List Duty) (s : State) :
    Orderly s (readRevisions ((dutyOrder order).foldl (runDuty changed) s)) :=
  (Orderly.foldl (runDuty_orderly changed) (dutyOrder order) s).same (readRevisions_same_calendar _)

theorem boundaryStart_eager {s : State} (hs : EngineEager s) : EngineEager (boundaryStart s) := by
  refine hs.of ?_ ?_ (.inl ?_) <;> rw [boundaryStart_exposed] <;> rfl

theorem takeBoundary_eager (order : List Duty) {s : State} (hs : EngineEager s) :
    EngineEager (takeBoundary order s) := by
  have hover := (completeOverdue_orderly order s).eager hs
  unfold takeBoundary
  dsimp only
  generalize completeOverdue order s = u at hover
  have hadvanced : EngineEager (advanceSample u) := hover.of rfl rfl (.inl rfl)
  exact (duties_orderly _ order _).eager (boundaryStart_eager hadvanced)

/-! ## Lane events -/

section
variable (b : Bay) (s : State)

theorem loseDrive_orderly : Orderly s (loseDrive b s) := by
  have hlost : SameCalendar s (raiseCause .depart b
      (s.putLane b { movedLane (s.lane b) .absent with caps := none })) :=
    (putLane_same_calendar b s _).trans (raiseCause_same_calendar ..)
  exact Orderly.same (.ite (fun _ => hlost.orderly.trans (releaseBay_settles ..).orderly) fun _ =>
    hlost.orderly) (refreshStream_same_calendar b _)

theorem admitDrive_orderly (caps : Caps) : Orderly s (admitDrive b caps s) :=
  ((putLane_same_calendar b s _).trans (refreshStream_same_calendar b _)).orderly.trans
    (sendFrame_orderly ..)

theorem restartDrive_settles (caps : Caps) : Settles s (restartDrive b caps s) :=
  (((putLane_same_calendar b s _).orderly.moves.trans (stopped_quiet b _)).trans
    (admitDrive_orderly b _ caps).moves).settles (searchStart_settles _)

theorem takeHello_orderly (payload : List Byte) : Orderly s (takeHello b payload s) :=
  .ite (fun _ => refuse_orderly ..) fun _ =>
    .ite (fun _ => (restartDrive_settles ..).orderly) fun _ => admitDrive_orderly ..

theorem takeCommitTag_orderly (tag : Tag) : Orderly s (takeCommitTag b tag s) := by
  unfold takeCommitTag
  split
  · next p r hfind =>
    have hr := (findTag_some hfind).1
    split
    · next hstate =>
      exact handThen_orderly _ _ _ fun u hu => confirm_orderly ((hu.seekAt b p).trans hr) hstate
    · exact refuse_orderly ..
    all_goals exact sendFrame_orderly ..
  · exact .ite (fun _ => sendFrame_orderly ..) fun _ => refuse_orderly ..

theorem cutSeek_orderly {p : Pos} {r : Seek} (h : s.seekAt b p = some r) (hstate : r.state = .running)
    (hcut : r.abortIndex = none) : Orderly s (cutSeek b p r s) := by
  have hmove := cut_orderly h hstate hcut
  exact .ite (fun _ => hmove.same (forecastChange_same_calendar ..)) fun _ => hmove

theorem takeAbortTag_orderly (tag : Tag) : Orderly s (takeAbortTag b tag s) := by
  unfold takeAbortTag
  split
  · next p r hfind =>
    have hr := (findTag_some hfind).1
    have hwithdraw (h : r.state ≠ .posted) :
        Orderly s (publishWhole b r (removeExposure b r (s.putSeek b p none))) :=
      (withdraw_orderly hr h).same (forecastChange_same_calendar ..)
    split
    · next hstate => exact ((release_quiet hr hstate).moves.settles (searchStart_settles _)).orderly
    · next hstate => exact hwithdraw (by simp [hstate])
    · next hstate => exact hwithdraw (by simp [hstate])
    · next hstate =>
      exact .ite (fun _ => .refl) fun hcut => cutSeek_orderly b s hr hstate (by simpa using hcut)
    · exact .refl
  · exact refuse_orderly ..

theorem takeReport_orderly (payload : List Byte) : Orderly s (takeReport b payload s) := by
  unfold takeReport
  refine .ite (fun _ => refuse_orderly ..) fun _ => (SameCalendar.foldl (fun u x => ?_) _ s).orderly
  exact .ite (.foldl (fun v src => .ite (.refl v) (moveAcc_same_calendar ..)) _ u) (.refl u)

theorem receiveFrame_orderly (kind : Byte) (len : Option Nat) (payload : List Byte)
    {take : State → State} (h : Orderly (goodFrame b s) (take (goodFrame b s))) :
    Orderly s (receiveFrame b kind len payload take s) := by
  have hgood := (goodFrame_same_calendar b s).orderly
  exact .ite (fun _ => .refl) fun _ => .ite (fun _ => hgood.trans (refuse_orderly ..)) fun _ =>
    .ite (fun _ => hgood.trans h) fun _ => hgood.trans (refuse_orderly ..)

end

/-! ## Requests -/

section
variable (b : Bay) (s : State)

theorem enableRequest_same_calendar (w : SettingFields) : SameCalendar s (enableRequest b w s) :=
  .ite (answer_same_calendar ..) (((writeSetting_same_calendar b s _).trans
    (startStream_same_calendar b _)).trans (answer_same_calendar ..))

theorem haltStream_orderly : Orderly s (haltStream b s) := by
  unfold haltStream
  dsimp only
  split
  · exact .refl
  · exact handThen_orderly _ _ _ fun u _ => (putStream_same_calendar b u _).orderly
  · refine handThen_orderly _ _ _ fun u _ => SameCalendar.orderly ?_
    have hdrain := putStream_same_calendar b u (drainingStream (u.stream b))
    exact .ite ((hdrain.trans (putStream_same_calendar b _ _)).trans (raiseCause_same_calendar ..)) hdrain
  · exact .refl

theorem disableRequest_orderly (w : SettingFields) : Orderly s (disableRequest b w s) :=
  .ite (fun _ => (answer_same_calendar ..).orderly) fun _ =>
    (((writeSetting_same_calendar b s _).orderly.trans (haltStream_orderly b _)).same
      (readRevisions_same_calendar _)).same (answer_same_calendar ..)

theorem hubWriteRequest_same_calendar (divisor : BitVec 16) (code : Byte) :
    SameCalendar s (hubWriteRequest divisor code s) := by
  have hdivisor : SameCalendar s (writeDivisor (takeDivisor divisor) s) :=
    setTime_same_calendar s (by rfl)
  exact .ite (answer_same_calendar ..) (.trans (.ite hdivisor
    (hdivisor.trans (setStore_same_calendar _ (by rfl)))) (answer_same_calendar ..))

theorem thawRequest_orderly : Orderly s (thawRequest s) := by
  unfold thawRequest
  refine .ite (fun _ => (answer_same_calendar ..).orderly) fun _ => .ite (fun _ => ?_) fun _ => ?_
  · have hload : Orderly s (loadSnapshot s) := (recommit_orderly (s := s) _).same
      (t := (s.setStore _).setRebuild _) (by constructor <;> rfl)
    exact hload.same (answer_same_calendar ..)
  · exact ((setStore_same_calendar s (by rfl)).trans (answer_same_calendar ..)).orderly

theorem resetBay_settles : Settles s (resetBay b s) := by
  have hfreed := (putLane_same_calendar b s (resetLane (s.lane b))).orderly.moves.trans (stopped_quiet b _)
  have hcleared (u : State) : SameCalendar u (refreshStream b (clearRow b (clearHistory b u))) :=
    ((clearHistory_same_calendar b u).trans (clearRow_same_calendar b _)).trans
      (refreshStream_same_calendar b _)
  exact Settles.same ((hfreed.trans (hcleared _).orderly.moves).settles (searchStart_settles _))
    (readRevisions_same_calendar _)

end

/-! ## A whole command -/

/-- The state with the record of an accepted notice placed and queued (R13, R64). -/
def State.queued (s : State) (b : Bay) (p : Pos) (n : Notice) : State :=
  (s.putSeek b p (some (noticeSeek s b n))).setQueue (s.queue ++ [{ bay := b, pos := p, held := false }])

/-- The whole of what one command can do to the Arbiter. -/
inductive ArbiterEvent (s : State) : State → Prop
  | orderly {t : State} (h : Orderly s t) : ArbiterEvent s t
  /-- A notice is accepted, and a search is started where one can be (R4, R13, R64, R66). -/
  | notice {u t : State} (b : Bay) (p : Pos) (n : Notice) (payload : List Byte) (h : SameCalendar s u)
      (hset : u.settings = s.settings) (hfree : u.seekAt b p = none)
      (hread : readNotice payload = some n) (hlen : profileLength n.segments ≤ 320)
      (k : Settles (u.queued b p n) t) : ArbiterEvent s t
  | boundary (order : List Duty) : ArbiterEvent s (takeBoundary order s)
  | reset (c : ResetCause) (x : Store) : ArbiterEvent s (hubReset c x s)
  | release (order : List Duty) (h : s.pins.resetHeld = true) : ArbiterEvent s (releaseReset order s)
  | command : ArbiterEvent s (releaseReset [] (hubReset .command (keptStore s.store) (deselect s)))

theorem ArbiterEvent.ite {p : Prop} [Decidable p] {s t : State} (h : p → ArbiterEvent s t) :
    ArbiterEvent s (if p then t else s) := by
  split
  · exact h ‹_›
  · exact .orderly .refl

theorem ArbiterEvent.ite_not {p : Prop} [Decidable p] {s t : State} (h : ¬ p → ArbiterEvent s t) :
    ArbiterEvent s (if p then s else t) := by
  split
  · exact .orderly .refl
  · exact h ‹_›

theorem postSeek_settles (b : Bay) (p : Pos) (n : Notice) (s : State) :
    Settles (s.queued b p n) (postSeek b p n s) := by
  have hforget : SameCalendar (s.queued b p n) ((forgetExpired b n.tag
      (s.putSeek b p (some (noticeSeek s b n)))).setQueue
        ((forgetExpired b n.tag (s.putSeek b p (some (noticeSeek s b n)))).queue
          ++ [{ bay := b, pos := p, held := false }])) := by
    rw [forgetExpired_eq]
    constructor <;> rfl
  exact hforget.orderly.moves.settles (searchStart_settles _)

theorem notice_arbiterEvent (b : Bay) (payload : List Byte) (s : State) :
    ArbiterEvent s (takeEvent (.notice b payload) s) := by
  have hgood := goodFrame_same_calendar b s
  have hrefused (tag : Option Tag) (why : Reason) :
      ArbiterEvent s (readRevisions (refuse b tag why kindNotice (goodFrame b s))) :=
    .orderly ((hgood.orderly.trans (refuse_orderly ..)).same (readRevisions_same_calendar _))
  show ArbiterEvent s (readRevisions (receiveFrame b kindNotice none payload _ s))
  unfold receiveFrame
  split
  · exact .orderly (readRevisions_same_calendar s).orderly
  split
  · exact hrefused ..
  split
  · unfold takeNoticeFrame
    split
    · exact hrefused ..
    · next n hread =>
      unfold takeNotice
      split
      · exact hrefused ..
      · next p hp =>
        split
        · exact hrefused ..
        split
        · exact hrefused ..
        · next hlen =>
          exact .notice b p n payload hgood rfl (freePosition_free hp) hread (not_lt.mp hlen)
            ((postSeek_settles b p n _).same (readRevisions_same_calendar _))
  · exact hrefused ..

theorem takeEvent_arbiterEvent (c : Instr) (s : State) : ArbiterEvent s (takeEvent c s) := by
  have hrequest {effect : State → State} (h : Orderly s (effect s)) :
      ArbiterEvent s (if s.portTakes then effect s else s) := .ite fun _ => .orderly h
  have hanswer (k : RequestKind) (payload : State → List Byte) :
      Orderly s (answer k statusOk payload s) := (answer_same_calendar ..).orderly
  have hframe {t : State} (h : Orderly s t) : ArbiterEvent s (readRevisions t) :=
    .orderly (h.same (readRevisions_same_calendar t))
  cases c with
  | powerOn => exact .reset _ _
  | pinReset => exact .reset _ _
  | resetRelease order => exact .ite fun h => .release order h
  | sampleBoundary order => exact .ite_not fun _ => .boundary order
  | slotStart order => exact .ite fun _ => .boundary order
  | epochEnd order => exact .ite fun _ => .boundary order
  | rebuildComplete searchFirst => exact .orderly (completeRebuild_orderly ..)
  | searchStart => exact .orderly (searchStart_settles s).orderly
  | searchComplete => exact .orderly (completeSearch_orderly s)
  | burstComplete b => exact .orderly (completeBurst_orderly b s)
  | revisionComplete b record => exact .orderly (completeRevision_orderly b record s)
  | drainComplete b => exact .orderly (completeDrain_same_calendar b s).orderly
  | laneTransmit b => exact .orderly (transmitHead_same_calendar b s).orderly
  | presenceRise b =>
    have hpins := setPins_same_calendar s { s.pins with present := s.pins.present.upd b true }
    exact .ite_not fun _ => .orderly (SameCalendar.orderly
      (.ite hpins (hpins.trans (detectDrive_same_calendar b _))))
  | presenceFall b =>
    have hpins := setPins_same_calendar s { s.pins with present := s.pins.present.upd b false }
    exact .ite_not fun _ => .orderly (.ite (fun _ => hpins.orderly) fun _ =>
      (hpins.orderly.trans (loseDrive_orderly b _)).same (readRevisions_same_calendar _))
  | badFrame b why =>
    exact .ite fun _ => .orderly (.ite (fun _ => (putLane_same_calendar b s _).orderly) fun _ =>
      (faultLane_settles b s).orderly.same (readRevisions_same_calendar _))
  | unknownFrame b kind payload =>
    exact .ite_not fun _ => hframe ((goodFrame_same_calendar b s).orderly.trans (refuse_orderly ..))
  | hello b payload =>
    exact .ite_not fun _ => hframe ((goodFrame_same_calendar b s).orderly.trans (takeHello_orderly ..))
  | notice b payload => exact notice_arbiterEvent b payload s
  | commit b payload => exact hframe (receiveFrame_orderly _ _ _ _ _ (takeCommitTag_orderly ..))
  | abort b payload => exact hframe (receiveFrame_orderly _ _ _ _ _ (takeAbortTag_orderly ..))
  | residual b payload => exact hframe (receiveFrame_orderly _ _ _ _ _ (takeReport_orderly ..))
  | badRequest why =>
    exact hrequest (effect := fun u => respond (badResponseKind why) [statusBadRequest] u)
      (setPort_same_calendar s _).orderly
  | settingRead b => exact hrequest (hanswer ..)
  | streamEnable b w => exact hrequest (enableRequest_same_calendar b s w).orderly
  | streamDisable b w => exact hrequest (disableRequest_orderly b s w)
  | hubRead => exact hrequest (hanswer ..)
  | hubWrite divisor code => exact hrequest (hubWriteRequest_same_calendar s divisor code).orderly
  | freeze =>
    exact hrequest (effect := freezeRequest) (SameCalendar.orderly (.ite (answer_same_calendar ..)
      ((setStore_same_calendar s (by rfl)).trans (answer_same_calendar ..))))
  | thaw => exact hrequest (thawRequest_orderly s)
  | peekRow b =>
    exact hrequest (effect := peekRequest b) (SameCalendar.orderly
      (.ite (answer_same_calendar ..) (answer_same_calendar ..)))
  | pokeRow b row =>
    exact hrequest (effect := pokeRequest b row) (SameCalendar.orderly
      (.ite ((setStore_same_calendar s (by rfl)).trans (answer_same_calendar ..)) (answer_same_calendar ..)))
  | activeRowRead b => exact hrequest (hanswer ..)
  | bayInspect b page => exact hrequest (hanswer ..)
  | exposureRead b offset count => exact hrequest (hanswer ..)
  | attentionRead => exact hrequest (hanswer ..)
  | attentionClear causes =>
    exact hrequest (effect := fun u => answer .attentionClear statusOk (fun v => [v.attention.pending])
      (u.setAttention (clearCauses causes u.attention)))
      ((setAttention_same_calendar s _).trans (answer_same_calendar ..)).orderly
  | attentionConfigure mask route =>
    exact hrequest (effect := fun u => answer .attentionConfigure statusOk
      (fun v => [v.attention.mask, v.attention.route])
      (u.setAttention { u.attention with mask := mask, route := route }))
      ((setAttention_same_calendar s _).trans (answer_same_calendar ..)).orderly
  | bayReset b =>
    exact hrequest (effect := fun u => answer .bayReset statusOk (fun _ => [bayByte b]) (resetBay b u))
      ((resetBay_settles b s).orderly.same (answer_same_calendar ..))
  | hubReset =>
    exact hrequest (effect := fun u => answer .hubReset statusOk (fun _ => [])
      (u.setPort { u.port with resetArmed := true }))
      ((setPort_same_calendar s _).trans (answer_same_calendar ..)).orderly
  | hubResetAtCsnRise => exact .ite fun _ => .command

theorem countPeriod_arbiterEvent (s : State) : ArbiterEvent s (countPeriod s) := by
  refine .ite_not fun _ => ?_
  split
  · exact .boundary _
  · exact .orderly (setTime_same_calendar s (by rfl)).orderly

/-- A step takes the front command off the queue of those that wait, or lets one period pass. -/
theorem step_arbiterEvent {s t : State} (h : step s = .next t) :
    ∃ u, (u = s ∨ ∃ x, u = s.setPending x) ∧ ArbiterEvent u t := by
  unfold step at h
  split at h
  · cases h
    exact ⟨s, .inl rfl, countPeriod_arbiterEvent s⟩
  · next c rest _ => exact ⟨_, .inr ⟨rest, rfl⟩, takeEvent_of_exec h ▸ takeEvent_arbiterEvent c _⟩

end Sys2Proof.Machine
end

section
/-! PROOF. Every step keeps the queue exactly the POSTED seeks and lets no possible search wait
(StepKeepsAdmission). -/

namespace Sys2Proof.Machine

/-! ## The queue (R64, R67) -/

theorem QuietMoves.queueLawful {s t : State} (h : QuietMoves s t) (hs : QueueLawful s) : QueueLawful t :=
  h.any.keeps (fun _ _ => Move.queueLawful) hs

theorem queued_isPosted {s : State} (b : Bay) (p : Pos) (n : Notice) (c : Bay) (q : Pos) :
    (s.queued b p n).isPosted c q = if b = c ∧ p = q then true else s.isPosted c q :=
  putSeek_isPosted s b c p q (some (noticeSeek s b n))

/-- An accepted notice joins the records and the queue together (R13, R64). -/
theorem queued_queueLawful {s : State} {b : Bay} {p : Pos} (n : Notice) (hs : QueueLawful s)
    (hfree : s.seekAt b p = none) : QueueLawful (s.queued b p n) := by
  obtain ⟨hnodup, hmem, hsearch⟩ := hs
  have hplaces : ((s.queued b p n).queue.map fun e => (e.bay, e.pos))
      = (s.queue.map fun e => (e.bay, e.pos)) ++ [(b, p)] := List.map_append
  have hnew : (b, p) ∉ s.queue.map fun e => (e.bay, e.pos) := by
    rw [hmem, State.isPosted, hfree]
    exact Bool.false_ne_true
  refine ⟨?_, fun c q => ?_, fun sr hsr => ?_⟩
  · rw [hplaces]
    exact List.nodup_append_comm.mp (List.nodup_cons.mpr ⟨hnew, hnodup⟩)
  · rw [hplaces, List.mem_append, hmem, List.mem_singleton, queued_isPosted, Prod.mk.injEq,
      eq_comm (a := c), eq_comm (a := q)]
    split <;> simp_all
  · obtain ⟨hposted, hcandidates⟩ := hsearch sr hsr
    refine ⟨?_, hcandidates⟩
    rw [queued_isPosted, hposted, ite_self]

theorem endedSeek_posted (m : Sample) (x : Option Seek) :
    (x.bind (endedSeek m)).any (fun r => r.state == .posted) = x.any fun r => r.state == .posted := by
  cases x with
  | none => rfl
  | some r =>
    rw [Option.bind_some, Option.any_some]
    by_cases hposted : r.state = .posted
    · simp [endedSeek, hposted]
    · cases hx : endedSeek m r with
      | none => simp [hposted]
      | some x => obtain rfl | rfl := endedSeek_some hx <;> simp [hposted]

theorem boundaryStart_queueLawful {s : State} (hs : QueueLawful s) : QueueLawful (boundaryStart s) := by
  have hqueue : (boundaryStart s).queue = s.queue := by rw [boundaryStart_exposed]; rfl
  have hengine : (boundaryStart s).engine = s.engine := by rw [boundaryStart_exposed]; rfl
  refine hs.of (by rw [hqueue]) (fun b p => ?_) fun sr hsr => .inl (hengine ▸ hsr)
  rw [State.isPosted, boundaryStart_seekAt, endedSeek_posted]
  rfl

theorem takeBoundary_queueLawful (order : List Duty) {s : State} (hs : QueueLawful s) :
    QueueLawful (takeBoundary order s) := by
  have hover := (completeOverdue_orderly order s).moves.queueLawful hs
  unfold takeBoundary
  dsimp only
  generalize completeOverdue order s = u at hover
  have hadvanced : QueueLawful (advanceSample u) := hover
  exact (duties_orderly _ order _).moves.queueLawful (boundaryStart_queueLawful hadvanced)

/-! ## A reset and its release (R46, R159) -/

/-- The arrivals follow the duties and leave the Arbiter. -/
theorem releaseReset_orderly (order : List Duty) (s : State) :
    Orderly (boundaryStart (s.setPins { s.pins with resetHeld := false })) (releaseReset order s) := by
  have harrive (u : State) (b : Bay) : SameCalendar u (arriveHeld u b) :=
    .ite (detectDrive_same_calendar b u) (.refl u)
  exact (duties_orderly false order _).same (.foldl harrive bays _)

theorem releaseReset_queueLawful (order : List Duty) {s : State} (hs : QueueLawful s) :
    QueueLawful (releaseReset order s) :=
  (releaseReset_orderly order s).moves.queueLawful
    (boundaryStart_queueLawful (s := s.setPins { s.pins with resetHeld := false }) hs)

theorem releaseReset_eager (order : List Duty) {s : State} (hs : EngineEager s) :
    EngineEager (releaseReset order s) :=
  (releaseReset_orderly order s).eager
    (boundaryStart_eager (s := s.setPins { s.pins with resetHeld := false }) hs)

theorem hubReset_eager (c : ResetCause) (x : Store) (s : State) : EngineEager (hubReset c x s) :=
  fun _ _ _ he => absurd he List.not_mem_nil

/-! ## Every step (R64, R66, R67) -/

theorem ArbiterEvent.queueLawful {s t : State} (h : ArbiterEvent s t) (hs : QueueLawful s) :
    QueueLawful t := by
  cases h with
  | orderly h => exact h.moves.queueLawful hs
  | notice b p n payload h hset hfree hread hlen k =>
    exact k.moves.queueLawful (queued_queueLawful n (h.orderly.moves.queueLawful hs) hfree)
  | boundary order => exact takeBoundary_queueLawful order hs
  | reset c x => exact (hubReset_blank c x s).settled.queue
  | release order h => exact releaseReset_queueLawful order hs
  | command => exact releaseReset_queueLawful _ (hubReset_blank ..).settled.queue

theorem ArbiterEvent.eager {s t : State} (h : ArbiterEvent s t) (hs : EngineEager s) : EngineEager t := by
  cases h with
  | orderly h => exact h.eager hs
  | notice b p n payload h hset hfree hread hlen k => exact k.eager
  | boundary order => exact takeBoundary_eager order hs
  | reset c x => exact hubReset_eager c x s
  | release order h => exact releaseReset_eager order hs
  | command => exact releaseReset_eager _ (hubReset_eager .command _ _)

/-- Settles O54: moves keep the queue's law one by one, and no operation leaves a search waiting that could
start. -/
theorem stepKeepsAdmission : Obligations.StepKeepsAdmission := by
  intro s t h
  obtain ⟨u, rfl | ⟨x, rfl⟩, hu⟩ := step_arbiterEvent h
  · exact ⟨hu.queueLawful, hu.eager⟩
  · exact ⟨fun hs => hu.queueLawful (s := s.setPending x) hs, fun hs => hu.eager (s := s.setPending x) hs⟩

end Sys2Proof.Machine
end

section
/-! PROOF. What a search reads at its start and the candidates it is left with (CandidatesKeepTheBounds):
near the start slot the modular comparison is an order, and the working earliest is the latest of three kinds
of bounds (R68 to R72). -/

namespace Sys2Proof.Machine

/-! ## Slots counted from one of them -/

/-- How many slots `a` lies after `m`, negative where it lies before. -/
def slotsAfter (m a : Slot) : Int :=
  (a - m).toInt

section
variable {m a b : Slot}

theorem toInt_sub_eq (m : Slot) (hlo : -(2 ^ 28) ≤ slotsAfter m a - slotsAfter m b)
    (hhi : slotsAfter m a - slotsAfter m b < 2 ^ 28) :
    (a - b).toInt = slotsAfter m a - slotsAfter m b := by
  rw [← sub_sub_sub_cancel_right a b m, BitVec.toInt_sub]
  exact Int.bmod_eq_of_le hlo hhi

theorem slotsAfter_self_add (m : Slot) {n : Nat} (h : n < 2 ^ 28) :
    slotsAfter m (m + BitVec.ofNat 29 n) = n := by
  rw [slotsAfter, add_sub_cancel_left, BitVec.toInt_eq_toNat_of_lt] <;> rw [BitVec.toNat_ofNat] <;> omega

theorem slotsAfter_add_one (m : Slot) : slotsAfter m (m + 1) = 1 :=
  slotsAfter_self_add (n := 1) m (by norm_num)

theorem slotsAfter_add_two (m : Slot) : slotsAfter m (m + 2) = 2 :=
  slotsAfter_self_add (n := 2) m (by norm_num)

theorem slotsAfter_add {n : Nat} (hlo : -(2 ^ 28) ≤ slotsAfter m a) (hhi : slotsAfter m a + n < 2 ^ 28) :
    slotsAfter m (a + BitVec.ofNat 29 n) = slotsAfter m a + n := by
  have hshift : a + BitVec.ofNat 29 n - m = a - m + BitVec.ofNat 29 n := add_sub_right_comm ..
  unfold slotsAfter at hlo hhi ⊢
  rw [hshift, BitVec.toInt_add, BitVec.toInt_ofNat', Int.add_bmod_bmod]
  exact Int.bmod_eq_of_le (by omega) (by omega)

theorem eq_of_slotsAfter_eq (h : slotsAfter m a = slotsAfter m b) : a = b :=
  sub_left_injective (BitVec.eq_of_toInt_eq h)

theorem atOrBefore_iff (m : Slot) (hlo : -(2 ^ 28) ≤ slotsAfter m b - slotsAfter m a)
    (hhi : slotsAfter m b - slotsAfter m a < 2 ^ 28) :
    atOrBefore a b = true ↔ slotsAfter m a ≤ slotsAfter m b := by
  rw [atOrBefore, decide_eq_true_iff, toInt_sub_eq m hlo hhi, sub_nonneg]

theorem earlier_iff (m : Slot) (hlo : -(2 ^ 28) ≤ slotsAfter m b - slotsAfter m a)
    (hhi : slotsAfter m b - slotsAfter m a < 2 ^ 28) :
    earlier a b = true ↔ slotsAfter m a < slotsAfter m b := by
  rw [earlier, decide_eq_true_iff, toInt_sub_eq m hlo hhi, sub_pos]

/-- The later of two is one of them, and neither lies after it. -/
theorem later_latest (m : Slot) (hlo : -(2 ^ 28) ≤ slotsAfter m b - slotsAfter m a)
    (hhi : slotsAfter m b - slotsAfter m a < 2 ^ 28) : (later a b = a ∨ later a b = b)
      ∧ slotsAfter m a ≤ slotsAfter m (later a b) ∧ slotsAfter m b ≤ slotsAfter m (later a b) := by
  have hearlier := earlier_iff m hlo hhi
  unfold later
  split
  · next h => exact ⟨.inr rfl, (hearlier.mp h).le, le_rfl⟩
  · next h => exact ⟨.inl rfl, le_rfl, not_lt.mp (mt hearlier.mpr h)⟩

end

/-! ## The working earliest (R69, R70) -/

/-- Counted from `m`, `w` is the latest of the slots that `P` names. -/
structure LatestOf (m : Slot) (P : Slot → Prop) (w : Slot) : Prop where
  named : P w
  latest : ∀ x, P x → slotsAfter m x ≤ slotsAfter m w

/-- A launch slot near enough to `m` to compare with a window, and a run as long as one can be. -/
def NearRun (m l : Slot) (n : Nat) : Prop :=
  -(2 ^ 26) ≤ slotsAfter m l ∧ slotsAfter m l ≤ 2 ^ 26 ∧ n ≤ 320

theorem NearRun.profileEnd {m l : Slot} {n : Nat} (h : NearRun m l n) :
    -(2 ^ 26) ≤ slotsAfter m (profileEnd l n) ∧ slotsAfter m (profileEnd l n) ≤ 2 ^ 26 + 40 := by
  obtain ⟨hlo, hhi, hrun⟩ := h
  have hslots : slotsFor n ≤ 40 := by unfold slotsFor; omega
  rw [Machine.profileEnd, slotsAfter_add] <;> omega

/-- The working earliest after own-bay spacing is the latest of the record's earliest and the profile
ends. -/
theorem spacedEarliest_latest {m e : Slot} {xs : List (Slot × Nat)}
    (hlo : -(2 ^ 27) - 1 ≤ slotsAfter m e) (hhi : slotsAfter m e ≤ 2 ^ 27)
    (hxs : ∀ x ∈ xs, NearRun m x.1 x.2) :
    LatestOf m (fun w => w = e ∨ ∃ x ∈ xs, w = profileEnd x.1 x.2) (spacedEarliest e xs) := by
  induction xs generalizing e with
  | nil => exact ⟨.inl rfl, by rintro x (rfl | ⟨y, hy, -⟩); exacts [le_rfl, nomatch hy]⟩
  | cons y ys ih =>
    obtain ⟨hy, hys⟩ := List.forall_mem_cons.mp hxs
    have hend := hy.profileEnd
    obtain ⟨hone, hefrom, hyfrom⟩ := later_latest (a := e) (b := profileEnd y.1 y.2) m (by omega) (by omega)
    have hbounds : -(2 ^ 27) - 1 ≤ slotsAfter m (later e (profileEnd y.1 y.2))
        ∧ slotsAfter m (later e (profileEnd y.1 y.2)) ≤ 2 ^ 27 := by
      obtain h | h := hone <;> rw [h] <;> omega
    have hstep : spacedEarliest e (y :: ys) = spacedEarliest (later e (profileEnd y.1 y.2)) ys := rfl
    obtain ⟨hnamed, hlatest⟩ := ih hbounds.1 hbounds.2 hys
    have hfirst := hlatest _ (.inl rfl)
    rw [hstep]
    refine ⟨?_, ?_⟩
    · obtain h | ⟨x, hx, h⟩ := hnamed
      · exact hone.imp h.trans fun hl => ⟨y, .head _, h.trans hl⟩
      · exact .inr ⟨x, .tail _ hx, h⟩
    · rintro x (rfl | ⟨z, hz, rfl⟩)
      · exact hefrom.trans hfirst
      · obtain rfl | hz := List.mem_cons.mp hz
        exacts [hyfrom.trans hfirst, hlatest _ (.inr ⟨z, hz, rfl⟩)]

/-- Raised, it is the latest of these and start slot + 2. -/
theorem raisedEarliest_latest {m w : Slot} {P : Slot → Prop} (h : LatestOf m P w)
    (hlo : -(2 ^ 27) - 1 ≤ slotsAfter m w) (hhi : slotsAfter m w ≤ 2 ^ 27) :
    LatestOf m (fun x => x = m + 2 ∨ P x) (raisedEarliest m w) := by
  have hone := slotsAfter_add_one m
  have htwo := slotsAfter_add_two m
  have hraise := atOrBefore_iff (a := w) (b := m + 1) m (by omega) (by omega)
  obtain ⟨hnamed, hlatest⟩ := h
  unfold raisedEarliest
  split
  · next h =>
    have hle := hraise.mp h
    refine ⟨.inl rfl, ?_⟩
    rintro x (rfl | hx)
    · exact le_rfl
    · have := hlatest x hx
      omega
  · next h =>
    have hgt := mt hraise.mpr h
    refine ⟨.inr hnamed, ?_⟩
    rintro x (rfl | hx)
    · omega
    · exact hlatest x hx

/-! ## The candidates (R70, R71) -/

/-- The last slot from which a seek of this span ends inside the horizon of `m` (R71). -/
theorem slotsAfter_horizon (m : Slot) {span : Nat} (hspan : span ≤ 56) :
    slotsAfter m (m + 64 - BitVec.ofNat 29 span) = 64 - span := by
  have hadd : m + 64 - BitVec.ofNat 29 span = m + BitVec.ofNat 29 (64 - span) := by bv_omega
  rw [hadd, slotsAfter_self_add m (by omega)]
  omega

section
variable {m e l : Slot} (he : 2 ≤ slotsAfter m e) (hl : slotsAfter m l < 2 ^ 28)
  (hlo : -(2 ^ 28) < slotsAfter m l - slotsAfter m e)
include he hl hlo

/-- The slots of the window from `e` on, or `e` alone where the window is exhausted. -/
theorem mem_windowSlots (c : Slot) : c ∈ windowSlots e l
    ↔ c = e ∨ slotsAfter m e ≤ slotsAfter m c ∧ slotsAfter m c ≤ slotsAfter m l := by
  have hexhausted := earlier_iff (a := l) (b := e) m (by omega) (by omega)
  unfold windowSlots
  split
  · next h =>
    have hlt := hexhausted.mp h
    rw [List.mem_singleton]
    exact ⟨.inl, fun hc => hc.resolve_right fun ⟨h1, h2⟩ => by omega⟩
  · next h =>
    have hle := not_lt.mp (mt hexhausted.mpr h)
    have hlength : ((l - e).toNat : Int) = slotsAfter m l - slotsAfter m e := by
      have hint := toInt_sub_eq (a := l) (b := e) m (by omega) (by omega)
      rw [BitVec.toInt_eq_toNat_cond] at hint
      have hlt := (l - e).isLt
      split at hint <;> omega
    rw [List.mem_map]
    constructor
    · rintro ⟨i, hi, rfl⟩
      have hi := List.mem_range.mp hi
      rw [slotsAfter_add (by omega) (by omega)]
      exact .inr ⟨by omega, by omega⟩
    · rintro (rfl | ⟨h1, h2⟩)
      · exact ⟨0, List.mem_range.mpr (by omega), BitVec.add_zero _⟩
      · refine ⟨(slotsAfter m c - slotsAfter m e).toNat, List.mem_range.mpr (by omega),
          eq_of_slotsAfter_eq (m := m) ?_⟩
        rw [slotsAfter_add (by omega) (by omega)]
        omega

/-- The candidates are those of the window's slots that end inside the horizon (R71). -/
theorem mem_boundedSlots_window {span : Nat} (hspan : span ≤ 56) (hhi : slotsAfter m e < 2 ^ 28)
    (hl' : -(2 ^ 27) - 1 ≤ slotsAfter m l) (c : Slot) :
    c ∈ boundedSlots m span (windowSlots e l)
      ↔ 2 ≤ slotsAfter m c ∧ slotsAfter m c + span ≤ 64 ∧ 0 ≤ (c - e).toInt
        ∧ ((c - l).toInt ≤ 0 ∨ c = e) := by
  have hhorizon := slotsAfter_horizon m hspan
  have hinside (hc : 2 ≤ slotsAfter m c) (hc' : slotsAfter m c < 2 ^ 28) :
      atOrBefore c (m + 64 - BitVec.ofNat 29 span) = true ↔ slotsAfter m c + span ≤ 64 := by
    rw [atOrBefore_iff m (by omega) (by omega), hhorizon]
    omega
  rw [boundedSlots, List.mem_filter, mem_windowSlots he hl hlo]
  constructor
  · rintro ⟨hc, hbound⟩
    have hafter : slotsAfter m e ≤ slotsAfter m c ∧ slotsAfter m c < 2 ^ 28 := by
      obtain rfl | ⟨h1, h2⟩ := hc
      exacts [⟨le_rfl, hhi⟩, ⟨h1, by omega⟩]
    have hfits := (hinside (by omega) hafter.2).mp hbound
    refine ⟨by omega, hfits, ?_, hc.symm.imp_left fun ⟨_, h2⟩ => ?_⟩
    · rw [toInt_sub_eq m] <;> omega
    · rw [toInt_sub_eq m] <;> omega
  · rintro ⟨hnear, hfits, hfrom, hc⟩
    rw [toInt_sub_eq m (by omega) (by omega)] at hfrom
    refine ⟨hc.symm.imp_right fun hc => ⟨by omega, ?_⟩, (hinside hnear (by omega)).mpr hfits⟩
    rw [toInt_sub_eq m (by omega) (by omega)] at hc
    omega

end

/-! ## A search as it is prepared -/

section
variable (s : State) (b : Bay) (p : Pos) (r : Seek)

theorem mem_otherRuns {x : Slot × Nat} : x ∈ s.otherRuns b p ↔ ∃ q y, q ≠ p ∧ s.seekAt b q = some y
    ∧ y.state ≠ .posted ∧ y.launch = some x.1 ∧ x.2 = y.runEnd := by
  obtain ⟨l, n⟩ := x
  rw [otherRuns_eq, List.mem_filterMap]
  constructor
  · rintro ⟨q, -, hx⟩
    obtain ⟨y, hy, hx⟩ := Option.bind_eq_some_iff.mp hx
    split at hx
    · next hq =>
      obtain ⟨k, hk, heq⟩ := Option.map_eq_some_iff.mp hx
      obtain ⟨rfl, rfl⟩ := Prod.mk.inj heq
      exact ⟨q, y, hq.1, hy, hq.2, hk, rfl⟩
    · cases hx
  · rintro ⟨q, y, hq, hy, hstate, hl, rfl⟩
    refine ⟨q, mem_positions q, ?_⟩
    rw [hy, Option.bind_some, if_pos ⟨hq, hstate⟩, hl]
    rfl

theorem mem_testedBays {x : Tested} : x ∈ s.testedBays b ↔ x.bay ≠ b ∧ (s.coeff x.bay b).c ≠ 0
    ∧ x.c = (s.coeff x.bay b).c ∧ x.limit = (s.setting x.bay).limit ∧ x.row = s.exposure.get x.bay := by
  rw [State.testedBays, List.mem_filterMap]
  constructor
  · rintro ⟨d, -, hd⟩
    split at hd
    · next hread =>
      cases hd
      exact ⟨hread.1, hread.2, rfl, rfl, rfl⟩
    · cases hd
  · rintro ⟨hne, hcoupled, hc, hlimit, hrow⟩
    exact ⟨x.bay, List.mem_finRange x.bay, by rw [if_pos ⟨hne, hcoupled⟩, ← hc, ← hlimit, ← hrow]⟩

theorem testedBays_nodup : ((s.testedBays b).map Tested.bay).Nodup := by
  have hbays : (s.testedBays b).map Tested.bay
      = bays.filter fun a => decide (a ≠ b ∧ (s.coeff a b).c ≠ 0) := by
    rw [State.testedBays, List.map_filterMap, ← List.filterMap_eq_filter]
    refine congrArg (List.filterMap · bays) (funext fun a => ?_)
    by_cases hread : a ≠ b ∧ (s.coeff a b).c ≠ 0
    · simp [Option.guard, hread]
    · simp [Option.guard, hread]
  rw [hbays]
  exact (List.nodup_finRange 16).filter _

/-- What bounds a search's first slot from below: start slot + 2, the record's earliest, and the profile end
of every other granted seek of the bay (R69, R70). -/
def FirstSlotBound (x : Slot) : Prop :=
  x = s.slot + 2 ∨ x = r.earliest ∨ ∃ q y l, q ≠ p ∧ s.seekAt b q = some y ∧ y.state ≠ .posted
    ∧ y.launch = some l ∧ x = profileEnd l y.runEnd

/-- The window of the seek and the runs it is spaced from lie near enough to the current slot for the modular
comparison to be an order. -/
structure WindowNear : Prop where
  earliest : -(2 ^ 27) - 1 ≤ slotsAfter s.slot r.earliest ∧ slotsAfter s.slot r.earliest ≤ 2 ^ 27
  latest : -(2 ^ 27) - 1 ≤ slotsAfter s.slot r.latest ∧ slotsAfter s.slot r.latest ≤ 2 ^ 27 + 64
  order : -(2 ^ 27) ≤ slotsAfter s.slot r.latest - slotsAfter s.slot r.earliest
  span : r.span ≤ 56
  others : ∀ q x l, q ≠ p → s.seekAt b q = some x → x.state ≠ .posted → x.launch = some l →
    NearRun s.slot l x.runEnd

variable {s b p r} (h : WindowNear s b p r)
include h

theorem otherRuns_near : ∀ x ∈ s.otherRuns b p, NearRun s.slot x.1 x.2 := by
  rintro ⟨l, n⟩ hx
  obtain ⟨q, y, hq, hy, hstate, hl, hn⟩ := (mem_otherRuns s b p).mp hx
  obtain rfl : n = y.runEnd := hn
  exact h.others q y l hq hy hstate hl

/-- The working earliest is the latest of its bounds, and none of them is far. -/
theorem prepareSearch_workEarliest : LatestOf s.slot (FirstSlotBound s b p r)
    (prepareSearch s b p r).workEarliest := by
  have hnear := otherRuns_near h
  have hspaced := spacedEarliest_latest h.earliest.1 h.earliest.2 hnear
  have hle := hspaced.latest _ (.inl rfl)
  have hlo := h.earliest.1
  have hhi : slotsAfter s.slot (spacedEarliest r.earliest (s.otherRuns b p)) ≤ 2 ^ 27 := by
    obtain heq | ⟨x, hx, heq⟩ := hspaced.named <;> rw [heq]
    · exact h.earliest.2
    · have := (hnear x hx).profileEnd
      omega
  have hnames (x : Slot) : (x = s.slot + 2 ∨ x = r.earliest ∨ ∃ y ∈ s.otherRuns b p,
      x = profileEnd y.1 y.2) ↔ FirstSlotBound s b p r x := by
    refine or_congr_right (or_congr_right ⟨?_, ?_⟩)
    · rintro ⟨⟨l, n⟩, hy, hx⟩
      obtain ⟨q, y, hq, hy, hstate, hl, hn⟩ := (mem_otherRuns s b p).mp hy
      exact ⟨q, y, l, hq, hy, hstate, hl, hn ▸ hx⟩
    · rintro ⟨q, y, l, hq, hy, hstate, hl, hx⟩
      exact ⟨(l, y.runEnd), (mem_otherRuns s b p).mpr ⟨q, y, hq, hy, hstate, hl, rfl⟩, hx⟩
  obtain ⟨hnamed, hlatest⟩ := raisedEarliest_latest hspaced (by omega) hhi
  exact ⟨(hnames _).mp hnamed, fun x hx => hlatest x ((hnames x).mpr hx)⟩

theorem workEarliest_near : slotsAfter s.slot (prepareSearch s b p r).workEarliest ≤ 2 ^ 26 + 40
    ∨ (prepareSearch s b p r).workEarliest = r.earliest := by
  obtain heq | heq | ⟨q, y, l, hq, hy, hstate, hl, heq⟩ := (prepareSearch_workEarliest h).named
  · rw [heq, slotsAfter_add_two]
    exact .inl (by norm_num)
  · exact .inr heq
  · rw [heq]
    exact .inl (h.others q y l hq hy hstate hl).profileEnd.2

theorem two_le_workEarliest : 2 ≤ slotsAfter s.slot (prepareSearch s b p r).workEarliest := by
  have htwo := slotsAfter_add_two s.slot
  have hraised := (prepareSearch_workEarliest h).latest _ (.inl rfl)
  omega

theorem workEarliest_from_earliest : 0 ≤ ((prepareSearch s b p r).workEarliest - r.earliest).toInt := by
  have hle := (prepareSearch_workEarliest h).latest _ (.inr (.inl rfl))
  obtain hnear | heq := workEarliest_near h
  · have hearliest := h.earliest
    rw [toInt_sub_eq s.slot] <;> omega
  · rw [heq, sub_self]
    rfl

/-- The candidates are the window's slots from the working earliest on that end inside the horizon. -/
theorem mem_candidates (c : Slot) : c ∈ (prepareSearch s b p r).candidates
    ↔ 2 ≤ slotsAfter s.slot c ∧ slotsAfter s.slot c + r.span ≤ 64
      ∧ 0 ≤ (c - (prepareSearch s b p r).workEarliest).toInt
      ∧ ((c - r.latest).toInt ≤ 0 ∨ c = (prepareSearch s b p r).workEarliest) := by
  have htwo := two_le_workEarliest h
  have hnear := workEarliest_near h
  obtain ⟨hearliest, hlatest, horder, hspan, -⟩ := h
  have hbounds : -(2 ^ 28) < slotsAfter s.slot r.latest
        - slotsAfter s.slot (prepareSearch s b p r).workEarliest
      ∧ slotsAfter s.slot (prepareSearch s b p r).workEarliest < 2 ^ 28 := by
    obtain hnear | heq := hnear
    · omega
    · rw [heq]
      omega
  exact mem_boundedSlots_window htwo (by omega) hbounds.1 hspan hbounds.2 hlatest.1 c

theorem workEarliest_from_run {q : Pos} {x : Seek} {l : Slot} (hq : q ≠ p) (hx : s.seekAt b q = some x)
    (hstate : x.state ≠ .posted) (hl : x.launch = some l) :
    slotsAfter s.slot (profileEnd l x.runEnd) ≤ slotsAfter s.slot (prepareSearch s b p r).workEarliest
      ∧ 0 ≤ ((prepareSearch s b p r).workEarliest - profileEnd l x.runEnd).toInt := by
  have hle := (prepareSearch_workEarliest h).latest _ (.inr (.inr ⟨q, x, l, hq, hx, hstate, hl, rfl⟩))
  have hend := (h.others q x l hq hx hstate hl).profileEnd
  have hhi : slotsAfter s.slot (prepareSearch s b p r).workEarliest ≤ 2 ^ 27 := by
    have hearliest := h.earliest
    obtain hnear | heq := workEarliest_near h
    · omega
    · rw [heq]
      exact hearliest.2
  refine ⟨hle, ?_⟩
  rw [toInt_sub_eq s.slot] <;> omega

end

/-- Settles O15: what is read stands in the search as prepared; near the start slot the working earliest is the
latest of its bounds and the candidates are an interval. -/
theorem candidatesKeepTheBounds : Obligations.CandidatesKeepTheBounds := by
  refine ⟨fun s b p r => ⟨rfl, rfl, rfl, rfl, rfl, rfl, rfl, rfl, testedBays_nodup s b,
    fun x => mem_testedBays s b⟩, fun s b p r hwindow hspan hothers => ?_⟩
  obtain ⟨⟨helo, hehi⟩, hllo, hlhi⟩ : (-(2 ^ 26) ≤ slotsAfter s.slot r.earliest
      ∧ slotsAfter s.slot r.earliest ≤ 2 ^ 26)
      ∧ -(2 ^ 26) ≤ slotsAfter s.slot r.latest ∧ slotsAfter s.slot r.latest ≤ 2 ^ 26 := by
    simpa [slotsAfter] using hwindow
  have hnear : WindowNear s b p r := ⟨by omega, by omega, by omega, hspan, hothers⟩
  exact ⟨_, two_le_workEarliest hnear, workEarliest_from_earliest hnear,
    fun q x l hq hx hstate hl => (workEarliest_from_run hnear hq hx hstate hl).2,
    (prepareSearch_workEarliest hnear).named, mem_candidates hnear⟩

end Sys2Proof.Machine
end

section
/-! PROOF. Every step keeps the runs of one bay's granted seeks apart (StepKeepsRunsApart). Records keep their
launch slots and runs only shorten; a search prepared on a near window has candidates past every other run of
its bay, and goes on having them until its grant (R69, R70, R76). -/

namespace Sys2Proof.Machine

/-! ## Runs near the current slot -/

/-- A record on its course has launched at most its run and tail ago, or launches inside the horizon. -/
theorem nearRun_of_course {now : Sample} {r : Seek} {l : Slot} (hc : r.Compiled)
    (h : r.Timely now ∨ r.Due now) (hl : r.launch = some l) : NearRun (slotOf now) l r.runEnd := by
  obtain ⟨hrun, htail⟩ := hc.tailEnd_le
  unfold NearRun slotsAfter
  have hpast {d : Nat} (hd : d < r.tailEnd) :
      -(2 ^ 26) ≤ (l - slotOf (launchSample l + BitVec.ofNat 32 d)).toInt
      ∧ (l - slotOf (launchSample l + BitVec.ofNat 32 d)).toInt ≤ 2 ^ 26 ∧ r.runEnd ≤ 320 := by
    rw [slotOf_launchSample_add, toInt_sub_add_ofNat _ (by omega)]
    omega
  cases hstate : r.state with
  | posted => simp [(Seek.posted_course h hstate).1] at hl
  | granted | committed =>
    obtain ⟨k, hk, -, -, hspan, hahead, -⟩ := Seek.waiting_course hc h (by simp [hstate])
    obtain rfl := Option.some.inj (hl.symm.trans hk)
    omega
  | running =>
    have htimely : r.Timely now := h.resolve_right fun hd => by simp [Seek.Due, hstate] at hd
    obtain ⟨k, d, hk, -, rfl, hd⟩ := htimely.run_index hstate
    obtain rfl := Option.some.inj (hl.symm.trans hk)
    exact hpast (by unfold Seek.tailEnd; omega)
  | tail =>
    have htimely : r.Timely now := h.resolve_right fun hd => by simp [Seek.Due, hstate] at hd
    obtain ⟨k, d, hk, -, rfl, -, hd⟩ := htimely.tail_index hstate
    obtain rfl := Option.some.inj (hl.symm.trans hk)
    exact hpast hd

theorem launched_not_posted {now : Sample} {r : Seek} {l : Slot} (h : r.Timely now ∨ r.Due now)
    (hl : r.launch = some l) : r.state ≠ .posted := by
  intro hstate
  rw [(Seek.posted_course h hstate).1] at hl
  cases hl

/-- Near the current slot a run that is over by `c` is over by `c` when it is cut (R29). -/
theorem atOrBefore_profileEnd_mono {m l c : Slot} {n k : Nat} (h : NearRun m l n) (hk : k ≤ n)
    (hlo : -(2 ^ 26) ≤ slotsAfter m c) (hhi : slotsAfter m c ≤ 2 ^ 26)
    (hover : atOrBefore (profileEnd l n) c = true) : atOrBefore (profileEnd l k) c = true := by
  obtain ⟨hllo, hlhi, hn⟩ := h
  have hshorter : slotsFor k ≤ slotsFor n ∧ slotsFor n ≤ 40 := by unfold slotsFor; omega
  have hend {i : Nat} (hi : slotsFor i ≤ 40) :
      slotsAfter m (profileEnd l i) = slotsAfter m l + slotsFor i := by
    rw [profileEnd, slotsAfter_add] <;> omega
  have hn := hend hshorter.2
  have hk := hend (hshorter.1.trans hshorter.2)
  rw [atOrBefore_iff m (by omega) (by omega)] at hover ⊢
  omega

/-- The place that a search is prepared on is a POSTED seek's (R64, R67). -/
theorem QueueLawful.place_posted {s : State} (hs : QueueLawful s) {b : Bay} {p : Pos}
    (h : (b, p) ∈ (s.queue.map fun e => (e.bay, e.pos)) ∨ ∃ x, s.engine = some x ∧ x.bay = b ∧ x.pos = p) :
    s.isPosted b p = true := by
  obtain ⟨-, hmem, hsearch⟩ := hs
  obtain h | ⟨x, hx, rfl, rfl⟩ := h
  · exact (hmem b p).mp h
  · exact (hsearch x hx).1

section
variable {s : State} (hs : CalendarOnCourse s)
include hs

theorem CalendarOnCourse.nearRun {b : Bay} {p : Pos} {r : Seek} {l : Slot} (hr : s.seekAt b p = some r)
    (hl : r.launch = some l) : NearRun s.slot l r.runEnd :=
  nearRun_of_course (hs.course b p r hr).1 (hs.course b p r hr).2 hl

/-- The candidates of a search at most seven samples old lie near the current slot (R71, R75). -/
theorem CalendarOnCourse.candidate_near {sr : Search} {c : Slot} (hsr : s.engine = some sr)
    (hc : c ∈ sr.candidates) (htwo : 2 ≤ slotsAfter sr.startSlot c) :
    -(2 ^ 26) ≤ slotsAfter s.slot c ∧ slotsAfter s.slot c ≤ 2 ^ 26 := by
  obtain ⟨hstart, hage, hcopy, hbound⟩ := hs.search sr hsr
  obtain ⟨-, -, hplace⟩ := hs.queue
  obtain ⟨r, hr, -⟩ := isPosted_iff.mp (hplace sr hsr).1
  have hspan : sr.span ≤ 56 := by
    rw [(hcopy r hr).1]
    exact (hs.course _ _ r hr).1.span_pos.2
  have hfar := BitVec.toInt_lt (x := c - sr.startSlot)
  have hhorizon := slotsAfter_horizon sr.startSlot hspan
  have hinside := hbound c hc
  unfold slotsAfter at htwo
  rw [atOrBefore_iff sr.startSlot (by rw [hhorizon]; unfold slotsAfter; omega)
    (by rw [hhorizon]; unfold slotsAfter; omega), hhorizon] at hinside
  have hsoon := slotOf_soon hage
  rw [← hstart] at hsoon
  unfold slotsAfter at hinside
  obtain hsame | hnext := hsoon
  · rw [State.slot, show s.time.sample = s.now from rfl, hsame, slotsAfter]
    omega
  · have hone := slotsAfter_add_one sr.startSlot
    rw [State.slot, show s.time.sample = s.now from rfl, hnext, slotsAfter,
      toInt_sub_eq sr.startSlot] <;> rw [hone] <;> unfold slotsAfter <;> omega

end

/-! ## Runs that stay or shorten -/

/-- Every run in `t` is one of `s`, at its launch slot and no longer, and a search in `t` is that of `s`. -/
structure RunsKept (s t : State) : Prop where
  runs : ∀ b p r l, t.seekAt b p = some r → r.launch = some l →
    ∃ x, s.seekAt b p = some x ∧ x.launch = some l ∧ r.runEnd ≤ x.runEnd
  search : ∀ sr, t.engine = some sr → s.engine = some sr

theorem RunsKept.apart {s t : State} (h : RunsKept s t) (hs : CalendarOnCourse s) (hruns : RunsApart s) :
    RunsApart t := by
  intro b p q r x l k hpq hr hx hl hk
  obtain ⟨r', hr', hl', hrun⟩ := h.runs b p r l hr hl
  obtain ⟨x', hx', hk', hrun'⟩ := h.runs b q x k hx hk
  have hnear := hs.nearRun hr' hl'
  have hnear' := hs.nearRun hx' hk'
  exact (hruns b p q r' x' l k hpq hr' hx' hl' hk').imp
    (atOrBefore_profileEnd_mono hnear hrun hnear'.1 hnear'.2.1)
    (atOrBefore_profileEnd_mono hnear' hrun' hnear.1 hnear.2.1)

theorem RunsKept.spaced {s t : State} (h : RunsKept s t) (hs : CalendarOnCourse s) (hspaced : SearchSpaced s) :
    SearchSpaced t := by
  intro sr hsr c hc
  have hold := h.search sr hsr
  obtain ⟨htwo, hover⟩ := hspaced sr hold c hc
  refine ⟨htwo, fun q r l hq hr hl => ?_⟩
  obtain ⟨x, hx, hl', hrun⟩ := h.runs _ q r l hr hl
  obtain ⟨hlo, hhi⟩ := hs.candidate_near hold hc htwo
  exact atOrBefore_profileEnd_mono (hs.nearRun hx hl') hrun hlo hhi (hover q x l hq hx hl')

theorem RunsKept.of_seeks {s t : State} (hseeks : t.seeks = s.seeks)
    (hengine : ∀ sr, t.engine = some sr → s.engine = some sr) : RunsKept s t := by
  refine ⟨fun b p r l hr hl => ⟨r, ?_, hl, le_rfl⟩, hengine⟩
  rw [← hr, State.seekAt, State.seekAt, hseeks]

/-- One record changes: it is freed, has no launch slot, or keeps its own and no longer a run. -/
theorem RunsKept.put {s t : State} {b : Bay} {p : Pos} {x : Option Seek}
    (hseeks : t.seeks = (s.putSeek b p x).seeks) (hengine : ∀ sr, t.engine = some sr → s.engine = some sr)
    (hx : ∀ y l, x = some y → y.launch = some l →
      ∃ z, s.seekAt b p = some z ∧ z.launch = some l ∧ y.runEnd ≤ z.runEnd) : RunsKept s t := by
  refine ⟨fun c q r l hr hl => ?_, hengine⟩
  have hseek : (s.putSeek b p x).seekAt c q = some r := by
    rw [← hr, State.seekAt, State.seekAt, hseeks]
  rw [State.seekAt_putSeek] at hseek
  split at hseek
  · next h =>
    obtain ⟨rfl, rfl⟩ := h
    exact hx r l hseek hl
  · exact ⟨r, hseek, hl, le_rfl⟩

/-! ## Windows near the current slot -/

/-- The window of every POSTED seek lies near the current slot, its earliest at most `n` slots further back
than Fresh allows. -/
def WindowsNear (n : Nat) (s : State) : Prop :=
  ∀ b p r, s.seekAt b p = some r → r.state = .posted →
    -(2 ^ 27) - (n : Int) ≤ slotsAfter s.slot r.earliest ∧ slotsAfter s.slot r.earliest ≤ 2 ^ 27
      ∧ 0 ≤ (r.latest - r.earliest).toInt ∧ (r.latest - r.earliest).toInt ≤ 64

theorem windowsNear_of_fresh {s : State} (h : Fresh s) : WindowsNear 0 s := by
  intro b p r hr hstate
  obtain ⟨hlo, hhi, hwindow, hlong⟩ := h b p r hr hstate
  exact ⟨by simpa [slotsAfter] using hlo, hhi, hwindow, by omega⟩

theorem WindowsNear.of {n : Nat} {s t : State} (hs : WindowsNear n s) (hslot : t.slot = s.slot)
    (h : ∀ b p r, t.seekAt b p = some r → r.state = .posted → s.seekAt b p = some r) : WindowsNear n t := by
  intro b p r hr hstate
  rw [hslot]
  exact hs b p r (h b p r hr hstate) hstate

theorem WindowsNear.put {n : Nat} {s t : State} (hs : WindowsNear n s) {b : Bay} {p : Pos} {x : Option Seek}
    (hslot : t.slot = s.slot) (hseeks : t.seeks = (s.putSeek b p x).seeks)
    (hx : ∀ y, x = some y → y.state ≠ .posted) : WindowsNear n t := by
  refine hs.of hslot fun c q r hr hstate => ?_
  have hseek : (s.putSeek b p x).seekAt c q = some r := by
    rw [← hr, State.seekAt, State.seekAt, hseeks]
  rw [State.seekAt_putSeek] at hseek
  split at hseek
  · exact absurd hstate (hx r hseek)
  · exact hseek

/-! ## A search as it is prepared -/

/-- A POSTED seek's window and the other runs of its bay lie near the slot in which a search is prepared on
it. -/
theorem windowNear_of_posted {n : Nat} (hn : n ≤ 1) {s : State} (hs : CalendarOnCourse s)
    (hw : WindowsNear n s) {b : Bay} {p : Pos} {r : Seek} (hr : s.seekAt b p = some r)
    (hstate : r.state = .posted) : WindowNear s b p r := by
  obtain ⟨hlo, hhi, hwindow, hlong⟩ := hw b p r hr hstate
  have hlatest : slotsAfter s.slot r.latest = slotsAfter s.slot r.earliest + (r.latest - r.earliest).toInt := by
    unfold slotsAfter at hlo hhi ⊢
    rw [← sub_add_sub_cancel' r.earliest s.slot r.latest, BitVec.toInt_add]
    exact Int.bmod_eq_of_le (by omega) (by omega)
  exact ⟨by omega, by omega, by omega, (hs.course b p r hr).1.span_pos.2,
    fun q x l _ hx _ hl => hs.nearRun hx hl⟩

theorem prepareSearch_spaced {s : State} (hs : CalendarOnCourse s) {b : Bay} {p : Pos} {r : Seek}
    (h : WindowNear s b p r) : SearchSpaced (s.setEngine (some (prepareSearch s b p r))) := by
  intro sr hsr c hc
  obtain rfl := Option.some.inj hsr
  have hwork := two_le_workEarliest h
  obtain ⟨htwo, hfits, hfrom, -⟩ := (mem_candidates h c).mp hc
  refine ⟨htwo, fun q x l hq hx hl => ?_⟩
  have hgranted := launched_not_posted (hs.course b q x hx).2 hl
  have hend := (hs.nearRun hx hl).profileEnd
  have hrun := (workEarliest_from_run h hq hx hgranted hl).1
  have hwork' : slotsAfter s.slot (prepareSearch s b p r).workEarliest ≤ 2 ^ 27 := by
    obtain hnear | heq := workEarliest_near h
    · omega
    · exact heq ▸ h.earliest.2
  rw [toInt_sub_eq s.slot (by omega) (by omega)] at hfrom
  rw [atOrBefore_iff s.slot] <;> omega

/-! ## The moves -/

/-- The law of the bays' runs with all that carries it through the moves of an event. -/
structure SpacingOnCourse (n : Nat) (s : State) : Prop where
  calendar : CalendarOnCourse s
  windows : WindowsNear n s
  runs : RunsApart s
  search : SearchSpaced s

theorem RunsKept.both {n : Nat} {s t : State} (h : RunsKept s t) (hs : SpacingOnCourse n s) :
    RunsApart t ∧ SearchSpaced t :=
  ⟨h.apart hs.calendar hs.runs, h.spaced hs.calendar hs.search⟩

/-- The slot that a search chooses lies past every other run of its bay (R69, R74). -/
theorem grant_apart {s t : State} (hruns : RunsApart s) (hspaced : SearchSpaced s) {sr : Search} {r : Seek}
    {c : Slot} {o : Bool} (hsr : s.engine = some sr) (hc : chooseSlot sr = some (c, o))
    (hseeks : t.seeks = (s.putSeek sr.bay sr.pos (some (grantedSeek r c o))).seeks) : RunsApart t := by
  obtain ⟨-, hover⟩ := hspaced sr hsr c (chooseSlot_mem hc)
  have hseek (b : Bay) (p : Pos) : t.seekAt b p
      = if sr.bay = b ∧ sr.pos = p then some (grantedSeek r c o) else s.seekAt b p := by
    rw [← State.seekAt_putSeek, State.seekAt, hseeks]
    rfl
  intro b p q x y l k hpq hx hy hl hk
  rw [hseek] at hx hy
  split at hx
  · next hp =>
    obtain ⟨rfl, rfl⟩ := hp
    obtain rfl := Option.some.inj hx
    rw [if_neg fun h => hpq h.2] at hy
    obtain rfl : c = l := Option.some.inj hl
    exact .inr (hover q y k hpq.symm hy hk)
  · split at hy
    · next hp hq =>
      obtain ⟨rfl, rfl⟩ := hq
      obtain rfl := Option.some.inj hy
      obtain rfl : c = k := Option.some.inj hk
      exact .inl (hover p x l hpq hx hl)
    · exact hruns b p q x y l k hpq hx hy hl hk

theorem Move.apart {n : Nat} (hn : n ≤ 1) {s t : State} (h : Move s t) (hs : SpacingOnCourse n s) :
    RunsApart t ∧ SearchSpaced t := by
  cases h with
  | same h => exact (RunsKept.of_seeks h.seeks fun sr hsr => h.engine ▸ hsr).both hs
  | rehold | rebuilt | recommit => exact ⟨hs.runs, hs.search⟩
  | idle => exact ⟨hs.runs, fun _ h => nomatch h⟩
  | search b p sr h hplace =>
    obtain ⟨r, hr, rfl, -⟩ := trySeek_some h
    refine ⟨hs.runs, prepareSearch_spaced hs.calendar (windowNear_of_posted hn hs.calendar hs.windows hr ?_)⟩
    obtain ⟨x, hx, hstate⟩ := isPosted_iff.mp (hs.calendar.queue.place_posted hplace)
    obtain rfl := Option.some.inj (hr.symm.trans hx)
    exact hstate
  | release b p r h hstate =>
    rw [abandonSearch_eq, dequeue_eq]
    refine RunsKept.both (.put (b := b) (p := p) (x := none) rfl (fun sr hsr => ?_)
      fun _ _ hy => nomatch hy) hs
    exact (Option.filter_eq_some_iff.mp hsr).1
  | withdraw b p r h hstate =>
    rw [removeExposure_eq]
    exact RunsKept.both (.put (b := b) (p := p) (x := none) rfl (fun _ => id) fun _ _ hy => nomatch hy) hs
  | post b p r h hcompiled hstate hlaunch =>
    refine RunsKept.both (.put (b := b) (p := p) (x := some r) rfl (fun _ => id) fun y l hy hl => ?_) hs
    obtain rfl := Option.some.inj hy
    rw [hlaunch] at hl
    cases hl
  | grant sr r c o hsr h hc hnear =>
    rw [addExposure, changeExposure_eq, dequeue_eq]
    exact ⟨grant_apart hs.runs hs.search hsr hc rfl, fun _ h => nomatch h⟩
  | confirm b p r h hstate | launch b p r h hstate =>
    refine RunsKept.both (.put (b := b) (p := p) rfl (fun _ => id) fun y l hy hl => ?_) hs
    obtain rfl := Option.some.inj hy
    exact ⟨r, h, hl, le_rfl⟩
  | cut b p r h hstate hcut =>
    rw [replaceExposure_eq]
    refine RunsKept.both (.put (b := b) (p := p) rfl (fun _ => id) fun y l hy hl => ?_) hs
    obtain rfl := Option.some.inj hy
    have hlaunch : r.launch = some l := hl
    obtain ⟨hcompiled, hcourse⟩ := hs.calendar.course b p r h
    have htimely : r.Timely s.now := hcourse.resolve_right fun hd => by simp [Seek.Due, hstate] at hd
    exact ⟨r, h, hl, (cutIndex_of_timely hlaunch hstate hcompiled.tailEnd_le.1 htimely).2.1⟩

theorem QuietMove.windowsNear {n : Nat} {s t : State} (h : QuietMove s t) (hw : WindowsNear n s) :
    WindowsNear n t := by
  obtain ⟨h, hqueue⟩ := h
  cases h with
  | same h => exact hw.of h.slot fun b p r hr _ => h.seekAt b p ▸ hr
  | rehold | idle | search | rebuilt | recommit => exact hw
  | release b p =>
    rw [abandonSearch_eq, dequeue_eq]
    exact hw.put (b := b) (p := p) (x := none) rfl rfl fun _ h => nomatch h
  | withdraw b p =>
    rw [removeExposure_eq]
    exact hw.put (b := b) (p := p) (x := none) rfl rfl fun _ h => nomatch h
  | post => exact absurd (List.length_append.symm.trans_le hqueue) (Nat.not_succ_le_self _)
  | grant sr r c o =>
    rw [addExposure, changeExposure_eq, dequeue_eq]
    refine hw.put (b := sr.bay) (p := sr.pos) (x := some (grantedSeek r c o)) rfl rfl fun y hy => ?_
    obtain rfl := Option.some.inj hy
    simp only [grantedSeek]
    split <;> simp
  | confirm b p | launch b p =>
    refine hw.put (b := b) (p := p) rfl rfl fun y hy => ?_
    obtain rfl := Option.some.inj hy
    simp
  | cut b p r h hstate =>
    rw [replaceExposure_eq]
    refine hw.put (b := b) (p := p) rfl rfl fun y hy => ?_
    obtain rfl := Option.some.inj hy
    simp [recompileCut, hstate]

theorem QuietMoves.spacing {n : Nat} (hn : n ≤ 1) {s t : State} (h : QuietMoves s t)
    (hs : SpacingOnCourse n s) : SpacingOnCourse n t :=
  h.keeps (P := SpacingOnCourse n) (fun _ _ hmove hs => ⟨hmove.1.calendarOnCourse hs.calendar,
    hmove.windowsNear hs.windows, (hmove.1.apart hn hs).1, (hmove.1.apart hn hs).2⟩) hs

/-! ## An accepted notice (R10, R13) -/

/-- A notice's window opens at most 64 slots on and lasts at most 64. -/
theorem noticeSeek_window (s : State) (b : Bay) (n : Notice) :
    0 ≤ slotsAfter s.slot (noticeSeek s b n).earliest ∧ slotsAfter s.slot (noticeSeek s b n).earliest ≤ 64
      ∧ 0 ≤ ((noticeSeek s b n).latest - (noticeSeek s b n).earliest).toInt
      ∧ ((noticeSeek s b n).latest - (noticeSeek s b n).earliest).toInt ≤ 64 := by
  have hlead (span : Nat) : effectiveLead span n.lead ≤ 64 := by unfold effectiveLead clamp; omega
  have hwindow (span : Nat) : effectiveWindow span n.lead n.window ≤ 64 := by unfold effectiveWindow; omega
  unfold noticeSeek compileSeek
  dsimp only
  generalize slotsFor _ = span
  have hlead := hlead span
  have hwindow := hwindow span
  have hlatest (e : Slot) : (e + BitVec.ofNat 29 (effectiveWindow span n.lead n.window) - e).toInt
      = effectiveWindow span n.lead n.window := slotsAfter_self_add e (by omega)
  rw [slotsAfter_self_add s.slot (by omega), hlatest]
  omega

theorem queued_spacing {k : Nat} (hk : k ≤ 1) {s : State} {b : Bay} {p : Pos} {n : Notice}
    (hs : SpacingOnCourse k s) (hfree : s.seekAt b p = none) (hcompiled : (noticeSeek s b n).Compiled) :
    SpacingOnCourse k (s.queued b p n) := by
  have hpost : Move s (s.queued b p n) := .post b p _ hfree hcompiled rfl rfl rfl rfl
  obtain ⟨hruns, hsearch⟩ := hpost.apart hk hs
  refine ⟨hpost.calendarOnCourse hs.calendar, fun c q r hr hstate => ?_, hruns, hsearch⟩
  have hseek : (s.putSeek b p (some (noticeSeek s b n))).seekAt c q = some r := hr
  rw [State.seekAt_putSeek] at hseek
  split at hseek
  · obtain rfl := Option.some.inj hseek
    obtain ⟨hlo, hhi, hwindow⟩ := noticeSeek_window s b n
    show _ ≤ slotsAfter s.slot _ ∧ slotsAfter s.slot _ ≤ _ ∧ _
    exact ⟨by omega, by omega, hwindow⟩
  · exact hs.windows c q r hseek hstate

/-! ## A boundary -/

/-- A boundary moves every window back by a slot at most. -/
theorem slotOpened_windowsNear {s : State} (hw : WindowsNear 0 s) : WindowsNear 1 s.slotOpened := by
  intro b p r hr hstate
  rw [slotOpened_seekAt, Option.bind_eq_some_iff] at hr
  obtain ⟨x, hx, hr⟩ := hr
  obtain rfl | rfl := endedSeek_some hr
  · obtain ⟨hlo, hhi, hwindow⟩ := hw b p r hx hstate
    have hone := slotsAfter_add_one s.slot
    have hback : slotsAfter (s.slot + 1) r.earliest = slotsAfter s.slot r.earliest - 1 := by
      rw [slotsAfter, toInt_sub_eq s.slot] <;> omega
    have hslot : s.slotOpened.slot = s.slot ∨ s.slotOpened.slot = s.slot + 1 := by
      rw [slotOpened_slot, slotOf_succ]
      split
      exacts [.inr rfl, .inl rfl]
    refine ⟨?_, ?_, hwindow⟩ <;> obtain hslot | hslot := hslot <;> rw [hslot] <;> omega
  · cases hstate

theorem slotOpened_runsKept (s : State) : RunsKept s s.slotOpened := by
  refine ⟨fun b p r l hr hl => ?_, fun sr hsr => slotOpened_engine s ▸ hsr⟩
  rw [slotOpened_seekAt, Option.bind_eq_some_iff] at hr
  obtain ⟨x, hx, hr⟩ := hr
  obtain heq | heq := endedSeek_some hr <;>
    · rw [heq] at hl ⊢
      exact ⟨x, hx, hl, le_rfl⟩

theorem slotOpened_spacing {s : State} (hs : CalendarSettled s) (hage : SearchAge 6 s)
    (hspacing : SpacingOnCourse 0 s) : SpacingOnCourse 1 s.slotOpened := by
  obtain ⟨hruns, hsearch⟩ := (slotOpened_runsKept s).both hspacing
  exact ⟨⟨slotOpened_queueLawful hs.queue, slotOpened_onCourse hs.seeks,
    slotOpened_searchLawful hs.search hage, slotOpened_exposureAgrees hs.seeks hs.exposure⟩,
    slotOpened_windowsNear hspacing.windows, hruns, hsearch⟩

theorem takeBoundary_spacing (order : List Duty) {s : State} (hs : CalendarSettled s)
    (hspacing : SpacingOnCourse 0 s) : SpacingOnCourse 1 (takeBoundary order s) := by
  have hover := (completeOverdue_moves order s).settled hs
  have hover' := (completeOverdue_orderly order s).moves.spacing (Nat.zero_le 1) hspacing
  have hage := completeOverdue_searchAge order s
  unfold takeBoundary
  dsimp only
  generalize completeOverdue order s = u at hover hover' hage
  exact (duties_orderly _ order _).moves.spacing le_rfl (slotOpened_spacing hover hage hover')

/-! ## Resets -/

theorem CalendarBlank.spacing {s : State} (h : CalendarBlank s) (n : Nat) : SpacingOnCourse n s := by
  refine ⟨h.settled.onCourse, fun b p r hr => ?_, fun b p q r t l m _ hr => ?_, fun sr hsr => ?_⟩
  · rw [h.seekAt] at hr
    cases hr
  · rw [h.seekAt] at hr
    cases hr
  · rw [h.engine] at hsr
    cases hsr

theorem releaseReset_spacing (order : List Duty) {s : State} (h : CalendarBlank s) :
    SpacingOnCourse 0 (releaseReset order s) := by
  have hlifted : CalendarBlank (s.setPins { s.pins with resetHeld := false }) :=
    ⟨h.seekAt, h.queue, h.engine, h.exposureAt⟩
  exact (releaseReset_orderly order s).moves.spacing (Nat.zero_le 1) ((boundaryStart_blank hlifted).spacing 0)

/-! ## Every step (R69) -/

theorem ArbiterEvent.apart {s t : State} (h : ArbiterEvent s t) (hheld : HeldAtReset s)
    (hset : SettingsLawful s) (hs : CalendarSettled s) (hspacing : SpacingOnCourse 0 s) :
    RunsApart t ∧ SearchSpaced t := by
  suffices hn : ∃ n, SpacingOnCourse n t by
    obtain ⟨n, hn⟩ := hn
    exact ⟨hn.runs, hn.search⟩
  cases h with
  | orderly h => exact ⟨0, h.moves.spacing (Nat.zero_le 1) hspacing⟩
  | @notice u _ b p n payload h hset' hfree hread hlen k =>
    have hsetu : SettingsLawful u := fun c => by
      rw [State.setting, hset']
      exact hset c
    have hu := h.orderly.moves.spacing (Nat.zero_le 1) hspacing
    exact ⟨0, k.moves.spacing (Nat.zero_le 1)
      (queued_spacing (Nat.zero_le 1) hu hfree (noticeSeek_compiled hread hsetu hlen))⟩
  | boundary order => exact ⟨1, takeBoundary_spacing order hs hspacing⟩
  | reset c x => exact ⟨0, (hubReset_blank c x s).spacing 0⟩
  | release order h => exact ⟨0, releaseReset_spacing order (heldAtReset_blank hheld h)⟩
  | command => exact ⟨0, releaseReset_spacing _ (hubReset_blank ..)⟩

/-- Settles O58: runs only shorten, and a grant takes a slot that its search found past every other run of the
bay. -/
theorem stepKeepsRunsApart : Obligations.StepKeepsRunsApart := by
  rintro s t h hfresh ⟨hcalendar, hruns, hsearch⟩
  refine ⟨stepKeepsTheCalendar s t h hcalendar, ?_⟩
  obtain ⟨hheld, hset, hqueue, hseeks, hsearchLawful, hexposure⟩ := hcalendar
  have hs : CalendarSettled s := ⟨hqueue, hseeks, hsearchLawful, hexposure⟩
  have hspacing : SpacingOnCourse 0 s := ⟨hs.onCourse, windowsNear_of_fresh hfresh, hruns, hsearch⟩
  obtain ⟨u, rfl | ⟨x, rfl⟩, hu⟩ := step_arbiterEvent h
  · exact hu.apart hheld hset hs hspacing
  · have hpopped := setPending_same_calendar s x
    exact hu.apart (heldAtReset_setPending hheld x) hset (hpopped.moves.settled hs)
      (hpopped.orderly.moves.spacing (Nat.zero_le 1) hspacing)

end Sys2Proof.Machine
end

section
/-! PROOF. The search start (SearchStartTakesOldestUnheld) and a search that a slot start has overtaken
(OvertakenSearchIsRerun). -/

namespace Sys2Proof.Machine

/-! ## The search start (R66, R67, R71) -/

/-- The entry with its hold flag set. -/
def QueueEntry.hold (e : QueueEntry) : QueueEntry :=
  { e with held := true }

theorem QueueEntry.hold_of_held {e : QueueEntry} (h : e.held = true) : e.hold = e := by
  rw [QueueEntry.hold, ← h]

/-- No search can start on the entry: it is held, or no candidate is left for its seek. -/
def QueueEntry.Barred (s : State) (e : QueueEntry) : Prop :=
  e.held = true ∨ ∀ r, s.seekAt e.bay e.pos = some r → (prepareSearch s e.bay e.pos r).candidates = []

theorem trySeek_none_iff {s : State} {b : Bay} {p : Pos} : trySeek s b p = none
    ↔ ∀ r, s.seekAt b p = some r → (prepareSearch s b p r).candidates = [] := by
  unfold trySeek
  split
  · next h => simp [h]
  · next r h => simp [h]

theorem trySeek_of_candidates {s : State} {b : Bay} {p : Pos} {r : Seek} (hr : s.seekAt b p = some r)
    (h : (prepareSearch s b p r).candidates ≠ []) : trySeek s b p = some (prepareSearch s b p r) := by
  rw [trySeek, hr]
  exact if_neg h

theorem scanQueue_barred {s : State} {e : QueueEntry} (h : e.Barred s) (rest : List QueueEntry) :
    scanQueue s (e :: rest) = (e.hold :: (scanQueue s rest).1, (scanQueue s rest).2) := by
  rw [scanQueue]
  split
  · next hheld => rw [QueueEntry.hold_of_held hheld]
  · next hheld =>
    rw [trySeek_none_iff.mpr (h.resolve_left hheld)]
    rfl

theorem scanQueue_open {s : State} {e : QueueEntry} {sr : Search} (hheld : e.held = false)
    (htry : trySeek s e.bay e.pos = some sr) (rest : List QueueEntry) :
    scanQueue s (e :: rest) = (e :: rest, some sr) := by
  rw [scanQueue, if_neg (by simp [hheld]), htry]

/-- The scan ends with every entry held, or at the oldest entry that is not barred. -/
theorem scanQueue_cases (s : State) (q : List QueueEntry) :
    (scanQueue s q = (q.map QueueEntry.hold, none) ∧ ∀ e ∈ q, e.Barred s)
      ∨ ∃ before e after r, q = before ++ e :: after ∧ e.held = false ∧ s.seekAt e.bay e.pos = some r
        ∧ (prepareSearch s e.bay e.pos r).candidates ≠ []
        ∧ scanQueue s q = (before.map QueueEntry.hold ++ e :: after, some (prepareSearch s e.bay e.pos r))
        ∧ ∀ x ∈ before, x.Barred s := by
  induction q with
  | nil => exact .inl ⟨rfl, fun _ h => nomatch h⟩
  | cons e rest ih =>
    by_cases hbarred : e.Barred s
    · rw [scanQueue_barred hbarred]
      obtain ⟨hscan, hrest⟩ | ⟨before, x, after, r, rfl, hheld, hr, hcandidates, hscan, hbefore⟩ := ih
      · exact .inl ⟨by rw [hscan]; rfl, List.forall_mem_cons.mpr ⟨hbarred, hrest⟩⟩
      · exact .inr ⟨e :: before, x, after, r, rfl, hheld, hr, hcandidates, by rw [hscan]; rfl,
          List.forall_mem_cons.mpr ⟨hbarred, hbefore⟩⟩
    · obtain ⟨hheld, hopen⟩ := not_or.mp hbarred
      obtain ⟨sr, htry⟩ := Option.ne_none_iff_exists'.mp (mt trySeek_none_iff.mp hopen)
      obtain ⟨r, hr, rfl, hcandidates⟩ := trySeek_some htry
      have hheld : e.held = false := by simpa using hheld
      exact .inr ⟨[], e, rest, r, rfl, hheld, hr, hcandidates, scanQueue_open hheld htry rest,
        fun _ h => nomatch h⟩

theorem searchStart_of_idle {s : State} (hidle : s.engine = none) (hrebuild : s.rebuild = none) :
    searchStart s = (s.setQueue (scanQueue s s.queue).1).setEngine (scanQueue s s.queue).2 :=
  if_pos ⟨by rw [hidle]; rfl, by rw [hrebuild]; rfl⟩

theorem searchStart_of_barred {s : State} (h : s.engine ≠ none ∨ s.rebuild ≠ none) :
    searchStart s = s := by
  obtain h | h := h
  · obtain ⟨sr, hsr⟩ := Option.ne_none_iff_exists'.mp h
    exact searchStart_of_searching hsr
  · obtain ⟨m, hm⟩ := Option.ne_none_iff_exists'.mp h
    exact searchStart_of_rebuilding hm

/-- Settles O14: the scan's two outcomes. -/
theorem searchStartTakesOldestUnheld : Obligations.SearchStartTakesOldestUnheld := by
  refine fun s => ⟨fun h => congrArg Host.Outcome.next (searchStart_of_barred h),
    fun hidle hrebuild => ⟨searchStart s, rfl, searchStart_eq s, ?_⟩⟩
  rw [searchStart_of_idle hidle hrebuild]
  obtain ⟨hscan, hbarred⟩ | ⟨before, e, after, r, hq, hheld, hr, hcandidates, hscan, hbefore⟩ :=
    scanQueue_cases s s.queue
  · rw [hscan]
    exact .inl ⟨rfl, rfl, hbarred⟩
  · rw [hscan]
    exact .inr ⟨before, e, after, r, hq, hheld, hr, hcandidates, rfl, rfl, hbefore⟩

/-! ## A search overtaken by a slot start (R71, R76, R79) -/

theorem completeSearch_of_idle {s : State} (h : s.engine = none) : completeSearch s = s := by
  rw [completeSearch, h]

theorem completeSearch_overtaken {s : State} {sr : Search} {r : Seek} {c : Slot} {o : Bool}
    (hsr : s.engine = some sr) (hr : s.seekAt sr.bay sr.pos = some r) (hc : chooseSlot sr = some (c, o))
    (hnear : atOrBefore (s.slot + 2) c = false) : completeSearch s = rerunSearch sr.bay sr.pos s := by
  simp only [completeSearch, hsr, hr, hc]
  exact if_neg (Bool.eq_false_iff.mp hnear)

theorem rerunSearch_of_rebuilding {s : State} (b : Bay) (p : Pos) (h : s.rebuild ≠ none) :
    rerunSearch b p s = s.setEngine none :=
  if_pos (Option.isSome_iff_ne_none.mpr h)

theorem rerunSearch_of_candidates {s : State} {b : Bay} {p : Pos} {r : Seek} (hrebuild : s.rebuild = none)
    (hr : s.seekAt b p = some r) (h : (prepareSearch s b p r).candidates ≠ []) :
    rerunSearch b p s = s.setEngine (some (prepareSearch s b p r)) := by
  rw [rerunSearch, if_neg (by simp [hrebuild]), trySeek_of_candidates hr h]

theorem rerunSearch_of_none {s : State} {b : Bay} {p : Pos} {r : Seek} (hrebuild : s.rebuild = none)
    (hr : s.seekAt b p = some r) (h : (prepareSearch s b p r).candidates = []) :
    rerunSearch b p s = searchStart ((holdEntry b p s).setEngine none) := by
  have htry : trySeek s b p = none := trySeek_none_iff.mpr fun x hx => by
    obtain rfl := Option.some.inj (hr.symm.trans hx)
    exact h
  rw [rerunSearch, if_neg (by simp [hrebuild]), htry]

/-- Settles O18: the three outcomes of a search run anew. -/
theorem overtakenSearchIsRerun : Obligations.OvertakenSearchIsRerun := by
  refine fun s => ⟨fun hidle => congrArg Host.Outcome.next (completeSearch_of_idle hidle),
    fun sr r c o hsr hr hc hnear => ?_⟩
  have hexec : exec .searchComplete s = .next (rerunSearch sr.bay sr.pos s) :=
    congrArg Host.Outcome.next (completeSearch_overtaken hsr hr hc hnear)
  rw [hexec]
  refine ⟨fun hrebuild => ?_, fun hrebuild hleft => ?_, fun hrebuild hnone => ?_⟩
  · rw [rerunSearch_of_rebuilding _ _ hrebuild]
  · rw [rerunSearch_of_candidates hrebuild hr hleft]
  · rw [rerunSearch_of_none hrebuild hr hnone]
    rfl

end Sys2Proof.Machine
end

section
/-! PROOF. The law of one delivery list, between events and inside a sample boundary before its stream's
duty, and what keeps it (R97, R102, R104). -/

namespace Sys2Proof.Machine

/-! ## Chained records (R104) -/

/-- The first sample and the length of a delivery record. -/
def Delivery.span (x : Delivery) : Sample × Nat :=
  (x.first, x.burst)

/-- A chain is a matter of its records' first samples and lengths. -/
theorem Chained.congr {n : Nat} {f : Sample} {ds es : List Delivery} (h : Chained n f ds)
    (hspans : es.map Delivery.span = ds.map Delivery.span) :
    Chained n f es := by
  induction ds generalizing es with
  | nil =>
    rw [List.map_nil, List.map_eq_nil_iff] at hspans
    rw [hspans]
    trivial
  | cons d ds ih =>
    obtain ⟨e, es, rfl, hspan, hspans⟩ := List.map_eq_cons_iff.mp hspans
    obtain ⟨hburst, hfirst, hrest⟩ := h
    obtain ⟨hf, hb⟩ := Prod.mk.inj hspan
    have hlen : es.length = ds.length := by simpa using congrArg List.length hspans
    exact ⟨hb.trans hburst, by rw [hf, hlen, hfirst], ih hrest hspans⟩

/-- The burst that begins where the chain ends joins it. -/
theorem Chained.append {n : Nat} {f : Sample} {ds : List Delivery} (h : Chained n f ds) {d : Delivery}
    (hfirst : d.first = f) (hburst : d.burst = n) : Chained n (f + BitVec.ofNat 32 n) (ds ++ [d]) := by
  induction ds with
  | nil =>
    refine ⟨hburst, ?_, trivial⟩
    rw [hfirst]
    simp
  | cons x rest ih =>
    obtain ⟨hx, hend, hrest⟩ := h
    refine ⟨hx, ?_, ih hrest⟩
    have hlen : (rest.append [d]).length = rest.length + 1 := List.length_append
    rw [← hend, hlen, Nat.mul_succ, BitVec.ofNat_add, ← BitVec.add_assoc]

/-- The first sample after a delivery record. -/
def Delivery.finish (x : Delivery) : Sample :=
  x.first + BitVec.ofNat 32 x.burst

/-- The record behind another begins where that one ends. -/
theorem Chained.next {n : Nat} {f : Sample} {x y : Delivery} {rest : List Delivery}
    (h : Chained n f (x :: y :: rest)) : y.finish = x.finish + BitVec.ofNat 32 n := by
  obtain ⟨hx, hxend, hy, hyend, -⟩ := h
  have hlen : n * ((y :: rest).length + 1) = n * (rest.length + 1) + n := by
    rw [List.length_cons]
    ring
  rw [← hyend, hlen, BitVec.ofNat_add, ← BitVec.add_assoc] at hxend
  unfold Delivery.finish
  rw [hx, hy]
  generalize BitVec.ofNat 32 (n * (rest.length + 1)) = k at hxend
  generalize BitVec.ofNat 32 n = m at hxend ⊢
  have hnext : x.first + m = y.first := by bv_omega
  rw [hnext]

/-- No record is held past its last sample (R104). -/
def Unended (now : Sample) (ds : List Delivery) : Prop :=
  ∀ x ∈ ds, 1 ≤ (x.finish - now).toInt

theorem toInt_succ_sub {a m : Sample} (h : 1 ≤ (a - m).toInt) :
    (a - (m + 1)).toInt = (a - m).toInt - 1 := by
  have hsub : a - (m + 1) = a - m - 1 := by bv_omega
  rw [hsub]
  generalize a - m = v at h ⊢
  have hlt := v.toInt_lt
  have hv := toInt_of_pos h
  rw [hv] at h hlt ⊢
  have hone : (v - 1).toNat = v.toNat - 1 := by bv_omega
  rw [BitVec.toInt_eq_toNat_of_lt (by omega), hone]
  omega

/-- Of a chain whose records reach past sample `m`, only the oldest can end with it. -/
theorem Chained.rest_later {n : Nat} (hn : 1 ≤ n ∧ n ≤ 8) {f m : Sample} {x : Delivery}
    {rest : List Delivery} (h : Chained n f (x :: rest)) (hcurrent : Unended m (x :: rest)) :
    ∀ y ∈ rest, y.finish ≠ m + 1 := by
  induction rest generalizing x with
  | nil => simp
  | cons y rest ih =>
    obtain ⟨-, -, hrest⟩ := id h
    refine List.forall_mem_cons.mpr ⟨fun hy => ?_, ih hrest fun z hz => hcurrent z (.tail _ hz)⟩
    have hx := hcurrent x (.head _)
    rw [h.next] at hy
    have hdiff : x.finish - m = 1 - BitVec.ofNat 32 n := by bv_omega
    rw [hdiff, BitVec.toInt_eq_toNat_cond] at hx
    split at hx <;> bv_omega

/-- A chain's records that end later than the next sample are a chain still. -/
theorem Chained.retire {n : Nat} (hn : 1 ≤ n ∧ n ≤ 8) {f m : Sample} {ds : List Delivery}
    (h : Chained n f ds) (hcurrent : Unended m ds) :
    Chained n f (ds.filter fun x => x.finish != m + 1) := by
  cases ds with
  | nil => exact h
  | cons x rest =>
    obtain ⟨hburst, hend, hrest⟩ := id h
    have hkept : (rest.filter fun y => y.finish != m + 1) = rest :=
      List.filter_eq_self.mpr fun y hy => by simpa using h.rest_later hn hcurrent y hy
    rw [List.filter_cons, hkept]
    split
    · exact h
    · exact hrest

theorem Unended.retire {m : Sample} {ds : List Delivery} (h : Unended m ds) :
    Unended (m + 1) (ds.filter fun x => x.finish != m + 1) := by
  intro x hx
  obtain ⟨hmem, hne⟩ := List.mem_filter.mp hx
  have hlater := h x hmem
  rw [toInt_succ_sub hlater]
  have hone : (x.finish - m).toInt ≠ 1 := by
    intro heq
    have hfinish : x.finish - m = 1 := BitVec.eq_of_toInt_eq heq
    rw [bne_iff_ne] at hne
    exact hne (by bv_omega)
  omega

/-- A chain that ends `a` samples ahead, none of its records past its last sample, holds no more records
than bursts begin in that time. -/
theorem Chained.length_le {n a : Nat} {now : Sample} {ds : List Delivery}
    (h : Chained n (now + BitVec.ofNat 32 a) ds) (hcurrent : Unended now ds) (hn : n = 4 ∨ n = 8)
    (ha : a ≤ 64 + n) (hlen : ds.length ≤ 18) : ds.length ≤ 17 := by
  cases ds with
  | nil => simp
  | cons x rest =>
    obtain ⟨hburst, hend, -⟩ := h
    have hx := hcurrent x (.head _)
    have hfinish : x.finish - now = BitVec.ofNat 32 a - BitVec.ofNat 32 (n * rest.length) := by
      rw [Nat.mul_succ, BitVec.ofNat_add] at hend
      unfold Delivery.finish
      rw [hburst]
      bv_omega
    rw [List.length_cons] at hlen ⊢
    have hlt := (BitVec.ofNat 32 a - BitVec.ofNat 32 (n * rest.length)).toInt_lt
    rw [hfinish] at hx
    have hpos := toInt_of_pos hx
    rw [hpos] at hx hlt
    obtain rfl | rfl := hn
    · bv_omega
    · bv_omega

/-! ## The law of one stream (R97, R102, R104) -/

/-- The effective values lie in their ranges (R97). -/
def Stream.Shaped (t : Stream) : Prop :=
  (t.burstLen = 4 ∨ t.burstLen = 8) ∧ 8 ≤ t.lead ∧ t.lead ≤ 64

/-- The stream's burst boundary duty of sample `now` is still to be taken: `pending` says that the boundary's
duty has not been, and `now` is a burst boundary. -/
def Stream.Due (pending : Bool) (now : Sample) (t : Stream) : Prop :=
  pending = true ∧ sinceBoundary t.burstLen now = 0

/-- How far past sample `now` the bursts of the burst boundaries reach, but for one whose duty is still to be
taken. -/
def Stream.reach (pending : Bool) (now : Sample) (t : Stream) : Nat :=
  if pending = true ∧ sinceBoundary t.burstLen now = 0 then t.lead
  else t.lead + t.burstLen - sinceBoundary t.burstLen now

/-- The burst `x` is that of the latest burst boundary, and the list ends where it begins. -/
structure Stream.Computes (now : Sample) (t : Stream) (x : Burst) : Prop where
  running : t.state = .running
  first : x.first = now + BitVec.ofNat 32 (t.lead - sinceBoundary t.burstLen now)
  start : x.start = now - BitVec.ofNat 32 (sinceBoundary t.burstLen now)
  since : sinceBoundary t.burstLen now ≤ 1
  chained : Chained t.burstLen x.first t.delivery

/-- The law of a delivery list with what carries it, between events and, where `pending`, inside a sample
boundary before the stream's duty. -/
structure Stream.OnCourse (pending : Bool) (now : Sample) (t : Stream) : Prop where
  shaped : t.Shaped
  count : t.delivery.length ≤ 17
  unended : Unended now t.delivery
  computing : ∀ x, t.burst = some x → t.Computes now x ∧ ¬ t.Due pending now
  running : t.burst = none → t.state = .running →
    Chained t.burstLen (now + BitVec.ofNat 32 (t.reach pending now)) t.delivery
  draining : t.state = .draining → ∃ f, Chained t.burstLen f t.delivery
  idle : t.state = .off ∨ t.state = .starting → t.delivery = []

section
variable {t u : Stream} {now : Sample} {pending : Bool}

theorem Stream.Shaped.since_lt (h : t.Shaped) (now : Sample) : sinceBoundary t.burstLen now < t.burstLen :=
  Nat.mod_lt _ (by obtain h | h := h.1 <;> omega)

/-- One sample on, the boundary is one sample further back, or it is the burst boundary now. -/
theorem Stream.Shaped.since_succ (h : t.Shaped) (now : Sample) : sinceBoundary t.burstLen (now + 1)
    = if sinceBoundary t.burstLen now + 1 = t.burstLen then 0 else sinceBoundary t.burstLen now + 1 := by
  unfold sinceBoundary
  obtain h | h := h.1
  · rw [h]
    split <;> bv_omega
  · rw [h]
    split <;> bv_omega

theorem Stream.reach_of_due (h : t.Due pending now) : t.reach pending now = t.lead := if_pos h

theorem Stream.reach_of_not_due (h : ¬ t.Due pending now) :
    t.reach pending now = t.lead + t.burstLen - sinceBoundary t.burstLen now := if_neg h

theorem Stream.not_due_false : ¬ t.Due false now := fun h => nomatch h.1

theorem Stream.OnCourse.burst_none_of_due (h : t.OnCourse pending now) (hdue : t.Due pending now) :
    t.burst = none := by
  cases hb : t.burst with
  | none => rfl
  | some x => exact absurd hdue (h.computing x hb).2

/-- A stream that is not RUNNING computes no burst. -/
theorem Stream.OnCourse.burst_none (h : t.OnCourse pending now) (hstate : t.state ≠ .running) :
    t.burst = none := by
  cases hb : t.burst with
  | none => rfl
  | some x => exact absurd (h.computing x hb).1.running hstate

/-- Between events the law of a delivery list is the one that OnCourse carries. -/
theorem Stream.OnCourse.lawful (h : t.OnCourse false now) : t.DeliveryLawful now := by
  refine ⟨h.count, h.unended, ?_, h.draining⟩
  cases hb : t.burst with
  | none =>
    intro hrunning
    have hchained := h.running hb hrunning
    rwa [reach_of_not_due not_due_false] at hchained
  | some x =>
    obtain ⟨hx, -⟩ := h.computing x hb
    have hfirst : t.lead + t.burstLen - sinceBoundary t.burstLen now - t.burstLen
        = t.lead - sinceBoundary t.burstLen now := by omega
    exact ⟨hfirst ▸ hx.first, hx.start, hx.since, hx.chained⟩

theorem Stream.DeliveryLawful.onCourse (h : t.DeliveryLawful now) (hshaped : t.Shaped)
    (hrunning : t.state ≠ .running → t.burst = none)
    (hidle : t.state = .off ∨ t.state = .starting → t.delivery = []) : t.OnCourse false now := by
  obtain ⟨hcount, hunended, hburst, hdraining⟩ := h
  refine ⟨hshaped, hcount, hunended, fun x hx => ⟨?_, not_due_false⟩, fun hnone hon => ?_, hdraining, hidle⟩
  · rw [hx] at hburst
    obtain ⟨hfirst, hstart, hsince, hchained⟩ := hburst
    have hstate : t.state = .running := by
      by_contra hne
      rw [hrunning hne] at hx
      cases hx
    refine ⟨hstate, ?_, hstart, hsince, hchained⟩
    rw [hfirst]
    congr 2
    omega
  · rw [hnone] at hburst
    rw [reach_of_not_due not_due_false]
    exact hburst hon

/-! ## What keeps the law of one stream -/

/-- `u` differs from `t` at most in revisions, coverage, flags and values. -/
structure Stream.SameCourse (t u : Stream) : Prop where
  state : u.state = t.state
  burstLen : u.burstLen = t.burstLen
  lead : u.lead = t.lead
  spans : u.delivery.map Delivery.span = t.delivery.map Delivery.span
  burst : u.burst.map (fun x => (x.first, x.start)) = t.burst.map fun x => (x.first, x.start)

theorem Unended.congr {ds es : List Delivery} (h : Unended now ds)
    (hspans : es.map Delivery.span = ds.map Delivery.span) :
    Unended now es := by
  intro x hx
  have hmem : x.span ∈ ds.map Delivery.span := hspans ▸ List.mem_map_of_mem hx
  obtain ⟨y, hy, hspan⟩ := List.mem_map.mp hmem
  obtain ⟨hfirst, hburst⟩ := Prod.mk.inj hspan
  have hfinish : x.finish = y.finish := by rw [Delivery.finish, Delivery.finish, hfirst, hburst]
  rw [hfinish]
  exact h y hy

theorem Stream.OnCourse.same (h : t.OnCourse pending now) (k : t.SameCourse u) : u.OnCourse pending now := by
  have hdue : u.Due pending now ↔ t.Due pending now := by rw [Due, Due, k.burstLen]
  have hreach : u.reach pending now = t.reach pending now := by rw [reach, reach, k.burstLen, k.lead]
  refine ⟨?_, ?_, h.unended.congr k.spans, fun x hx => ?_, fun hnone hon => ?_, fun hon => ?_, fun hon => ?_⟩
  · rw [Shaped, k.burstLen, k.lead]
    exact h.shaped
  · have hlen : u.delivery.length = t.delivery.length := by simpa using congrArg List.length k.spans
    exact hlen ▸ h.count
  · have hburst := k.burst
    rw [hx, Option.map_some] at hburst
    obtain ⟨y, hy, hxy⟩ := Option.map_eq_some_iff.mp hburst.symm
    obtain ⟨hfirst, hstart⟩ := Prod.mk.inj hxy
    obtain ⟨hcomputes, hnot⟩ := h.computing y hy
    refine ⟨⟨k.state.trans hcomputes.running, ?_, ?_, ?_, ?_⟩, mt hdue.mp hnot⟩
    · rw [k.burstLen, k.lead, ← hfirst, hcomputes.first]
    · rw [k.burstLen, ← hstart, hcomputes.start]
    · exact k.burstLen ▸ hcomputes.since
    · rw [k.burstLen, ← hfirst]
      exact hcomputes.chained.congr k.spans
  · have hburst := k.burst
    rw [hnone, Option.map_none, eq_comm, Option.map_eq_none_iff] at hburst
    rw [k.burstLen, hreach]
    exact (h.running hburst (k.state ▸ hon)).congr k.spans
  · obtain ⟨f, hf⟩ := h.draining (k.state ▸ hon)
    exact ⟨f, k.burstLen ▸ hf.congr k.spans⟩
  · have hspans := k.spans
    rw [h.idle (k.state ▸ hon), List.map_nil, List.map_eq_nil_iff] at hspans
    exact hspans

/-- A stream that is OFF or STARTING with nothing to deliver or compute. -/
theorem Stream.onCourse_empty (hshaped : t.Shaped) (hstate : t.state = .off ∨ t.state = .starting)
    (hdelivery : t.delivery = []) (hburst : t.burst = none) : t.OnCourse pending now where
  shaped := hshaped
  count := by simp [hdelivery]
  unended := by simp [Unended, hdelivery]
  computing x hx := by simp [hburst] at hx
  running _ hon := by simp [hon] at hstate
  draining hon := by simp [hon] at hstate
  idle _ := hdelivery

theorem Stream.OnCourse.drain (h : t.OnCourse pending now) (hon : t.state = .running) :
    (drainingStream t).OnCourse pending now where
  shaped := h.shaped
  count := h.count
  unended := h.unended
  computing _ hx := nomatch hx
  running _ hstate := nomatch hstate
  draining _ := by
    cases hb : t.burst with
    | none => exact ⟨_, h.running hb hon⟩
    | some x => exact ⟨_, (h.computing x hb).1.chained⟩
  idle hstate := absurd hstate (by simp [drainingStream])

/-- The record that a burst's completion appends is the burst of the latest burst boundary (R103, R104). -/
theorem Stream.OnCourse.deliver (h : t.OnCourse pending now) {x : Burst} (hx : t.burst = some x) :
    (deliverBurst now x t).OnCourse pending now := by
  obtain ⟨hcomputes, hnot⟩ := h.computing x hx
  have hsince := h.shaped.since_lt now
  obtain ⟨hn, hlo, hhi⟩ := h.shaped
  obtain ⟨d, hfirst, hburst, hd⟩ : ∃ d : Delivery, d.first = x.first ∧ d.burst = t.burstLen
      ∧ (deliverBurst now x t).delivery = t.delivery ++ [d] := by
    refine ⟨_, ?_, ?_, rfl⟩
    · split <;> rfl
    · split <;> rfl
  have hreach : x.first + BitVec.ofNat 32 t.burstLen
      = now + BitVec.ofNat 32 (t.lead + t.burstLen - sinceBoundary t.burstLen now) := by
    rw [hcomputes.first, BitVec.add_assoc, ← BitVec.ofNat_add]
    congr 2
    omega
  have hchained : Chained t.burstLen (now + BitVec.ofNat 32 (t.lead + t.burstLen
      - sinceBoundary t.burstLen now)) (t.delivery ++ [d]) :=
    hreach ▸ hcomputes.chained.append hfirst hburst
  have hunended : Unended now (t.delivery ++ [d]) := by
    refine List.forall_mem_append.mpr ⟨h.unended, ?_⟩
    simp only [List.mem_singleton, forall_eq]
    rw [Delivery.finish, hfirst, hburst, hreach, BitVec.add_comm, BitVec.add_sub_cancel,
      BitVec.toInt_eq_toNat_of_lt] <;> rw [BitVec.toNat_ofNat] <;> omega
  have hcount : (t.delivery ++ [d]).length ≤ 17 := by
    refine hchained.length_le hunended hn (by omega) ?_
    rw [List.length_append]
    exact Nat.succ_le_succ h.count
  rw [← hd] at hchained hunended hcount
  refine ⟨h.shaped, hcount, hunended, fun y hy => (nomatch hy), fun _ _ => ?_, fun hon => ?_, fun hon => ?_⟩
  · rw [reach_of_not_due (t := deliverBurst now x t) hnot]
    exact hchained
  · exact absurd (hcomputes.running.symm.trans hon) (by simp)
  · exact absurd (hon.imp hcomputes.running.symm.trans hcomputes.running.symm.trans) (by simp)

/-- The burst that a burst boundary starts follows the bursts of those before it (R101, R102). -/
theorem Stream.OnCourse.startBurst (h : t.OnCourse true now) (hboundary : sinceBoundary t.burstLen now = 0)
    (hon : t.state = .starting ∨ t.state = .running) {x : Burst}
    (hfirst : x.first = now + BitVec.ofNat 32 t.lead) (hstart : x.start = now) :
    ({ t with state := .running, burst := some x } : Stream).OnCourse false now := by
  have hdue : t.Due true now := ⟨rfl, hboundary⟩
  refine ⟨h.shaped, h.count, h.unended, fun y hy => ⟨?_, not_due_false⟩, fun hnone => (nomatch hnone),
    fun hstate => (nomatch hstate), fun hstate => absurd hstate (by simp)⟩
  obtain rfl := Option.some.inj hy
  refine ⟨rfl, ?_, ?_, ?_, ?_⟩
  · show _ = now + BitVec.ofNat 32 (t.lead - sinceBoundary t.burstLen now)
    rw [hboundary, hfirst, Nat.sub_zero]
  · show _ = now - BitVec.ofNat 32 (sinceBoundary t.burstLen now)
    rw [hboundary, hstart, BitVec.sub_zero]
  · exact hboundary.trans_le (Nat.zero_le _)
  · obtain hstarting | hrunning := hon
    · have hempty : t.delivery = [] := h.idle (.inr hstarting)
      show Chained t.burstLen x.first t.delivery
      rw [hempty]
      trivial
    · have hchained := h.running (h.burst_none_of_due hdue) hrunning
      rw [reach_of_due hdue, ← hfirst] at hchained
      exact hchained

/-- Where a boundary has no burst to start, the stream's duty leaves it as it is. -/
theorem Stream.OnCourse.taken (h : t.OnCourse true now)
    (hnone : ¬ (sinceBoundary t.burstLen now = 0 ∧ (t.state = .starting ∨ t.state = .running))) :
    t.OnCourse false now := by
  refine ⟨h.shaped, h.count, h.unended, fun x hx => ⟨(h.computing x hx).1, not_due_false⟩,
    fun hburst hon => ?_, h.draining, h.idle⟩
  have hnot : ¬ t.Due true now := fun hdue => hnone ⟨hdue.2, .inr hon⟩
  have hchained := h.running hburst hon
  rwa [reach_of_not_due hnot, ← reach_of_not_due (pending := false) not_due_false] at hchained

/-- The next sample begins with the records that end before it retired, and a burst that started in the
sample that ends still computed (R102, R104). -/
theorem Stream.OnCourse.advance (h : t.OnCourse false now) (hfresh : ∀ x, t.burst = some x → x.start = now) :
    (retireRecords (now + 1) t).OnCourse true (now + 1) := by
  have hsince := h.shaped.since_lt now
  have hnext := h.shaped.since_succ now
  obtain ⟨hn, hlo, hhi⟩ := h.shaped
  have hn8 : 1 ≤ t.burstLen ∧ t.burstLen ≤ 8 := by omega
  refine ⟨h.shaped, (List.length_filter_le ..).trans h.count, h.unended.retire, fun x hx => ?_,
    fun hnone hon => ?_, fun hon => ?_, fun hon => ?_⟩
  · obtain ⟨hcomputes, -⟩ := h.computing x hx
    have hstart := hcomputes.start
    have hone := hcomputes.since
    have hzero : sinceBoundary t.burstLen now = 0 := by
      rw [hfresh x hx] at hstart
      generalize sinceBoundary t.burstLen now = k at hstart hone
      bv_omega
    rw [hzero, if_neg (by omega)] at hnext
    refine ⟨⟨hcomputes.running, ?_, ?_, hnext.le, hcomputes.chained.retire hn8 h.unended⟩, fun hdue => ?_⟩
    · show x.first = now + 1 + BitVec.ofNat 32 (t.lead - sinceBoundary t.burstLen (now + 1))
      rw [hcomputes.first, hnext, hzero]
      bv_omega
    · show x.start = now + 1 - BitVec.ofNat 32 (sinceBoundary t.burstLen (now + 1))
      rw [hfresh x hx, hnext]
      bv_omega
    · have hzero' : sinceBoundary t.burstLen (now + 1) = 0 := hdue.2
      omega
  · have hchained := (h.running hnone hon).retire hn8 h.unended
    have hreach : t.reach false now = t.reach true (now + 1) + 1 := by
      rw [reach_of_not_due not_due_false]
      by_cases hwrap : sinceBoundary t.burstLen now + 1 = t.burstLen
      · rw [if_pos hwrap] at hnext
        rw [reach_of_due ⟨rfl, hnext⟩]
        omega
      · rw [if_neg hwrap] at hnext
        rw [reach_of_not_due fun hdue => absurd (hnext.symm.trans hdue.2) (by omega), hnext]
        omega
    have hfinish : now + BitVec.ofNat 32 (t.reach false now)
        = now + 1 + BitVec.ofNat 32 (t.reach true (now + 1)) := by
      rw [hreach, Nat.add_comm, BitVec.ofNat_add, BitVec.add_assoc]
      rfl
    exact hfinish ▸ hchained
  · obtain ⟨f, hf⟩ := h.draining hon
    exact ⟨f, hf.retire hn8 h.unended⟩
  · show t.delivery.filter _ = []
    rw [h.idle hon]
    rfl

end

end Sys2Proof.Machine
end

section
/-! PROOF. Every operation but a sample boundary and a reset keeps the law of every delivery list. -/

namespace Sys2Proof.Machine

/-! ## What keeps the law of every list -/

/-- The clock stands, and every stream's delivery list keeps its law, whether or not the stream's burst
boundary duty is still to be taken. -/
structure KeepsCourse (s t : State) : Prop where
  now : t.now = s.now
  course : ∀ b pending, (s.stream b).OnCourse pending s.now → (t.stream b).OnCourse pending s.now

section
variable {s t u : State} {b : Bay}

theorem KeepsCourse.refl : KeepsCourse s s := ⟨rfl, fun _ _ h => h⟩

theorem KeepsCourse.trans (h : KeepsCourse s t) (k : KeepsCourse t u) : KeepsCourse s u where
  now := k.now.trans h.now
  course b pending hs := by
    have ht := k.course b pending
    rw [h.now] at ht
    exact ht (h.course b pending hs)

theorem KeepsCourse.ite {p : Prop} [Decidable p] (h : p → KeepsCourse s t) (k : ¬p → KeepsCourse s u) :
    KeepsCourse s (if p then t else u) := by
  split
  · exact h ‹_›
  · exact k ‹_›

theorem KeepsCourse.foldl {α : Type} {f : State → α → State} (h : ∀ s x, KeepsCourse s (f s x))
    (xs : List α) (s : State) : KeepsCourse s (xs.foldl f s) := by
  induction xs generalizing s with
  | nil => exact .refl
  | cons x xs ih => exact (h s x).trans (ih _)

/-- What changes neither clock nor streams. -/
theorem keepsCourse_of_streams (hnow : t.now = s.now) (h : t.streams = s.streams) : KeepsCourse s t := by
  refine ⟨hnow, fun b _ hs => ?_⟩
  rw [State.stream, h]
  exact hs

theorem Aside.course (h : Aside s t) : KeepsCourse s t :=
  keepsCourse_of_streams (congrArg TimeBase.sample h.time) h.streams

/-- One stream replaced, and its law kept. -/
theorem putStream_course {x : Stream} (h : ∀ pending, (s.stream b).OnCourse pending s.now →
    x.OnCourse pending s.now) : KeepsCourse s (s.putStream b x) :=
  ⟨rfl, fun _ pending hs => of_putStream (P := fun t => t.OnCourse pending s.now)
    (fun hb => h pending (hb ▸ hs)) hs⟩

end

/-! ## Streams -/

section
variable (b : Bay) (s : State)

theorem putLane_course (l : Lane) : KeepsCourse s (s.putLane b l) := keepsCourse_of_streams rfl rfl

theorem raiseCause_course (c : Cause) : KeepsCourse s (raiseCause c b s) := keepsCourse_of_streams rfl rfl

theorem searchStart_course : KeepsCourse s (searchStart s) := (searchStart_aside s).course

theorem answer_course (k : RequestKind) (status : Byte) (payload : State → List Byte) :
    KeepsCourse s (answer k status payload s) := (answer_aside ..).course

theorem takeChange_sameCourse (now a z : Sample) (t : Stream) : t.SameCourse (takeChange now a z t) where
  state := rfl
  burstLen := rfl
  lead := rfl
  spans := by
    unfold takeChange reviseRecords
    rw [List.map_map]
    refine List.map_congr_left fun x _ => ?_
    rw [Function.comp_apply]
    split <;> rfl
  burst := by
    unfold takeChange
    rw [Option.map_map]
    refine Option.map_congr fun x _ => ?_
    rw [Function.comp_apply]
    split <;> rfl

theorem forecastChange_course (a z : Sample) : KeepsCourse s (forecastChange b a z s) := by
  refine ⟨rfl, fun c pending hs => ?_⟩
  rw [forecastChange_stream]
  split
  · exact hs.same (takeChange_sameCourse ..)
  · exact hs

theorem readRevisions_course : KeepsCourse s (readRevisions s) := by
  refine ⟨rfl, fun c pending hs => ?_⟩
  rw [readRevisions_stream]
  exact hs.same ⟨rfl, rfl, rfl, rfl, rfl⟩

theorem dropRevision_course (m : Sample) : KeepsCourse s (s.putStream b (dropRevision m (s.stream b))) :=
  putStream_course fun _ hs => hs.same ⟨rfl, rfl, rfl, rfl, rfl⟩

theorem stopStream_course : KeepsCourse s (stopStream b s) :=
  putStream_course fun _ hs => Stream.onCourse_empty hs.shaped (.inl rfl) rfl rfl

/-! ## The shared operations -/

theorem freeSeek_course (p : Pos) : KeepsCourse s (freeSeek b s p) := by
  unfold freeSeek
  split
  · exact .refl
  · next r _ =>
    refine .ite (fun _ => ?_) fun _ => ?_
    · exact KeepsCourse.trans (t := dequeue b p (s.putSeek b p none)) (keepsCourse_of_streams rfl rfl)
        (abandonSearch_aside ..).course
    · exact KeepsCourse.trans (t := s.putSeek b p none) (keepsCourse_of_streams rfl rfl)
        ((changeExposure_aside ..).course.trans (forecastChange_course ..))

theorem freeBay_course : KeepsCourse s (freeBay b s) := .foldl (freeSeek_course b) _ _

theorem stopped_course : KeepsCourse s (stopStream b (freeBay b s)) :=
  (freeBay_course b s).trans (stopStream_course ..)

theorem releaseBay_course : KeepsCourse s (releaseBay b s) :=
  (stopped_course b s).trans (searchStart_course _)

theorem faultLane_course : KeepsCourse s (faultLane b s) :=
  ((putLane_course b s _).trans (raiseCause_course b _ .laneFault)).trans (releaseBay_course b _)

theorem handThen_course (f : Frame) {rest : State → State}
    (hrest : ∀ l, KeepsCourse (s.putLane b l) (rest (s.putLane b l))) :
    KeepsCourse s (handThen b f rest s) := by
  have hsame := hrest (s.lane b)
  rw [putLane_same] at hsame
  refine .ite (fun _ => hsame.trans (faultLane_course ..)) fun _ => ?_
  unfold handFrame
  split
  · exact hsame
  · exact (putLane_course b s _).trans (hrest _)

theorem sendFrame_course (f : Frame) : KeepsCourse s (sendFrame b f s) :=
  handThen_course b s f fun _ => .refl

theorem refuse_course (tag : Option Tag) (why : Reason) (kind : Byte) :
    KeepsCourse s (refuse b tag why kind s) := sendFrame_course ..

end

/-! ## Completions -/

theorem grantSteps_course (b : Bay) (p : Pos) (r : Seek) (s : State) :
    KeepsCourse s (grantSteps b p r s) := by
  have hgrant : KeepsCourse s ((dequeue b p (s.putSeek b p (some r))).setEngine none) :=
    keepsCourse_of_streams rfl rfl
  have hpublish := (hgrant.trans (addExposure_aside b _ r).course).trans
    (forecastChange_course b _ r.launchAt (lastOf r.launchAt r.tailEnd))
  exact (KeepsCourse.ite (fun _ => hpublish.trans (raiseCause_course b _ .forcedGrant))
    fun _ => hpublish).trans (searchStart_course _)

theorem completeSearch_course (s : State) : KeepsCourse s (completeSearch s) := by
  unfold completeSearch
  split
  · exact .refl
  · next sr _ =>
    split
    · exact .ite (fun _ => (handThen_course _ s _ fun l => grantSteps_course ..).trans
        (readRevisions_course _)) fun _ => keepsCourse_of_streams (rerunSearch_keeps ..).now
          (rerunSearch_streams ..)
    · exact KeepsCourse.trans (t := s.setEngine none) (keepsCourse_of_streams rfl rfl) (searchStart_course _)

theorem completeBurst_course (b : Bay) (s : State) : KeepsCourse s (completeBurst b s) := by
  unfold completeBurst
  split
  · exact .refl
  · next x hx =>
    exact (handThen_course b s _ fun l => putStream_course (s := s.putLane b l) fun _ hs =>
      hs.deliver hx).trans (readRevisions_course _)

theorem completeRevision_course (b : Bay) (m : Sample) (s : State) :
    KeepsCourse s (completeRevision b m s) := by
  unfold completeRevision
  split
  · exact .refl
  · exact (handThen_course b s _ fun l => dropRevision_course b _ m).trans (readRevisions_course _)

theorem drainedStream_onCourse {t : Stream} {pending : Bool} {now : Sample} (h : t.OnCourse pending now) :
    (drainedStream t).OnCourse pending now := by
  unfold drainedStream
  split
  · next hd => exact Stream.onCourse_empty h.shaped (.inl rfl) (of_decide_eq_true hd).2 rfl
  · exact h

theorem completeDrain_course (b : Bay) (s : State) : KeepsCourse s (completeDrain b s) := by
  rw [completeDrain_eq]
  exact (putStream_course fun _ => drainedStream_onCourse).trans (keepsCourse_of_streams rfl rfl)

theorem completeRebuild_course (x : Bool) (s : State) : KeepsCourse s (completeRebuild x s) :=
  keepsCourse_of_streams (completeRebuild_acts x s).any.now (completeRebuild_streams x s)

/-! ## Work that has reached its bound -/

theorem overdueBurst_course (s : State) (b : Bay) : KeepsCourse s (overdueBurst s b) := by
  unfold overdueBurst
  split
  · exact .ite (fun _ => .refl) fun _ => completeBurst_course ..
  · exact .refl

theorem overdueRevisions_course (s : State) (b : Bay) : KeepsCourse s (overdueRevisions s b) :=
  .foldl (fun u m => completeRevision_course b m u) _ _

theorem overdueSearch_course (s : State) : KeepsCourse s (overdueSearch s) := by
  unfold overdueSearch
  split
  · exact .ite (fun _ => completeSearch_course s) fun _ => .refl
  · exact .refl

theorem overdueRebuild_course (order : List Duty) (s : State) : KeepsCourse s (overdueRebuild order s) := by
  unfold overdueRebuild
  split
  · exact .ite (fun _ => completeRebuild_course ..) fun _ => .refl
  · exact .refl

theorem completeOverdue_course (order : List Duty) (s : State) : KeepsCourse s (completeOverdue order s) :=
  (((KeepsCourse.foldl overdueBurst_course bays s).trans (.foldl overdueRevisions_course bays _)).trans
    (overdueSearch_course _)).trans (overdueRebuild_course ..)

/-! ## Lane events -/

section
variable (b : Bay) (s : State)

theorem transmitHead_course : KeepsCourse s (transmitHead b s) :=
  keepsCourse_of_streams (transmitHead_acts b s).any.now (transmitHead_streams b s)

theorem detectDrive_course : KeepsCourse s (detectDrive b s) :=
  keepsCourse_of_streams (detectDrive_acts b s).any.now (detectDrive_streams b s)

theorem goodFrame_course : KeepsCourse s (goodFrame b s) := putLane_course b s _

theorem receiveFrame_course (kind : Byte) (len : Option Nat) (payload : List Byte) {take : State → State}
    (h : ∀ u, KeepsCourse u (take u)) : KeepsCourse s (receiveFrame b kind len payload take s) :=
  .ite (fun _ => .refl) fun _ => (goodFrame_course b s).trans (.ite (fun _ => refuse_course ..) fun _ =>
    .ite (fun _ => h _) fun _ => refuse_course ..)

theorem postSeek_course (p : Pos) (n : Notice) : KeepsCourse s (postSeek b p n s) := by
  have hposted : KeepsCourse s ((forgetExpired b n.tag (s.putSeek b p (some (noticeSeek s b n)))).setQueue
      ((forgetExpired b n.tag (s.putSeek b p (some (noticeSeek s b n)))).queue
        ++ [{ bay := b, pos := p, held := false }])) := by
    rw [forgetExpired_eq]
    exact keepsCourse_of_streams rfl rfl
  exact hposted.trans (searchStart_course _)

theorem takeNoticeFrame_course (payload : List Byte) : KeepsCourse s (takeNoticeFrame b payload s) := by
  unfold takeNoticeFrame
  split
  · exact refuse_course ..
  · next n _ =>
    unfold takeNotice
    split
    · exact refuse_course ..
    · refine .ite (fun _ => refuse_course ..) fun _ => .ite (fun _ => refuse_course ..) fun _ =>
        postSeek_course ..

theorem takeCommitTag_course (tag : Tag) : KeepsCourse s (takeCommitTag b tag s) := by
  unfold takeCommitTag
  split
  · split
    · exact handThen_course _ _ _ fun l => keepsCourse_of_streams rfl rfl
    · exact refuse_course ..
    all_goals exact sendFrame_course ..
  · exact .ite (fun _ => sendFrame_course ..) fun _ => refuse_course ..

theorem cutSeek_course (p : Pos) (r : Seek) : KeepsCourse s (cutSeek b p r s) := by
  have hcut : KeepsCourse s (s.putSeek b p (some (recompileCut r (cutIndex s.now r)))) :=
    keepsCourse_of_streams rfl rfl
  have hreplaced := hcut.trans (replaceExposure_aside b r (recompileCut r (cutIndex s.now r)) _).course
  exact .ite (fun _ => hreplaced.trans (forecastChange_course ..)) fun _ => hreplaced

theorem takeAbortTag_course (tag : Tag) : KeepsCourse s (takeAbortTag b tag s) := by
  unfold takeAbortTag
  split
  · next p r _ =>
    have hfreed : KeepsCourse s (s.putSeek b p none) := keepsCourse_of_streams rfl rfl
    have hwithdrawn : KeepsCourse s (publishWhole b r (removeExposure b r (s.putSeek b p none))) :=
      (hfreed.trans (removeExposure_aside b _ r).course).trans (forecastChange_course ..)
    split
    · have hdequeued : KeepsCourse s (dequeue b p (s.putSeek b p none)) := keepsCourse_of_streams rfl rfl
      exact (hdequeued.trans (abandonSearch_aside ..).course).trans (searchStart_course _)
    · exact hwithdrawn
    · exact hwithdrawn
    · exact .ite (fun _ => .refl) fun _ => cutSeek_course b s p r
    · exact .refl
  · exact refuse_course ..

theorem moveAcc_course (src : Bay) (v : Int) : KeepsCourse s (moveAcc b src v s) := by
  have hstep (dir : Int) : KeepsCourse s (stepWorking b src dir s) :=
    .ite (fun _ => keepsCourse_of_streams rfl rfl) fun _ => keepsCourse_of_streams rfl rfl
  unfold moveAcc
  split
  · exact .refl
  · exact .ite (fun _ => hstep 1) fun _ => .ite (fun _ => hstep (-1)) fun _ => keepsCourse_of_streams rfl rfl

theorem takeReport_course (payload : List Byte) : KeepsCourse s (takeReport b payload s) := by
  unfold takeReport
  refine .ite (fun _ => refuse_course ..) fun _ => .foldl (fun u x => ?_) _ s
  exact .ite (fun _ => .foldl (fun v src => .ite (fun _ => .refl) fun _ => moveAcc_course ..) _ u) fun _ => .refl

end

/-! ## The effective values (R97) -/

theorem effective_shaped {x : Setting} (hx : x.InRange) {caps : Option Caps}
    (hcaps : ∀ c, caps = some c → c.Lawful) : (effectiveBurst x caps = 4 ∨ effectiveBurst x caps = 8)
      ∧ 8 ≤ effectiveStreamLead x caps ∧ effectiveStreamLead x caps ≤ 64 := by
  obtain ⟨-, hlo, hhi, -⟩ := hx
  have hmax : 8 ≤ (caps.map Caps.maxLead).getD 8 := by
    cases caps with
    | none => exact le_rfl
    | some c => exact (hcaps c rfl).2.2.1
  refine ⟨?_, le_min hlo hmax, (min_le_left ..).trans hhi⟩
  unfold effectiveBurst
  split
  · exact .inr rfl
  · exact .inl rfl

section
variable {s : State} {b : Bay}

/-- The effective values of a stream that is OFF recomputed (R97). -/
theorem refreshStream_course (hoff : (s.stream b).state = .off) (hset : (s.setting b).InRange)
    (hcaps : ∀ c, (s.lane b).caps = some c → c.Lawful) : KeepsCourse s (refreshStream b s) := by
  refine putStream_course fun _ hs => ?_
  exact Stream.onCourse_empty (effective_shaped hset hcaps) (.inl hoff) (hs.idle (.inl hoff))
    (hs.burst_none (by simp [hoff]))

/-- A lane changed and the effective values of its stream, which is OFF, recomputed (R97). -/
theorem refresh_putLane_course {l : Lane} (hoff : (s.stream b).state = .off) (hset : (s.setting b).InRange)
    (hcaps : ∀ c, l.caps = some c → c.Lawful) : KeepsCourse s (refreshStream b (s.putLane b l)) := by
  refine (putLane_course b s l).trans (refreshStream_course hoff hset fun c hc => hcaps c ?_)
  rwa [State.lane_putLane_self] at hc

theorem admitDrive_course {caps : Caps} (hcaps : caps.Lawful) (hoff : (s.stream b).state = .off)
    (hset : (s.setting b).InRange) : KeepsCourse s (admitDrive b caps s) := by
  have hready : KeepsCourse s (refreshStream b (s.putLane b (readyLane (s.lane b) caps))) :=
    refresh_putLane_course hoff hset fun _ hc => Option.some.inj hc ▸ hcaps
  exact hready.trans (sendFrame_course ..)

theorem stopStream_off (b : Bay) (s : State) : ((stopStream b s).stream b).state = .off := by
  rw [stopStream_stream_self]
  rfl

theorem stopped_setting (b c : Bay) (s : State) :
    (stopStream b (freeBay b s)).setting c = s.setting c := by
  have hsettings := (freeBay_keeps b s).settings
  generalize freeBay b s = u at hsettings ⊢
  exact congrArg (Tab.get · c) hsettings

theorem restartDrive_course {caps : Caps} (hcaps : caps.Lawful) (hset : (s.setting b).InRange) :
    KeepsCourse s (restartDrive b caps s) := by
  have hstopped := (putLane_course b s { s.lane b with queue := [] }).trans (stopped_course b _)
  have hoff := stopStream_off b (freeBay b (s.putLane b { s.lane b with queue := [] }))
  have hkept := stopped_setting b b (s.putLane b { s.lane b with queue := [] })
  unfold restartDrive
  generalize stopStream b (freeBay b (s.putLane b { s.lane b with queue := [] })) = u at hstopped hoff hkept ⊢
  have hinrange : (u.setting b).InRange := hkept ▸ hset
  exact (hstopped.trans (admitDrive_course hcaps hoff hinrange)).trans (searchStart_course _)

theorem takeHello_course (payload : List Byte) (hset : (s.setting b).InRange)
    (hunready : (s.lane b).state ≠ .ready → (s.stream b).state = .off) :
    KeepsCourse s (takeHello b payload s) := by
  unfold takeHello
  refine .ite (fun _ => refuse_course ..) fun hok => ?_
  have hcaps : (capsOf payload).Lawful := capsOf_lawful (not_not.mp (not_or.mp hok).2)
  exact .ite (fun _ => restartDrive_course hcaps hset) fun hne =>
    admitDrive_course hcaps (hunready (mt isReady_iff.mpr hne)) hset

/-- A bay freed and stopped, and its lane left without capabilities (R97, R151, R160). -/
theorem closed_course (hset : (s.setting b).InRange) {l : Lane} (hl : l.caps = none) :
    KeepsCourse s (refreshStream b ((stopStream b (freeBay b s)).putLane b l)) := by
  refine (stopped_course b s).trans (refresh_putLane_course (stopStream_off ..) ?_ fun c hc => ?_)
  · rw [stopped_setting]
    exact hset
  · rw [hl] at hc
    cases hc

theorem loseDrive_course (hset : (s.setting b).InRange)
    (hunready : (s.lane b).state ≠ .ready → (s.stream b).state = .off) : KeepsCourse s (loseDrive b s) := by
  by_cases hready : s.isReady b = true
  · rw [loseDrive_of_ready hready]
    exact ((closed_course hset rfl).trans (raiseCause_course ..)).trans (searchStart_course _)
  · have hclosed : KeepsCourse s (refreshStream b (s.putLane b (closedLane (s.lane b) .absent))) :=
      refresh_putLane_course (hunready (mt isReady_iff.mpr hready)) hset fun _ hc => nomatch hc
    rw [loseDrive, if_neg hready]
    exact hclosed.trans (raiseCause_course b _ .depart)

theorem resetBay_course (hset : (s.setting b).InRange) : KeepsCourse s (resetBay b s) := by
  rw [resetBay_eq]
  have hclosed : KeepsCourse s _ := closed_course hset (l := resetLane (s.lane b)) rfl
  exact (((hclosed.trans (clearHistory_aside ..).course).trans (clearRow_aside ..).course).trans
    (searchStart_course _)).trans (readRevisions_course _)

/-! ## Requests (R98 to R100) -/

/-- A written setting changes the shape of a stream that is OFF alone (R98). -/
theorem writeSetting_course {x : Setting} (hx : x.InRange) (hbusy : ¬ s.shapeBusy b x = true)
    (hcaps : ∀ c, (s.lane b).caps = some c → c.Lawful)
    (hlaw : StreamLaw (s.setting b) (s.lane b).caps (s.stream b)) :
    KeepsCourse s (writeSetting b x s) := by
  have hsetting : (s.setSettings (s.settings.upd b x)).setting b = x := Tab.get_upd_self ..
  have hwritten : KeepsCourse s (s.setSettings (s.settings.upd b x)) := keepsCourse_of_streams rfl rfl
  have hrefreshed : KeepsCourse s (refreshStream b (s.setSettings (s.settings.upd b x))) := by
    refine hwritten.trans ?_
    by_cases hoff : (s.stream b).state = .off
    · exact refreshStream_course hoff (by rwa [hsetting]) hcaps
    · have hshape : x.burst = (s.setting b).burst ∧ x.lead = (s.setting b).lead := by
        simpa [State.shapeBusy, hoff] using hbusy
      refine putStream_course fun _ hs => hs.same ⟨rfl, ?_, ?_, rfl, rfl⟩
      · rw [hsetting]
        exact Eq.trans (by rw [effectiveBurst, effectiveBurst, hshape.1]; rfl) hlaw.burstLen.symm
      · rw [hsetting]
        exact Eq.trans (by rw [effectiveStreamLead, effectiveStreamLead, hshape.2]; rfl) hlaw.lead.symm
  exact .ite (fun _ => hrefreshed) fun _ => hrefreshed.trans (clearRow_aside ..).course

theorem startStream_course (b : Bay) (s : State) : KeepsCourse s (startStream b s) :=
  .ite (fun hoff => putStream_course fun _ hs =>
    Stream.onCourse_empty hs.shaped (.inr rfl) rfl (hs.burst_none (by simp [hoff]))) fun _ => .refl

theorem haltStream_course (b : Bay) (s : State) : KeepsCourse s (haltStream b s) := by
  unfold haltStream
  dsimp only
  split
  · exact .refl
  · next hstarting =>
    exact handThen_course _ _ _ fun l => putStream_course (s := s.putLane b l) fun _ hs =>
      Stream.onCourse_empty hs.shaped (.inl rfl) (hs.idle (.inr hstarting))
        (hs.burst_none (by simp [hstarting]))
  · next hrunning =>
    refine handThen_course _ _ _ fun l => ?_
    have hdrain : KeepsCourse (s.putLane b l)
        ((s.putLane b l).putStream b (drainingStream ((s.putLane b l).stream b))) :=
      putStream_course (s := s.putLane b l) fun _ hs => hs.drain hrunning
    refine .ite (fun hempty => (hdrain.trans (putStream_course fun _ hs => ?_)).trans (raiseCause_course ..))
      fun _ => hdrain
    refine Stream.onCourse_empty hs.shaped (.inl rfl) hempty ?_
    rw [State.stream_putStream_self]
    rfl
  · exact .refl

section
variable (hlaw : s.BayLaw b) (w : SettingFields)
include hlaw

theorem enableRequest_course : KeepsCourse s (enableRequest b w s) := by
  refine .ite (fun _ => answer_course ..) fun hbusy => ?_
  have hshape : ¬ s.shapeBusy b (takeSetting true w) = true := fun h => hbusy (by simp [h])
  exact ((writeSetting_course (takeSetting_inRange true w) hshape hlaw.1.caps hlaw.2).trans
    (startStream_course ..)).trans (answer_course ..)

theorem disableRequest_course : KeepsCourse s (disableRequest b w s) := by
  refine .ite (fun _ => answer_course ..) fun hshape => ?_
  exact (((writeSetting_course (takeSetting_inRange false w) hshape hlaw.1.caps hlaw.2).trans
    (haltStream_course ..)).trans (readRevisions_course _)).trans (answer_course ..)

end

end

theorem thawRequest_course (s : State) : KeepsCourse s (thawRequest s) := by
  refine .ite (fun _ => answer_course ..) fun _ => .ite (fun _ => ?_) fun _ => ?_
  · exact KeepsCourse.trans (t := loadSnapshot s) (keepsCourse_of_streams rfl rfl) (answer_course ..)
  · exact keepsCourse_of_streams rfl rfl

theorem hubWriteRequest_course (divisor : BitVec 16) (code : Byte) (s : State) :
    KeepsCourse s (hubWriteRequest divisor code s) := by
  refine .ite (fun _ => answer_course ..) fun _ => KeepsCourse.trans ?_ (answer_course ..)
  have hdivisor : KeepsCourse s (writeDivisor (takeDivisor divisor) s) := keepsCourse_of_streams rfl rfl
  exact .ite (fun _ => hdivisor) fun _ => hdivisor.trans (keepsCourse_of_streams rfl rfl)

theorem freezeRequest_course (s : State) : KeepsCourse s (freezeRequest s) :=
  .ite (fun _ => answer_course ..) fun _ => keepsCourse_of_streams rfl rfl

theorem peekRequest_course (b : Bay) (s : State) : KeepsCourse s (peekRequest b s) :=
  .ite (fun _ => answer_course ..) fun _ => answer_course ..

theorem pokeRequest_course (b : Bay) (row : Tab 16 (Byte × Byte)) (s : State) :
    KeepsCourse s (pokeRequest b row s) :=
  .ite (fun _ => keepsCourse_of_streams rfl rfl) fun _ => answer_course ..

end Sys2Proof.Machine
end

section
/-! PROOF. A sample boundary, a reset and its release keep the law of every delivery list, and with the other
operations every step does (StepKeepsDeliveryLists). -/

namespace Sys2Proof.Machine

/-! ## The duties of a boundary (R101, R102) -/

/-- Every stream's delivery list keeps its law, those of the bays in `waiting` with their burst boundary duty
still to be taken. -/
def CoursesKept (waiting : Bay → Bool) (s : State) : Prop :=
  ∀ b, (s.stream b).OnCourse (waiting b) s.now

theorem KeepsCourse.kept {s t : State} (h : KeepsCourse s t) {waiting : Bay → Bool}
    (hs : CoursesKept waiting s) : CoursesKept waiting t := by
  intro b
  rw [h.now]
  exact h.course b _ (hs b)

theorem launchOrExpire_course (b : Bay) (s : State) (p : Pos) : KeepsCourse s (launchOrExpire b s p) := by
  unfold launchOrExpire
  split
  · exact .refl
  · next r _ =>
    refine .ite (fun _ => keepsCourse_of_streams rfl rfl) fun _ => .ite (fun _ => ?_) fun _ => .refl
    refine handThen_course b s _ fun l => ?_
    have hfreed (u : State) : KeepsCourse u ((u.putSeek b p none).putLane b
        { u.lane b with lastExpired := some r.tag }) := keepsCourse_of_streams rfl rfl
    exact (((hfreed _).trans (removeExposure_aside b _ r).course).trans (forecastChange_course ..)).trans
      (raiseCause_course ..)

theorem takeCommit_course (s : State) : KeepsCourse s (takeCommit s) :=
  keepsCourse_of_streams (takeCommit_acts 0 s).any.now (takeCommit_streams s)

theorem advanceEpoch_course (s : State) : KeepsCourse s (advanceEpoch s) := by
  have hstored (x : Store) : KeepsCourse s (s.setStore x) := keepsCourse_of_streams rfl rfl
  exact .ite (fun _ => hstored _) fun _ => .ite (fun _ => hstored _) fun _ =>
    (hstored _).trans (takeCommit_course _)

theorem runDuty_course (changed : Bool) (s : State) {d : Duty} (h : ∀ b, d ≠ .stream b) :
    KeepsCourse s (runDuty changed s d) := by
  cases d with
  | seek b => exact .ite (fun _ => .foldl (launchOrExpire_course b) _ _) fun _ => .refl
  | stream b => exact absurd rfl (h b)
  | epoch => exact .ite (fun _ => advanceEpoch_course s) fun _ => .refl
  | search =>
    have hcleared : KeepsCourse s (clearHolds s) := keepsCourse_of_streams rfl rfl
    exact .ite (fun _ => hcleared.trans (searchStart_course _)) fun _ => .refl
  | welcome b => exact .ite (fun _ => .ite (fun _ => sendFrame_course ..) fun _ => .refl) fun _ => .refl
  | mark b => exact .ite (fun _ => .ite (fun _ => sendFrame_course ..) fun _ => .refl) fun _ => .refl

/-- The burst boundary duty leaves the stream's list as it is between events (R101, R102). -/
theorem atBurstBoundary_onCourse {s : State} {b : Bay} (h : (s.stream b).OnCourse true s.now) :
    (s.atBurstBoundary b).OnCourse false s.now := by
  have hboundary : isBurstBoundary (s.stream b).burstLen s.now = true
      ↔ sinceBoundary (s.stream b).burstLen s.now = 0 := beq_iff_eq
  unfold State.atBurstBoundary
  dsimp only
  split
  · next hdue => exact h.startBurst (hboundary.mp hdue.1) hdue.2 rfl rfl
  · next hnone => exact h.taken fun hdue => hnone ⟨hboundary.mpr hdue.1, hdue.2⟩

/-- One duty taken, the bays whose duty is to come are those of the duties to come. -/
theorem runDuty_kept (changed : Bool) {s : State} {d : Duty} {ds : List Duty} (hd : d ∉ ds)
    (hs : CoursesKept (fun b => decide (.stream b ∈ d :: ds)) s) :
    CoursesKept (fun b => decide (.stream b ∈ ds)) (runDuty changed s d) := by
  by_cases hstream : ∃ b, d = .stream b
  · obtain ⟨b, rfl⟩ := hstream
    intro c
    have hc := hs c
    change ((burstDuty b s).stream c).OnCourse _ (burstDuty b s).now
    rw [burstDuty_eq, State.stream_putStream, State.putStream_now]
    split
    · next hbc =>
      subst hbc
      beta_reduce
      rw [decide_eq_false hd]
      exact atBurstBoundary_onCourse (by simpa using hc)
    · next hbc => simpa [Ne.symm hbc] using hc
  · have hother (b : Bay) : d ≠ .stream b := fun h => hstream ⟨b, h⟩
    have hwaiting (b : Bay) : Duty.stream b ∈ d :: ds ↔ Duty.stream b ∈ ds := by
      simp [Ne.symm (hother b)]
    simp only [hwaiting] at hs
    exact (runDuty_course changed s hother).kept hs

theorem foldl_runDuty_kept (changed : Bool) {ds : List Duty} (hds : ds.Nodup) {s : State}
    (hs : CoursesKept (fun b => decide (.stream b ∈ ds)) s) :
    CoursesKept (fun _ => false) (ds.foldl (runDuty changed) s) := by
  induction ds generalizing s with
  | nil => simpa using hs
  | cons d ds ih =>
    obtain ⟨hd, hds⟩ := List.nodup_cons.mp hds
    exact ih hds (runDuty_kept changed hd hs)

/-- The duties of a boundary bring every list between events again. -/
theorem boundaryDuties_kept (changed : Bool) (order : List Duty) {s : State}
    (hs : CoursesKept (fun _ => true) s.retired) :
    CoursesKept (fun _ => false) (boundaryDuties changed order s) := by
  have hstart : CoursesKept (fun _ => true) (boundaryStart s) := by
    intro b
    have hstream : (boundaryStart s).stream b = drainedStream (s.retired.stream b) := by
      rw [boundaryStart_exposed]
      exact Tab.get_gen _ b
    rw [hstream, boundaryStart_now]
    exact drainedStream_onCourse (hs b)
  refine (readRevisions_course _).kept (foldl_runDuty_kept changed (dutyOrder_nodup order) ?_)
  simpa [mem_dutyOrder] using hstart

/-! ## A boundary, a reset and its release -/

theorem takeBoundary_kept (order : List Duty) {s : State} (hs : CoursesKept (fun _ => false) s) :
    CoursesKept (fun _ => false) (takeBoundary order s) := by
  have hcourse := completeOverdue_course order s
  have hkept := hcourse.kept hs
  obtain ⟨hfresh, -⟩ := completeOverdue_fresh order s
  have hnow := hcourse.now
  unfold takeBoundary
  dsimp only
  generalize completeOverdue order s = u at hkept hfresh hnow ⊢
  refine boundaryDuties_kept _ order fun b => ?_
  have hstream : (advanceSample u).retired.stream b = retireRecords (u.now + 1) (u.stream b) :=
    Tab.get_gen _ b
  rw [hstream]
  exact (hkept b).advance fun x hx => ((hfresh b).1 x hx).trans hnow.symm

theorem reset_onCourse (pending : Bool) (now : Sample) : Stream.reset.OnCourse pending now :=
  Stream.onCourse_empty (by unfold Stream.Shaped; decide) (.inl rfl) rfl rfl

theorem hubReset_stream (c : ResetCause) (x : Store) (s : State) (b : Bay) :
    (hubReset c x s).stream b = Stream.reset := Tab.get_fill ..

/-- A release finds every stream at its reset values (R46, R96). -/
theorem releaseReset_kept (order : List Duty) {s : State} (hs : ∀ b, s.stream b = Stream.reset) :
    CoursesKept (fun _ => false) (releaseReset order s) := by
  have harrive (u : State) (b : Bay) : KeepsCourse u (arriveHeld u b) :=
    .ite (fun _ => detectDrive_course b u) fun _ => .refl
  refine (KeepsCourse.foldl harrive bays _).kept (boundaryDuties_kept false order fun b => ?_)
  have hstream : (s.setPins { s.pins with resetHeld := false }).retired.stream b
      = retireRecords s.now (s.stream b) := Tab.get_gen _ b
  rw [hstream, hs]
  exact reset_onCourse ..

/-! ## Every step (R102, R104) -/

theorem deliveriesLawful_iff {s : State} (hset : SettingsLawful s) (hlaws : LaneStreamLawful s) :
    DeliveriesLawful s ↔ CoursesKept (fun _ => false) s := by
  refine ⟨fun h b => ?_, fun h b => (h b).lawful⟩
  obtain ⟨hlane, hstream⟩ := laneStreamLawful_iff.mp hlaws b
  refine (h b).onCourse ?_ hstream.burst fun hidle => (hstream.idle hidle).1
  have hshaped := effective_shaped (hset b) hlane.caps
  rwa [← hstream.burstLen, ← hstream.lead] at hshaped

section
variable {s : State} (hheld : HeldAtReset s) (hset : SettingsLawful s) (hlaws : LaneStreamLawful s)
  (hs : CoursesKept (fun _ => false) s)
include hheld hset hlaws hs

theorem takeEvent_kept (c : Instr) : CoursesKept (fun _ => false) (takeEvent c s) := by
  have hlaw (b : Bay) : s.BayLaw b := laneStreamLawful_iff.mp hlaws b
  have hunready (b : Bay) (hne : (s.lane b).state ≠ .ready) : (s.stream b).state = .off :=
    ((hlaw b).1.unready hne).1
  have hcourse {t : State} (h : KeepsCourse s t) : CoursesKept (fun _ => false) t := h.kept hs
  have hrequest {effect : State → State} (h : KeepsCourse s (effect s)) :
      CoursesKept (fun _ => false) (if s.portTakes then effect s else s) :=
    hcourse (.ite (fun _ => h) fun _ => .refl)
  have hanswer (k : RequestKind) (payload : State → List Byte) :
      KeepsCourse s (answer k statusOk payload s) := answer_course ..
  have hpins (b : Bay) (x : Bool) : KeepsCourse s (setPresence b x s) := keepsCourse_of_streams rfl rfl
  have hgood (b : Bay) : (goodFrame b s).lane b = { s.lane b with bad := 0 } :=
    State.lane_putLane_self ..
  have hframe (b : Bay) (kind : Byte) (len : Option Nat) (payload : List Byte) {take : State → State}
      (h : ∀ u, KeepsCourse u (take u)) :
      CoursesKept (fun _ => false) (readRevisions (receiveFrame b kind len payload take s)) :=
    hcourse ((receiveFrame_course b s kind len payload h).trans (readRevisions_course _))
  have hreset (c : ResetCause) (x : Store) : CoursesKept (fun _ => false) (hubReset c x s) := by
    intro b
    rw [hubReset_stream]
    exact reset_onCourse ..
  cases c with
  | powerOn => exact hreset _ _
  | pinReset => exact hreset _ _
  | resetRelease order =>
    show CoursesKept _ (if s.pins.resetHeld then releaseReset order s else s)
    split
    · next h => exact releaseReset_kept order (hheld.stream h)
    · exact hs
  | sampleBoundary order => exact ite_of hs (takeBoundary_kept order hs)
  | slotStart order => exact ite_of (takeBoundary_kept order hs) hs
  | epochEnd order => exact ite_of (takeBoundary_kept order hs) hs
  | rebuildComplete searchFirst => exact hcourse (completeRebuild_course ..)
  | searchStart => exact hcourse (searchStart_course s)
  | searchComplete => exact hcourse (completeSearch_course s)
  | burstComplete b => exact hcourse (completeBurst_course b s)
  | revisionComplete b record => exact hcourse (completeRevision_course b record s)
  | drainComplete b => exact hcourse (completeDrain_course b s)
  | laneTransmit b => exact hcourse (transmitHead_course b s)
  | presenceRise b =>
    refine ite_of hs (hcourse (.ite (fun _ => hpins b true) fun _ => ?_))
    exact (hpins b true).trans (detectDrive_course b _)
  | presenceFall b =>
    refine ite_of hs (hcourse (.ite (fun _ => hpins b false) fun _ => ?_))
    exact ((hpins b false).trans (loseDrive_course (hset b) (hunready b))).trans (readRevisions_course _)
  | badFrame b why =>
    refine hcourse (.ite (fun _ => .ite (fun _ => putLane_course b s _) fun _ => ?_) fun _ => .refl)
    exact (faultLane_course b s).trans (readRevisions_course _)
  | unknownFrame b kind payload =>
    exact hcourse (.ite (fun _ => .refl) fun _ =>
      ((goodFrame_course b s).trans (refuse_course ..)).trans (readRevisions_course _))
  | hello b payload =>
    refine hcourse (.ite (fun _ => .refl) fun _ =>
      ((goodFrame_course b s).trans (takeHello_course payload (hset b) fun hne => ?_)).trans
        (readRevisions_course _))
    rw [hgood] at hne
    exact hunready b hne
  | notice b payload => exact hframe _ _ _ _ fun u => takeNoticeFrame_course b u payload
  | commit b payload => exact hframe _ _ _ _ fun u => takeCommitTag_course b u _
  | abort b payload => exact hframe _ _ _ _ fun u => takeAbortTag_course b u _
  | residual b payload => exact hframe _ _ _ _ fun u => takeReport_course b u payload
  | badRequest why =>
    exact hrequest (effect := fun u => respond (badResponseKind why) [statusBadRequest] u)
      (keepsCourse_of_streams rfl rfl)
  | settingRead b => exact hrequest (hanswer ..)
  | streamEnable b w => exact hrequest (enableRequest_course (hlaw b) w)
  | streamDisable b w => exact hrequest (disableRequest_course (hlaw b) w)
  | hubRead => exact hrequest (hanswer ..)
  | hubWrite divisor code => exact hrequest (hubWriteRequest_course divisor code s)
  | freeze => exact hrequest (freezeRequest_course s)
  | thaw => exact hrequest (thawRequest_course s)
  | peekRow b => exact hrequest (peekRequest_course b s)
  | pokeRow b row => exact hrequest (pokeRequest_course b row s)
  | activeRowRead b => exact hrequest (hanswer ..)
  | bayInspect b page => exact hrequest (hanswer ..)
  | exposureRead b offset count => exact hrequest (hanswer ..)
  | attentionRead => exact hrequest (hanswer ..)
  | attentionClear causes =>
    exact hrequest (effect := fun u => answer .attentionClear statusOk (fun v => [v.attention.pending])
      (u.setAttention (clearCauses causes u.attention))) (keepsCourse_of_streams rfl rfl)
  | attentionConfigure mask route =>
    exact hrequest (effect := fun u => answer .attentionConfigure statusOk
      (fun v => [v.attention.mask, v.attention.route])
      (u.setAttention { u.attention with mask := mask, route := route })) (keepsCourse_of_streams rfl rfl)
  | bayReset b =>
    exact hrequest (effect := fun u => answer .bayReset statusOk (fun _ => [bayByte b]) (resetBay b u))
      ((resetBay_course (hset b)).trans (answer_course ..))
  | hubReset =>
    exact hrequest (effect := fun u => answer .hubReset statusOk (fun _ => [])
      (u.setPort { u.port with resetArmed := true })) (keepsCourse_of_streams rfl rfl)
  | hubResetAtCsnRise => exact ite_of (releaseReset_kept [] (hubReset_stream _ _ _)) hs

end

theorem countPeriod_kept {s : State} (hs : CoursesKept (fun _ => false) s) :
    CoursesKept (fun _ => false) (countPeriod s) := by
  refine ite_of hs (ite_of (takeBoundary_kept _ hs) ?_)
  exact (keepsCourse_of_streams (t := s.setTime { s.time with divider := s.time.divider + 1 }) rfl rfl).kept hs

/-- Settles O59: a boundary brings each list from one burst boundary to the next, every other operation keeps
its law, and the laws that carry it are kept by every step. -/
theorem stepKeepsDeliveryLists : Obligations.StepKeepsDeliveryLists := by
  rintro s t h ⟨hheld, hset, hlaws, hdeliveries⟩
  have hset' := settingsLawful_stepLaw.step h hset
  have hlaws' := laneStreamLawful_stepLaw.step h hlaws
  refine ⟨heldAtReset_step h hheld, hset', hlaws', (deliveriesLawful_iff hset' hlaws').mpr ?_⟩
  have hs := (deliveriesLawful_iff hset hlaws).mp hdeliveries
  unfold step at h
  split at h
  · cases h
    exact countPeriod_kept hs
  · next c rest _ =>
    rw [← takeEvent_of_exec h]
    exact takeEvent_kept (heldAtReset_setPending hheld rest) hset hlaws hs c

end Sys2Proof.Machine
end

section
/-! PROOF. What the completions of a burst, of a revision and of a drain do (CompletedBurstIsDelivered,
CompletedRevisionIsSent, DrainedStreamStops), and the admission of a drive (HelloAdmitsTheDrive). -/

namespace Sys2Proof.Machine

/-! ## One stream replaced -/

theorem putStream_putStream (s : State) (b : Bay) (x y : Stream) :
    (s.putStream b x).putStream b y = s.putStream b y := by
  unfold State.putStream
  rw [State.setStreams_twice, State.setStreams_streams]
  congr 1
  exact Tab.ext_get fun i => by simp only [Tab.get_upd]; split <;> rfl

/-- Revisions that have read their values read no more (R109). -/
theorem map_readRevision_of_read (s : State) (b : Bay) {vs : List Revision} (h : ∀ v ∈ vs, v.values ≠ []) :
    vs.map (readRevision s b) = vs :=
  (List.map_congr_left fun v hv => if_neg (h v hv)).trans (List.map_id vs)

/-- Of an event that replaces one stream, the reading reads that stream's revisions alone (R109). -/
theorem readRevisions_putStream {s : State} (hs : RevisionsRead s) (b : Bay) (x : Stream) :
    readRevisions (s.putStream b x)
      = s.putStream b { x with revisions := x.revisions.map (readRevision s b) } := by
  refine congrArg s.setStreams (Tab.ext_get fun c => ?_)
  show (readRevisions (s.putStream b x)).stream c = (s.putStream b _).stream c
  rw [readRevisions_stream, State.stream_putStream, State.stream_putStream]
  split
  · next hbc =>
    subst hbc
    rfl
  · exact congrArg (fun vs => { s.stream c with revisions := vs }) (map_readRevision_of_read s c (hs c))

/-! ## A burst (R103, R105, R108, R109) -/

theorem completeBurst_of_none {s : State} {b : Bay} (h : (s.stream b).burst = none) :
    completeBurst b s = s := by
  rw [completeBurst, h]

theorem completeBurst_of_room {s : State} {b : Bay} {x : Burst} (hx : (s.stream b).burst = some x)
    (hroom : s.hasRoom b 1) : completeBurst b s = readRevisions ((s.putLane b { s.lane b with
      queue := (s.lane b).queue ++ [.correct x.first x.values] }).putStream b
        (deliverBurst s.now x (s.stream b))) := by
  simp only [completeBurst, hx]
  rw [handThen_of_room hroom]
  rfl

/-- A completed burst whose pending change can still be revised (R107, R108). -/
def Stream.revisesBurst (now : Sample) (t : Stream) (x : Burst) : Bool :=
  x.pendingChange && (t.burstLen == 8) && atOrBefore (now + 2) (x.first + 4)

theorem deliverBurst_eq (now : Sample) (x : Burst) (t : Stream) : deliverBurst now x t =
    { t with
      delivery := t.delivery ++ [{ first := x.first, burst := t.burstLen, revised := t.revisesBurst now x }]
      revisions := if t.revisesBurst now x then
          t.revisions ++ [{ record := x.first, start := now, values := [] }] else t.revisions
      coverage := some (coverBurst t.coverage x.first t.burstLen)
      burst := none } := by
  have hhit : (x.pendingChange && revisable now { first := x.first, burst := t.burstLen, revised := false })
      = t.revisesBurst now x := by
    simp [revisable, Stream.revisesBurst, Bool.and_assoc]
  unfold deliverBurst
  dsimp only
  rw [hhit]
  cases t.revisesBurst now x <;> rfl

/-- Settles O19: the delivered stream, its new revision read in the state that the event leaves. -/
theorem completedBurstIsDelivered : Obligations.CompletedBurstIsDelivered := by
  refine fun s b => ⟨fun h => congrArg Host.Outcome.next (completeBurst_of_none h), fun x hx hroom hread => ?_⟩
  refine congrArg Host.Outcome.next ((completeBurst_of_room hx hroom).trans ?_)
  have hrevisions : (deliverBurst s.now x (s.stream b)).revisions.map (readRevision s b)
      = if (s.stream b).revisesBurst s.now x then (s.stream b).revisions
          ++ [{ record := x.first, start := s.now, values := s.predict b (x.first + 4) 4 }]
        else (s.stream b).revisions := by
    have hold := map_readRevision_of_read s b (hread b)
    rw [deliverBurst_eq]
    dsimp only
    split
    · rw [List.map_append, hold]
      rfl
    · exact hold
  have hcoverage : coverBurst (s.stream b).coverage x.first (s.stream b).burstLen
      = { first := match (s.stream b).coverage with
            | some c => c.first
            | none => x.first
          last := x.first + BitVec.ofNat 32 (s.stream b).burstLen - 1 } := by
    unfold coverBurst
    cases (s.stream b).coverage <;> rfl
  have hsame (l : Lane) : readRevision (s.putLane b l) b = readRevision s b := rfl
  rw [readRevisions_putStream (s := s.putLane b _) hread, hsame, hrevisions, deliverBurst_eq, hcoverage]
  rfl

/-! ## A revision (R109) -/

theorem completeRevision_of_none {s : State} {b : Bay} {m : Sample}
    (h : ∀ v ∈ (s.stream b).revisions, v.record ≠ m) : completeRevision b m s = s := by
  have hnone : (s.stream b).revisions.find? (fun v => v.record == m) = none :=
    List.find?_eq_none.mpr fun v hv => by simpa using h v hv
  rw [completeRevision, hnone]

theorem completeRevision_of_room {s : State} {b : Bay} {m : Sample} {v : Revision}
    (hv : (s.stream b).revisions.find? (fun v => v.record == m) = some v) (hroom : s.hasRoom b 1) :
    completeRevision b m s = readRevisions ((s.putLane b { s.lane b with
      queue := (s.lane b).queue ++ [.revise (v.record + 4) v.values] }).putStream b
        (dropRevision m (s.stream b))) := by
  simp only [completeRevision, hv]
  rw [handThen_of_room hroom]
  rfl

theorem dropRevision_eq (m : Sample) (t : Stream) :
    dropRevision m t = { t with revisions := t.revisions.filter fun v => v.record ≠ m } := by
  unfold dropRevision
  congr 1
  exact List.filter_congr fun v _ => by rw [Bool.eq_iff_iff]; simp

/-- Settles O20: the first revision of the record is sent, and every one of it is dropped. -/
theorem completedRevisionIsSent : Obligations.CompletedRevisionIsSent := by
  refine fun s b m => ⟨fun h => congrArg Host.Outcome.next (completeRevision_of_none h),
    fun before v after hrevisions hv hbefore hroom hread => congrArg Host.Outcome.next ?_⟩
  have hfind : (s.stream b).revisions.find? (fun v => v.record == m) = some v := by
    have hnone : before.find? (fun v => v.record == m) = none :=
      List.find?_eq_none.mpr fun x hx => by simpa using hbefore x hx
    rw [hrevisions, List.find?_append, hnone, List.find?_cons_of_pos (by simpa using hv)]
    rfl
  have hdropped : ∀ x ∈ (dropRevision m (s.stream b)).revisions, x.values ≠ [] := fun x hx =>
    hread b x (List.mem_of_mem_filter hx)
  rw [completeRevision_of_room hfind hroom, readRevisions_putStream (s := s.putLane b _) hread,
    map_readRevision_of_read _ _ hdropped, ← hv]
  exact congrArg (State.putStream _ b) (dropRevision_eq v.record (s.stream b))

/-! ## A drain (R111) -/

/-- Settles O21, by whether the stream has drained. -/
theorem drainedStreamStops : Obligations.DrainedStreamStops := by
  refine fun s b => ⟨fun hdraining hempty => congrArg Host.Outcome.next ?_,
    fun h => congrArg Host.Outcome.next (if_neg ?_)⟩
  · have hcomplete : completeDrain b s = raiseCause .streamStopped b
        (s.putStream b { s.stream b with state := .off, burst := none, revisions := [] }) :=
      if_pos ⟨hdraining, hempty⟩
    rw [hcomplete, raiseCause_eq, raiseCause_attention (by decide)]
    rfl
  · rintro ⟨hdraining, hempty⟩
    exact h.elim (fun hne => hne hdraining) fun hne => hne hempty

/-! ## A HELLO that admits (R97, R154, R156) -/

/-- Settles O30: the admission with its WELCOME, which has room. -/
theorem helloAdmitsTheDrive : Obligations.HelloAdmitsTheDrive := by
  intro s b mb ml i0 i1 i2 i3 hstate hroom hread caps bl lead
  have hcaps : capsOf [1, mb, ml, i0, i1, i2, i3] = caps := capsOf_hello mb ml i0 i1 i2 i3
  have hbl : effectiveBurst (s.setting b) (some caps) = bl := effectiveBurst_some (s.setting b) caps mb rfl
  have hunabsent : (s.lane b).state ≠ .absent := by obtain h | h := hstate <;> simp [h]
  have hunready : ¬ (goodFrame b s).isReady b = true := by
    refine mt isReady_iff.mp ?_
    rw [goodFrame_lane_state]
    obtain h | h := hstate <;> simp [h]
  have hroom' : ((goodFrame b s).lane b).queue.length < 32 := by rwa [goodFrame_queue]
  have hexec : exec (.hello b [1, mb, ml, i0, i1, i2, i3]) s
      = .next (readRevisions (admitDrive b caps (goodFrame b s))) := by
    show Host.Outcome.next (if _ then _ else _) = _
    rw [if_neg hunabsent, takeHello, if_neg (by simp [byteAt]), if_neg hunready, hcaps]
  have hwelcome : (goodFrame b s).restartWelcome b caps = .welcome b s.time.divisor s.now bl lead := by
    rw [← hbl]
    rfl
  have hadmitted : admitDrive b caps (goodFrame b s) = refreshStream b (s.putLane b { s.lane b with
      state := .ready, bad := 0, caps := some caps, lastExpired := none
      queue := (s.lane b).queue ++ [.welcome b s.time.divisor s.now bl lead] }) := by
    rw [admitDrive_of_room caps hroom', hwelcome, goodFrame, State.lane_putLane_self, putLane_putLane]
    rfl
  rw [hexec, hadmitted, readRevisions_of_read (revisionsRead_refreshStream (s := s.putLane b _) b hread),
    refreshStream, State.lane_putLane_self, ← hbl]
  rfl

end Sys2Proof.Machine
end

section
/-! PROOF. Which delivery records and bursts a forecast change reaches (ForecastChangeRevises). -/

namespace Sys2Proof.Machine

/-! ## Samples that two ranges share (R106) -/

/-- Sample `a + k` of a range of `len` samples past `a` is sample `first + j` of `n` samples. -/
def SharesSample (a first : Sample) (len n : Nat) : Prop :=
  ∃ k j : Nat, k ≤ len ∧ j < n ∧ a + BitVec.ofNat 32 k = first + BitVec.ofNat 32 j

/-- The test of two ranges finds the samples they share, where neither is so long that the comparison turns
over. -/
theorem rangesMeet_iff {a z first : Sample} (h : (z - a).toNat < 2 ^ 16) :
    rangesMeet a z first (lastOf first 8) = true ↔ SharesSample a first (z - a).toNat 8 := by
  have hmeet : rangesMeet a z first (lastOf first 8) = true
      ↔ 0 ≤ (first + 8 - 1 - a).toInt ∧ 0 ≤ (z - first).toInt := by
    rw [rangesMeet, Bool.and_eq_true, atOrBefore, atOrBefore, decide_eq_true_iff, decide_eq_true_iff]
    rfl
  rw [hmeet, BitVec.toInt_eq_toNat_cond, BitVec.toInt_eq_toNat_cond]
  constructor
  · rintro ⟨hlast, hfirst⟩
    by_cases hinside : (first - a).toNat ≤ (z - a).toNat
    · refine ⟨(first - a).toNat, 0, hinside, by decide, ?_⟩
      bv_omega
    · refine ⟨0, (a - first).toNat, Nat.zero_le _, ?_, ?_⟩
      · split at hlast <;> split at hfirst <;> bv_omega
      · bv_omega
  · rintro ⟨k, j, hk, hj, heq⟩
    constructor
    · split <;> bv_omega
    · split <;> bv_omega

/-! ## What a change does to one stream (R106 to R109) -/

/-- The forecast change over `a`..`z` revises the record (R106, R107). -/
def Delivery.reached (now a z : Sample) (x : Delivery) : Bool :=
  rangesMeet a z x.first (lastOf x.first x.burst) && revisable now x

section
variable {now a z : Sample}

/-- Each record of the list is marked where the change reaches it, and kept where it does not. -/
theorem takeChange_delivery (t : Stream) (i : Nat) (x y : Delivery) (hx : t.delivery[i]? = some x)
    (hy : (takeChange now a z t).delivery[i]? = some y) :
    y = if x.reached now a z then { x with revised := true } else x := by
  have hmapped : (takeChange now a z t).delivery
      = t.delivery.map fun x => if x.reached now a z then x.marked else x := rfl
  rw [hmapped, List.getElem?_map, hx, Option.map_some] at hy
  exact (Option.some.inj hy).symm

theorem mem_takeChange_revisions (t : Stream) (v : Revision) : v ∈ (takeChange now a z t).revisions
    ↔ v ∈ t.revisions ∨ ∃ x ∈ t.delivery, x.reached now a z = true
      ∧ v = { record := x.first, start := now, values := [] } := by
  have hstarted : (takeChange now a z t).revisions
      = t.revisions ++ (t.delivery.filter (Delivery.reached now a z)).map (newRevision now) := rfl
  rw [hstarted, List.mem_append, List.mem_map]
  simp only [List.mem_filter, and_assoc, newRevision, eq_comm]

variable (h : (z - a).toNat < 2 ^ 16)
include h

theorem Delivery.reached_iff (x : Delivery) : x.reached now a z = true
    ↔ SharesSample a x.first (z - a).toNat x.burst ∧ x.burst = 8 ∧ x.revised = false
      ∧ atOrBefore (now + 2) (x.first + 4) = true := by
  have hrevisable : revisable now x = true
      ↔ x.burst = 8 ∧ x.revised = false ∧ atOrBefore (now + 2) (x.first + 4) = true := by
    simp [revisable, and_assoc]
  rw [Delivery.reached, Bool.and_eq_true, hrevisable]
  refine and_congr_left fun hx => ?_
  rw [hx.1]
  exact rangesMeet_iff h

theorem takeChange_burst {t : Stream} {x : Burst} (hx : t.burst = some x) :
    (t.burstLen = 8 ∧ SharesSample a x.first (z - a).toNat 8 →
        (takeChange now a z t).burst = some { x with pendingChange := true })
      ∧ (¬ (t.burstLen = 8 ∧ SharesSample a x.first (z - a).toNat 8) →
        (takeChange now a z t).burst = some x) := by
  have hburst : (takeChange now a z t).burst
      = some (if t.burstLen = 8 ∧ rangesMeet a z x.first (lastOf x.first t.burstLen) = true then
          { x with pendingChange := true } else x) := by
    unfold takeChange
    rw [hx]
    rfl
  have hreached : t.burstLen = 8 ∧ rangesMeet a z x.first (lastOf x.first t.burstLen) = true
      ↔ t.burstLen = 8 ∧ SharesSample a x.first (z - a).toNat 8 := by
    refine and_congr_right fun hlen => ?_
    rw [hlen]
    exact rangesMeet_iff h
  rw [hburst]
  exact ⟨fun hshares => congrArg some (if_pos (hreached.mpr hshares)),
    fun hnone => congrArg some (if_neg (mt hreached.mp hnone))⟩

end

/-- Settles O22: the reached streams take the change, record by record. -/
theorem forecastChangeRevises : Obligations.ForecastChangeRevises := by
  intro src b a z s hlen u t e shares revises
  have hsub : z + BitVec.ofNat 32 e.d - (a + BitVec.ofNat 32 e.d) = z - a := by bv_omega
  have hlen' : (z + BitVec.ofNat 32 e.d - (a + BitVec.ofNat 32 e.d)).toNat < 2 ^ 16 := hsub ▸ hlen
  have hreached (x : Delivery) : x.reached s.now (a + BitVec.ofNat 32 e.d) (z + BitVec.ofNat 32 e.d) = true
      ↔ revises x := by
    rw [Delivery.reached_iff hlen', hsub]
    rfl
  refine ⟨fun hunreached => ?_, fun hne hon hcoupled => ?_⟩
  · refine (forecastChange_stream ..).trans (if_neg ?_)
    rintro ⟨hne, hon, hcoupled⟩
    obtain hsrc | hoff | hstarting | hzero := hunreached
    · exact hne hsrc
    · exact absurd (hon.imp hoff.symm.trans hoff.symm.trans) (by simp)
    · exact absurd (hon.imp hstarting.symm.trans hstarting.symm.trans) (by simp)
    · exact hcoupled hzero
  · have ht : t = takeChange s.now (a + BitVec.ofNat 32 e.d) (z + BitVec.ofNat 32 e.d) u :=
      (forecastChange_stream ..).trans (if_pos ⟨hne, hon, hcoupled⟩)
    rw [ht]
    refine ⟨rfl, List.length_map .., fun i x y hx hy => ?_, fun v => ?_, fun hnone => ?_, fun x hx => ?_⟩
    · rw [takeChange_delivery u i x y hx hy]
      exact ⟨fun hrevises => if_pos ((hreached x).mpr hrevises),
        fun hkept => if_neg (mt (hreached x).mp hkept)⟩
    · simp only [mem_takeChange_revisions, hreached]
    · show u.burst.map _ = none
      rw [hnone]
      rfl
    · have hburst := takeChange_burst (now := s.now) hlen' hx
      rw [hsub] at hburst
      exact hburst

end Sys2Proof.Machine
end

section
/-! PROOF. SETTING WRITE with stream enable on and off (EnableStartsStream, DisableStopsStream). -/

namespace Sys2Proof.Machine

/-! ## The record as taken (R167) -/

theorem clamp_zero (hi x : Nat) : clamp 0 hi x = min hi x := Nat.zero_max _

/-- The record of a SETTING WRITE, field by field (R141, R167). -/
theorem takeSetting_eq (e : Bool) (w : SettingFields) : takeSetting e w =
    { enable := e
      burst := if w.burst = 8 then 8 else 4
      lead := max 8 (min 64 w.lead.toNat)
      gain := w.gain.toNat
      limit := min 4095 w.limit.toNat
      shift := max 1 (min 7 w.shift.toNat)
      rate := if w.rate = 1 then .slow else if w.rate = 2 then .medium
        else if w.rate = 3 then .fast else .off
      deadband := min 15 w.deadband.toNat
      dither := if w.dither.getLsbD 0 then .interleaved else .sequential } := by
  rw [takeSetting, clamp_zero, clamp_zero]
  rfl

/-! ## The response (R166, R168) -/

/-- The response of a SETTING WRITE: the status and the record of bay `b`. -/
def State.settingAnswered (s : State) (b : Bay) (status : Byte) (x : Setting) : State :=
  s.setPort (s.port.answer 0xA1#8 (status :: BitVec.ofNat 8 b.val :: x.bytes))

theorem answer_setting (b : Bay) (status : Byte) (s : State) :
    answer .settingWrite status (settingPayload b) s = s.settingAnswered b status (s.setting b) := rfl

section
variable {s : State} {b : Bay} {w : SettingFields}

/-- A change of shape is BUSY on a stream that is not OFF (R98, R168). -/
theorem shapeBusy_iff {x : Setting} : s.shapeBusy b x = true ↔ (s.stream b).state ≠ .off
    ∧ ¬ (x.burst = (s.setting b).burst ∧ x.lead = (s.setting b).lead) := by
  simp only [State.shapeBusy, Bool.and_eq_true, Bool.or_eq_true, bne_iff_ne]
  tauto

/-! ## Stream enable on (R99, R168) -/

theorem exec_streamEnable (htakes : s.portTakes = true) :
    exec (.streamEnable b w) s = .next (enableRequest b w s) :=
  congrArg Host.Outcome.next (if_pos htakes)

theorem exec_streamEnable_busy (htakes : s.portTakes = true)
    (hbusy : s.shapeBusy b (takeSetting true w) = true ∨ s.enableBusy b = true) :
    exec (.streamEnable b w) s = .next (s.settingAnswered b 0x01#8 (s.setting b)) := by
  rw [exec_streamEnable htakes]
  exact congrArg Host.Outcome.next (if_pos (Bool.or_eq_true_iff.mpr hbusy))

theorem enableBusy_iff : s.enableBusy b = true ↔ (s.stream b).state = .draining
    ∨ (s.stream b).state = .off ∧ (s.lane b).state ≠ .ready := by
  simp [State.enableBusy, State.isReady]

/-- The write's own effect: the record, row b of the accumulators at another rate, and the stream `t`. -/
def State.settingWritten (s : State) (b : Bay) (x : Setting) (t : Stream) : State :=
  ((s.setSettings (s.settings.upd b x)).setAcc
    (if x.rate = (s.setting b).rate then s.acc else s.acc.upd b (Tab.fill 16 0))).putStream b t

/-- Bay `b`'s stream with the effective values of a setting record (R97). -/
def State.shapedStream (s : State) (b : Bay) (x : Setting) : Stream :=
  { s.stream b with
    burstLen := effectiveBurst x (s.lane b).caps
    lead := effectiveStreamLead x (s.lane b).caps }

theorem writeSetting_written (x : Setting) :
    writeSetting b x s = s.settingWritten b x (s.shapedStream b x) := writeSetting_eq b x s

theorem settingWritten_setting (x : Setting) (t : Stream) : (s.settingWritten b x t).setting b = x :=
  Tab.get_upd_self s.settings b x

theorem settingWritten_stream (x : Setting) (t : Stream) : (s.settingWritten b x t).stream b = t :=
  State.stream_putStream_self ..

theorem settingWritten_putStream (x : Setting) (t u : Stream) :
    (s.settingWritten b x t).putStream b u = s.settingWritten b x u := putStream_putStream ..

theorem startStream_written (x : Setting) {t : Stream} : startStream b (s.settingWritten b x t)
    = s.settingWritten b x
      (if t.state = .off then { t with state := .starting, coverage := none, delivery := [] } else t) := by
  rw [startStream, settingWritten_stream, settingWritten_putStream]
  split <;> rfl

theorem exec_streamEnable_taken (htakes : s.portTakes = true)
    (hshape : s.shapeBusy b (takeSetting true w) = false) (henable : s.enableBusy b = false) :
    exec (.streamEnable b w) s = .next ((startStream b (writeSetting b (takeSetting true w) s)).settingAnswered
      b 0x00#8 (takeSetting true w)) := by
  have hrequest : enableRequest b w s = answer .settingWrite statusOk (settingPayload b)
      (startStream b (writeSetting b (takeSetting true w) s)) := if_neg (by simp [hshape, henable])
  rw [exec_streamEnable htakes, hrequest, answer_setting, writeSetting_written, startStream_written,
    settingWritten_setting]
  rfl

/-! ## Stream enable off (R98, R100, R110, R111) -/

theorem exec_streamDisable (htakes : s.portTakes = true) :
    exec (.streamDisable b w) s = .next (disableRequest b w s) :=
  congrArg Host.Outcome.next (if_pos htakes)

theorem exec_streamDisable_busy (htakes : s.portTakes = true)
    (hbusy : s.shapeBusy b (takeSetting false w) = true) :
    exec (.streamDisable b w) s = .next (s.settingAnswered b 0x01#8 (s.setting b)) := by
  rw [exec_streamDisable htakes]
  exact congrArg Host.Outcome.next (if_pos hbusy)

/-- A taken disable whose halt leaves of the streams and of the settings what the write did, but for the
stream `t` of its own bay. -/
theorem exec_streamDisable_taken {v : State} (t : Stream) (htakes : s.portTakes = true)
    (hread : RevisionsRead s) (hshape : s.shapeBusy b (takeSetting false w) = false)
    (hhalt : haltStream b (s.settingWritten b (takeSetting false w) (s.shapedStream b (takeSetting false w))) = v)
    (hstreams : v.streams = (s.settingWritten b (takeSetting false w) t).streams)
    (hsettings : v.settings = s.settings.upd b (takeSetting false w))
    (ht : ∀ r ∈ t.revisions, r ∈ (s.stream b).revisions) :
    exec (.streamDisable b w) s = .next (v.settingAnswered b 0x00#8 (takeSetting false w)) := by
  have hrequest : disableRequest b w s = answer .settingWrite statusOk (settingPayload b)
      (readRevisions (haltStream b (writeSetting b (takeSetting false w) s))) := if_neg (by simp [hshape])
  have hsetting : v.setting b = takeSetting false w := by
    rw [State.setting, hsettings]
    exact Tab.get_upd_self ..
  have hwritten : RevisionsRead (s.settingWritten b (takeSetting false w) t) :=
    revisionsRead_putStream (s := (s.setSettings _).setAcc _) ht hread
  rw [exec_streamDisable htakes, hrequest, writeSetting_written, hhalt,
    readRevisions_of_read (revisionsRead_of_streams hstreams hwritten), answer_setting, hsetting]
  rfl

/-- A stream that is OFF or DRAINING is halted already. -/
theorem haltStream_halted (h : (s.stream b).state = .off ∨ (s.stream b).state = .draining) :
    haltStream b s = s := by
  obtain h | h := h <;> simp only [haltStream, h]

/-- The lane of bay `b` with one more frame to send. -/
def State.handed (s : State) (b : Bay) (f : Frame) : State :=
  s.putLane b { s.lane b with queue := (s.lane b).queue ++ [f] }

/-- A halt after a write replaces the stream that the write has shaped. -/
theorem settingWritten_handed (x : Setting) (t u : Stream) (f : Frame) :
    ((s.settingWritten b x t).handed b f).putStream b u = (s.settingWritten b x u).handed b f :=
  congrArg (State.handed · b f) (settingWritten_putStream x t u)

section
variable (hroom : s.hasRoom b 1)
include hroom

/-- A STARTING stream goes OFF with HALT NONE (R100). -/
theorem haltStream_starting (h : (s.stream b).state = .starting) : haltStream b s
    = (s.handed b (.halt none)).putStream b { s.stream b with state := .off } := by
  simp only [haltStream, h]
  exact handThen_of_room hroom

/-- A RUNNING stream with records to drain goes DRAINING with HALT carrying its last covered sample
(R110). -/
theorem haltStream_running (h : (s.stream b).state = .running) (hlist : (s.stream b).delivery ≠ []) :
    haltStream b s = (s.handed b (.halt ((s.stream b).coverage.map Coverage.last))).putStream b
      (drainingStream (s.stream b)) := by
  have hdrain (v : State) : ((v.putStream b (drainingStream (s.stream b))).stream b).delivery ≠ [] := by
    rw [State.stream_putStream_self]
    exact hlist
  simp only [haltStream, h]
  rw [handThen_of_room hroom]
  exact if_neg (hdrain _)

/-- A RUNNING stream with nothing to drain goes OFF with STREAM_STOPPED (R111). -/
theorem haltStream_drained (h : (s.stream b).state = .running) (hlist : (s.stream b).delivery = []) :
    haltStream b s = raiseCause .streamStopped b
      ((s.handed b (.halt ((s.stream b).coverage.map Coverage.last))).putStream b
        { s.stream b with state := .off, burst := none, revisions := [] }) := by
  have hdrain (v : State) : (v.putStream b (drainingStream (s.stream b))).stream b
      = drainingStream (s.stream b) := State.stream_putStream_self ..
  have hhalted (v : State) : (if ((v.putStream b (drainingStream (s.stream b))).stream b).delivery = [] then
        raiseCause .streamStopped b ((v.putStream b (drainingStream (s.stream b))).putStream b
          { (v.putStream b (drainingStream (s.stream b))).stream b with state := .off, revisions := [] })
      else v.putStream b (drainingStream (s.stream b))) = raiseCause .streamStopped b
        (v.putStream b { s.stream b with state := .off, burst := none, revisions := [] }) := by
    rw [hdrain, if_pos (show (drainingStream (s.stream b)).delivery = [] from hlist), putStream_putStream]
    rfl
  simp only [haltStream, h]
  rw [handThen_of_room hroom]
  exact hhalted (s.handed b _)

end

end

/-- Settles O23: the refusals, and the write with the start of a stream that is OFF. -/
theorem enableStartsStream : Obligations.EnableStartsStream := by
  intro s b w htakes
  rw [← takeSetting_eq]
  intro x old u answered written shaped
  refine ⟨fun hon hshape => ?_, fun hdraining => ?_, fun hoff hunready => ?_, fun hoff hready => ?_,
    fun hon hburst hlead => ?_⟩
  · exact exec_streamEnable_busy htakes (.inl (shapeBusy_iff.mpr ⟨hon, not_and_or.mpr hshape⟩))
  · exact exec_streamEnable_busy htakes (.inr (enableBusy_iff.mpr (.inl hdraining)))
  · exact exec_streamEnable_busy htakes (.inr (enableBusy_iff.mpr (.inr ⟨hoff, hunready⟩)))
  · have hshape : s.shapeBusy b x = false :=
      Bool.eq_false_iff.mpr fun h => (shapeBusy_iff.mp h).1 hoff
    have henable : s.enableBusy b = false := Bool.eq_false_iff.mpr fun h => by
      obtain h | h := enableBusy_iff.mp h
      · exact absurd (hoff.symm.trans h) (by decide)
      · exact h.2 hready
    rw [exec_streamEnable_taken htakes hshape henable, writeSetting_written, startStream_written,
      if_pos (show (s.shapedStream b x).state = .off from hoff)]
    rfl
  · have hshape : s.shapeBusy b x = false :=
      Bool.eq_false_iff.mpr fun h => (shapeBusy_iff.mp h).2 ⟨hburst, hlead⟩
    have hne : u.state ≠ .off := by obtain h | h := hon <;> simp [h]
    have henable : s.enableBusy b = false := Bool.eq_false_iff.mpr fun h => by
      obtain h | h := enableBusy_iff.mp h
      · exact absurd (hon.imp h.symm.trans h.symm.trans) (by simp)
      · exact hne h.1
    rw [exec_streamEnable_taken htakes hshape henable, writeSetting_written, startStream_written,
      if_neg (show ¬ (s.shapedStream b x).state = .off from hne)]
    rfl

/-- Settles O24, by the stream's state and, where it runs, by whether it has records to drain. -/
theorem disableStopsStream : Obligations.DisableStopsStream := by
  intro s b w htakes hread x old u answered written shaped halted sameShape
  have hbusy (h : ¬ (u.state ≠ .off ∧ ¬ sameShape)) : s.shapeBusy b x = false :=
    Bool.eq_false_iff.mpr (mt shapeBusy_iff.mp h)
  have hsame (hshape : sameShape) : s.shapeBusy b x = false := hbusy fun h => h.2 hshape
  have hstream : (s.settingWritten b x (s.shapedStream b x)).stream b = s.shapedStream b x :=
    settingWritten_stream ..
  have hstill (h : u.state = .off ∨ u.state = .draining) (hshape : s.shapeBusy b x = false) :
      exec (.streamDisable b w) s = .next (answered (written.putStream b shaped) 0x00#8 x) :=
    exec_streamDisable_taken shaped htakes hread hshape (haltStream_halted (hstream.symm ▸ h)) rfl rfl
      fun _ hv => hv
  refine ⟨fun hon hshape => exec_streamDisable_busy htakes (shapeBusy_iff.mpr ⟨hon, hshape⟩),
    fun hoff => hstill (.inl hoff) (hbusy fun h => h.1 hoff),
    fun hdraining hshape => hstill (.inr hdraining) (hsame hshape),
    fun hstarting hshape hroom => ?_, fun hrunning hshape hroom hlist => ?_,
    fun hrunning hshape hroom hlist => ?_⟩
  · have hhalt := haltStream_starting (s := s.settingWritten b x (s.shapedStream b x)) hroom
      (by rwa [hstream])
    rw [settingWritten_handed, hstream] at hhalt
    exact exec_streamDisable_taken { shaped with state := .off } htakes hread (hsame hshape) hhalt rfl rfl
      fun _ hv => hv
  · have hhalt := haltStream_running (s := s.settingWritten b x (s.shapedStream b x)) hroom
      (by rwa [hstream]) (by rwa [hstream])
    rw [settingWritten_handed, hstream] at hhalt
    exact exec_streamDisable_taken (drainingStream shaped) htakes hread (hsame hshape) hhalt rfl rfl
      fun _ hv => hv
  · have hhalt := haltStream_drained (s := s.settingWritten b x (s.shapedStream b x)) hroom
      (by rwa [hstream]) (by rwa [hstream])
    rw [settingWritten_handed, hstream, raiseCause_eq, raiseCause_attention (by decide)] at hhalt
    exact exec_streamDisable_taken { shaped with state := .off, burst := none, revisions := [] } htakes hread
      (hsame hshape) hhalt rfl rfl fun _ hv => nomatch hv

end Sys2Proof.Machine
end

section
/-! PROOF. The ranges of the coefficient tables and of the accumulators (R117, R137, R141): what keeps the law
of a table, entry by entry and row by row, and the law of the accumulators. -/

namespace Sys2Proof.Machine

/-! ## The law of a table (R117) -/

/-- A coefficient in its range: C in −128..+127, d in 0..7 (R117). -/
def Coeff.InRange (e : Coeff) : Prop :=
  -128 ≤ e.c ∧ e.c ≤ 127 ∧ e.d ≤ 7

/-- A row of a table as R117 has row `b`: in range, and (0, 0) at its own bay. -/
def RowLawful (b : Bay) (row : Tab 16 Coeff) : Prop :=
  ∀ src : Bay, (row.get src).InRange ∧ (b = src → row.get src = ⟨0, 0⟩)

theorem coeffTable_lawful_iff {t : CoeffTable} : t.Lawful ↔ ∀ b, RowLawful b (t.get b) := Iff.rfl

/-- An entry off the diagonal replaced by one in range. -/
theorem RowLawful.upd {b src : Bay} {row : Tab 16 Coeff} {e : Coeff} (h : RowLawful b row) (hne : b ≠ src)
    (he : e.InRange) : RowLawful b (row.upd src e) := by
  intro c
  rw [Tab.get_upd]
  split
  · next hc => exact ⟨he, fun hb => absurd (hb.trans hc.symm) hne⟩
  · exact h c

theorem CoeffTable.Lawful.upd {t : CoeffTable} {b : Bay} {row : Tab 16 Coeff} (h : t.Lawful)
    (hrow : RowLawful b row) : CoeffTable.Lawful (Tab.upd t b row) := by
  intro c
  rw [Tab.get_upd]
  split
  · next hc => exact hc ▸ hrow
  · exact h c

/-- The diagonal of a lawful table is (0, 0) already. -/
theorem CoeffTable.Lawful.zeroDiagonal_eq {t : CoeffTable} (h : t.Lawful) : zeroDiagonal t = t := by
  refine Tab.ext_get fun b => ?_
  have hself : (t.get b).get b = ⟨0, 0⟩ := (h b b).2 rfl
  rw [zeroDiagonal, Tab.get_gen, ← hself, Tab.upd_get]

theorem CoeffTable.Lawful.zeroDiagonal {t : CoeffTable} (h : t.Lawful) : (zeroDiagonal t).Lawful := by
  rwa [h.zeroDiagonal_eq]

/-- An entry as POKE ROW takes it is in range (R122, R172). -/
theorem takeEntry_inRange (e : Byte × Byte) : (takeEntry e).InRange :=
  ⟨BitVec.le_toInt e.1, Int.le_of_lt_add_one BitVec.toInt_lt, clamp_le (by decide) _⟩

/-- Row `b` as POKE ROW writes it (R122). -/
def pokedRow (b : Bay) (row : Tab 16 (Byte × Byte)) : Tab 16 Coeff :=
  Tab.gen 16 fun src => if src = b then ⟨0, 0⟩ else takeEntry (row.get src)

theorem pokedRow_get (b src : Bay) (row : Tab 16 (Byte × Byte)) :
    (pokedRow b row).get src = if src = b then ⟨0, 0⟩ else takeEntry (row.get src) := Tab.get_gen ..

theorem pokedRow_lawful (b : Bay) (row : Tab 16 (Byte × Byte)) : RowLawful b (pokedRow b row) := by
  intro src
  rw [pokedRow_get]
  split
  · exact ⟨⟨by decide, by decide, by decide⟩, fun _ => rfl⟩
  · next hne => exact ⟨takeEntry_inRange _, fun h => absurd h.symm hne⟩

theorem pokeSnapshot_eq (b : Bay) (row : Tab 16 (Byte × Byte)) (s : State) : pokeSnapshot b row s
    = s.setStore { s.store with snapshot := s.store.snapshot.upd b (pokedRow b row), written := true } := rfl

/-! ## The law of the accumulators (R137, R141) -/

/-- The values that an accumulator of a row may have at an adapt rate: 0 at OFF, else strictly between the
thresholds. -/
def AdaptRate.Admits (r : AdaptRate) (a : Int) : Prop :=
  match r.threshold with
  | none => a = 0
  | some n => -(n : Int) < a ∧ a < n

theorem AdaptRate.admits_zero (r : AdaptRate) : r.Admits 0 := by
  cases r with
  | off => rfl
  | slow => exact ⟨by decide, by decide⟩
  | medium => exact ⟨by decide, by decide⟩
  | fast => exact ⟨by decide, by decide⟩

theorem accumulatorsLawful_iff {s : State} : AccumulatorsLawful s ↔ ∀ b src : Bay,
    (s.setting b).rate.Admits (s.accAt b src) ∧ (b = src → s.accAt b src = 0) := Iff.rfl

theorem AccumulatorsLawful.putAcc {s : State} {b src : Bay} {a : Int} (h : AccumulatorsLawful s)
    (hne : b ≠ src) (ha : (s.setting b).rate.Admits a) : AccumulatorsLawful (s.putAcc b src a) := by
  refine accumulatorsLawful_iff.mpr fun c d => ?_
  rw [State.accAt_putAcc, State.putAcc_setting]
  split
  · next hc =>
    obtain ⟨rfl, rfl⟩ := hc
    exact ⟨ha, fun heq => absurd heq hne⟩
  · exact h c d

/-- Each row has kept its adapt rate and its accumulators, or stands at 0 (R141 to R144). -/
theorem AccumulatorsLawful.of_rows {s t : State} (h : AccumulatorsLawful s)
    (hrows : ∀ b, ((t.setting b).rate = (s.setting b).rate ∧ ∀ src, t.accAt b src = s.accAt b src)
      ∨ ∀ src, t.accAt b src = 0) : AccumulatorsLawful t := by
  refine accumulatorsLawful_iff.mpr fun b src => ?_
  obtain ⟨hrate, hacc⟩ | hzero := hrows b
  · rw [hrate, hacc]
    exact h b src
  · rw [hzero]
    exact ⟨AdaptRate.admits_zero _, fun _ => rfl⟩

theorem clearRow_accAt (b c src : Bay) (s : State) :
    (clearRow b s).accAt c src = if b = c then 0 else s.accAt c src := by
  show ((s.acc.upd b (Tab.fill 16 0)).get c).get src = _
  rw [Tab.get_upd]
  split
  · exact Tab.get_fill ..
  · rfl

/-- A write of setting record `b` leaves the other bays' rows; its own keeps its rate and its accumulators, or
is cleared (R141, R168). -/
theorem writeSetting_row (b c : Bay) (x : Setting) (s : State) :
    (((writeSetting b x s).setting c).rate = (s.setting c).rate
      ∧ ∀ src, (writeSetting b x s).accAt c src = s.accAt c src)
    ∨ ∀ src, (writeSetting b x s).accAt c src = 0 := by
  have hsetting (u : State) (hu : u.settings = s.settings.upd b x) :
      u.setting c = if b = c then x else s.setting c := by
    rw [State.setting, hu]
    exact Tab.get_upd ..
  unfold writeSetting
  dsimp only
  split
  · next hrate =>
    refine .inl ⟨?_, fun src => rfl⟩
    rw [hsetting _ rfl]
    split
    · next hc => exact hc ▸ hrate
    · rfl
  · by_cases hc : b = c
    · exact .inr fun src => by rw [clearRow_accAt, if_pos hc]
    · refine .inl ⟨?_, fun src => ?_⟩
      · rw [hsetting _ rfl, if_neg hc]
      · rw [clearRow_accAt, if_neg hc]
        rfl

end Sys2Proof.Machine
end

section
/-! PROOF. What lane events and a halted stream leave of the setup: all of it (R151 to R157, R4, R18, R20, R27
to R30, R100). -/

namespace Sys2Proof.Machine

section
variable (b : Bay) (s : State)

theorem putLane_keeps (l : Lane) : KeepsSetup s (s.putLane b l) := by constructor <;> rfl

theorem putSeek_keeps (p : Pos) (r : Option Seek) : KeepsSetup s (s.putSeek b p r) := by
  constructor <;> rfl

theorem putStream_keeps (x : Stream) : KeepsSetup s (s.putStream b x) := by constructor <;> rfl

theorem transmitHead_keeps : KeepsSetup s (transmitHead b s) := by
  unfold transmitHead
  split
  · exact .refl s
  · exact putLane_keeps ..

theorem detectDrive_keeps : KeepsSetup s (detectDrive b s) :=
  .ite ((putLane_keeps b s _).trans (raiseCause_keeps ..)) (.refl s)

theorem loseDrive_keeps : KeepsSetup s (loseDrive b s) := by
  have hlost : KeepsSetup s (raiseCause .depart b
      (s.putLane b { movedLane (s.lane b) .absent with caps := none })) :=
    (putLane_keeps b s _).trans (raiseCause_keeps ..)
  exact (KeepsSetup.ite (hlost.trans (releaseBay_keeps ..)) hlost).trans (refreshStream_keeps b _)

theorem admitDrive_keeps (caps : Caps) : KeepsSetup s (admitDrive b caps s) :=
  ((putLane_keeps b s _).trans (refreshStream_keeps b _)).trans (sendFrame_keeps ..)

theorem restartDrive_keeps (caps : Caps) : KeepsSetup s (restartDrive b caps s) :=
  ((((putLane_keeps b s _).trans (freeBay_keeps b _)).trans (stopStream_keeps b _)).trans
    (admitDrive_keeps b _ caps)).trans (searchStart_keeps _)

theorem takeHello_keeps (payload : List Byte) : KeepsSetup s (takeHello b payload s) :=
  .ite (refuse_keeps ..) (.ite (restartDrive_keeps ..) (admitDrive_keeps ..))

theorem postSeek_keeps (p : Pos) (n : Notice) : KeepsSetup s (postSeek b p n s) := by
  have hplaced : KeepsSetup s (forgetExpired b n.tag (s.putSeek b p (some (noticeSeek s b n)))) :=
    (putSeek_keeps b s p _).trans (.ite (putLane_keeps b _ _) (.refl _))
  exact (hplaced.trans (by constructor <;> rfl)).trans (searchStart_keeps _)

theorem takeNoticeFrame_keeps (payload : List Byte) : KeepsSetup s (takeNoticeFrame b payload s) := by
  unfold takeNoticeFrame
  split
  · exact refuse_keeps ..
  · unfold takeNotice
    split
    · exact refuse_keeps ..
    · exact .ite (refuse_keeps ..) (.ite (refuse_keeps ..) (postSeek_keeps ..))

theorem takeCommitTag_keeps (tag : Tag) : KeepsSetup s (takeCommitTag b tag s) := by
  unfold takeCommitTag
  split
  · split
    · exact handThen_keeps _ _ (fun u => putSeek_keeps b u _ _) s
    · exact refuse_keeps ..
    all_goals exact sendFrame_keeps ..
  · exact .ite (sendFrame_keeps ..) (refuse_keeps ..)

theorem cutSeek_keeps (p : Pos) (r : Seek) : KeepsSetup s (cutSeek b p r s) := by
  have hcut := (putSeek_keeps b s p (some (recompileCut r (cutIndex s.now r)))).trans
    (replaceExposure_keeps b r (recompileCut r (cutIndex s.now r)) _)
  exact .ite (hcut.trans (forecastChange_keeps ..)) hcut

theorem takeAbortTag_keeps (tag : Tag) : KeepsSetup s (takeAbortTag b tag s) := by
  have hwithdraw (p : Pos) (r : Seek) :
      KeepsSetup s (publishWhole b r (removeExposure b r (s.putSeek b p none))) :=
    ((putSeek_keeps b s p none).trans (removeExposure_keeps ..)).trans (forecastChange_keeps ..)
  unfold takeAbortTag
  split
  · next p r _ =>
    split
    · have hdequeued : KeepsSetup s (dequeue b p (s.putSeek b p none)) := by constructor <;> rfl
      exact (hdequeued.trans (abandonSearch_keeps ..)).trans (searchStart_keeps _)
    · exact hwithdraw ..
    · exact hwithdraw ..
    · exact .ite (.refl s) (cutSeek_keeps ..)
    · exact .refl s
  · exact refuse_keeps ..

theorem haltStream_keeps : KeepsSetup s (haltStream b s) := by
  unfold haltStream
  dsimp only
  split
  · exact .refl s
  · exact handThen_keeps _ _ (fun u => putStream_keeps b u _) s
  · refine handThen_keeps _ _ (fun u => ?_) s
    have hdrained := putStream_keeps b u (drainingStream (u.stream b))
    exact .ite ((hdrained.trans (putStream_keeps b _ _)).trans (raiseCause_keeps ..)) hdrained
  · exact .refl s

end

end Sys2Proof.Machine
end

section
/-! PROOF. Every step keeps the coefficient tables and the accumulators in their ranges
(StepKeepsTablesAndAccumulators). -/

namespace Sys2Proof.Machine

/-! ## What keeps the ranges -/

/-- The laws of the tables and of the accumulators hold of `t` where they hold of `s`. -/
structure KeepsRanges (s t : State) : Prop where
  tables : TablesLawful s → TablesLawful t
  accumulators : AccumulatorsLawful s → AccumulatorsLawful t

/-- `t` has the setting records, the accumulators and the tables of `s`. -/
structure SameCoefficients (s t : State) : Prop where
  settings : t.settings = s.settings
  acc : t.acc = s.acc
  active : t.store.active = s.store.active
  working : t.store.working = s.store.working
  snapshot : t.store.snapshot = s.store.snapshot

section
variable {s t u : State}

theorem accumulatorsLawful_of_same (hsettings : t.settings = s.settings) (hacc : t.acc = s.acc)
    (hs : AccumulatorsLawful s) : AccumulatorsLawful t :=
  hs.of_rows fun b => .inl ⟨by rw [State.setting, hsettings, State.setting],
    fun src => by rw [State.accAt, hacc, State.accAt]⟩

theorem SameCoefficients.ranges (h : SameCoefficients s t) : KeepsRanges s t where
  tables hs := by
    rw [TablesLawful, h.active, h.working, h.snapshot]
    exact hs
  accumulators := accumulatorsLawful_of_same h.settings h.acc

theorem KeepsSetup.ranges (h : KeepsSetup s t) : KeepsRanges s t :=
  SameCoefficients.ranges ⟨h.settings, h.acc, by rw [h.store], by rw [h.store], by rw [h.store]⟩

theorem KeepsRanges.refl (s : State) : KeepsRanges s s := ⟨id, id⟩

theorem KeepsRanges.trans (h : KeepsRanges s t) (k : KeepsRanges t u) : KeepsRanges s u :=
  ⟨k.tables ∘ h.tables, k.accumulators ∘ h.accumulators⟩

theorem KeepsRanges.ite {p : Prop} [Decidable p] (h : KeepsRanges s t) (k : KeepsRanges s u) :
    KeepsRanges s (if p then t else u) := by
  split <;> assumption

theorem KeepsRanges.foldl {α : Type} {f : State → α → State} (h : ∀ s x, KeepsRanges s (f s x))
    (xs : List α) (s : State) : KeepsRanges s (xs.foldl f s) := by
  induction xs generalizing s with
  | nil => exact .refl s
  | cons x xs ih => exact (h s x).trans (ih _)

end

/-! ## The Adaptation Unit (R138 to R140) -/

section
variable {b src : Bay} (hne : b ≠ src)
include hne

theorem putAcc_ranges {s : State} {a : Int} (ha : (s.setting b).rate.Admits a) :
    KeepsRanges s (s.putAcc b src a) :=
  ⟨id, fun hs => hs.putAcc hne ha⟩

theorem putWorking_ranges {s : State} {c : Int} (hc : -128 ≤ c ∧ c ≤ 127) :
    KeepsRanges s (s.putWorking b src c) where
  tables hs := by
    obtain ⟨hactive, hworking, hsnapshot⟩ := hs
    obtain ⟨-, -, hdelay⟩ := (hworking b src).1
    exact ⟨hactive, hworking.upd (RowLawful.upd (hworking b) hne ⟨hc.1, hc.2, hdelay⟩), hsnapshot⟩
  accumulators := accumulatorsLawful_of_same rfl rfl

theorem stepWorking_ranges (dir : Int) (s : State) : KeepsRanges s (stepWorking b src dir s) := by
  have hcleared : KeepsRanges s (s.putAcc b src 0) := putAcc_ranges hne (AdaptRate.admits_zero _)
  unfold stepWorking
  dsimp only
  split
  · next hc => exact hcleared.trans (putWorking_ranges hne hc)
  · exact hcleared.trans (raiseCause_keeps ..).ranges

/-- A moved accumulator that reaches no threshold lies between them; one that reaches a threshold starts again
from 0 (R138, R139). -/
theorem moveAcc_ranges (v : Int) (s : State) : KeepsRanges s (moveAcc b src v s) := by
  unfold moveAcc
  dsimp only
  split
  · exact .refl s
  · next n hrate =>
    split
    · exact stepWorking_ranges hne 1 s
    · next hup =>
      split
      · exact stepWorking_ranges hne (-1) s
      · next hdown =>
        refine putAcc_ranges hne ?_
        rw [AdaptRate.Admits, hrate]
        exact ⟨not_le.mp hdown, not_le.mp hup⟩

end

theorem countSource_ranges (b : Bay) (m : Sample) (r : Int) (s : State) (src : Bay) :
    KeepsRanges s (countSource b m r s src) := by
  unfold countSource
  split
  · exact .refl s
  · next hcounted => exact moveAcc_ranges (Ne.symm (not_or.mp hcounted).1) _ s

theorem takeReport_ranges (b : Bay) (payload : List Byte) (s : State) :
    KeepsRanges s (takeReport b payload s) := by
  have hvalue (u : State) (x : Sample × Int) : KeepsRanges u (takeResidual b u x) :=
    .ite (.foldl (countSource_ranges b x.1 x.2) _ u) (.refl u)
  exact .ite (refuse_keeps ..).ranges (.foldl hvalue _ s)

/-! ## The commit (R126, R127) and the work of a boundary -/

section
variable (s : State)

theorem takeCommit_ranges : KeepsRanges s (takeCommit s) := by
  obtain ⟨-, hcommit⟩ | ⟨-, hcommit⟩ := takeCommit_cases s <;> rw [hcommit]
  · exact .refl s
  · exact ⟨fun ⟨_, hworking, hsnapshot⟩ => ⟨hworking, hworking, hsnapshot⟩,
      accumulatorsLawful_of_same rfl rfl⟩

theorem takeDueCommit_ranges : KeepsRanges s (takeDueCommit s) := by
  have hcleared : SameCoefficients s (s.setStore { s.store with commitDue := false }) := by
    constructor <;> rfl
  exact .ite (hcleared.ranges.trans (takeCommit_ranges _)) (.refl s)

theorem completeRebuild_ranges (searchFirst : Bool) : KeepsRanges s (completeRebuild searchFirst s) := by
  have hwritten : KeepsRanges s (raiseCause .rebuilt 0 ((recomputeExposure s).setRebuild none)) :=
    SameCoefficients.ranges (by constructor <;> rfl)
  refine .ite (.refl s) (.ite ?_ ?_)
  · exact (hwritten.trans (searchStart_keeps _).ranges).trans (takeDueCommit_ranges _)
  · exact (hwritten.trans (takeDueCommit_ranges _)).trans (searchStart_keeps _).ranges

theorem completeOverdue_ranges (order : List Duty) : KeepsRanges s (completeOverdue order s) := by
  refine (overdueWork_keeps s).ranges.trans ?_
  rw [completeOverdue]
  unfold overdueRebuild
  split
  · exact .ite (completeRebuild_ranges ..) (.refl _)
  · exact .refl _

theorem advanceEpoch_ranges : KeepsRanges s (advanceEpoch s) := by
  have hcounted (n : Nat) (due : Bool) :
      KeepsRanges s (s.setStore { s.store with epochCount := n, commitDue := due }) :=
    SameCoefficients.ranges (by constructor <;> rfl)
  exact .ite (hcounted _ _) (.ite (hcounted 0 true) ((hcounted 0 _).trans (takeCommit_ranges _)))

theorem runDuty_ranges (changed : Bool) (d : Duty) : KeepsRanges s (runDuty changed s d) := by
  by_cases hd : d = .epoch
  · subst hd
    exact .ite (advanceEpoch_ranges s) (.refl s)
  · exact (runDuty_keeps changed s hd).ranges

theorem boundaryDuties_ranges (changed : Bool) (order : List Duty) :
    KeepsRanges s (boundaryDuties changed order s) := by
  have hretired : SameCoefficients s s.retired := by constructor <;> rfl
  have hduties : KeepsRanges (boundaryStart s) ((dutyOrder order).foldl (runDuty changed) (boundaryStart s)) :=
    .foldl (fun u d => runDuty_ranges u changed d) _ _
  exact ((hretired.ranges.trans (boundaryStart_keeps s).ranges).trans hduties).trans
    (readRevisions_keeps _).ranges

theorem advanceSample_ranges : KeepsRanges s (advanceSample s) :=
  SameCoefficients.ranges (by constructor <;> rfl)

theorem takeBoundary_ranges (order : List Duty) : KeepsRanges s (takeBoundary order s) :=
  ((completeOverdue_ranges s order).trans (advanceSample_ranges _)).trans (boundaryDuties_ranges _ _ order)

theorem countPeriod_ranges : KeepsRanges s (countPeriod s) :=
  .ite (.refl s) (.ite (takeBoundary_ranges ..) (SameCoefficients.ranges (by constructor <;> rfl)))

/-! ## Resets (R131, R132, R144) -/

/-- After a reset every accumulator is 0 and the snapshot is the zero table. -/
theorem hubReset_ranges (c : ResetCause) {x : Store} (h : TablesLawful s → TablesLawful (s.setStore x)) :
    KeepsRanges s (hubReset c x s) :=
  ⟨h, fun hs => hs.of_rows fun b => .inr (reset_accAt b)⟩

theorem keptStore_tables (hs : TablesLawful s) : TablesLawful (s.setStore (keptStore s.store)) := by
  obtain ⟨hactive, hworking, -⟩ := hs
  exact ⟨hactive, hworking, zeroTable_lawful⟩

theorem releaseReset_ranges (order : List Duty) : KeepsRanges s (releaseReset order s) := by
  have hreleased : SameCoefficients s (s.setPins { s.pins with resetHeld := false }) := by
    constructor <;> rfl
  exact (hreleased.ranges.trans (boundaryDuties_ranges _ false order)).trans
    (.foldl (fun u b => .ite (detectDrive_keeps b u).ranges (.refl u)) _ _)

end

/-! ## Requests (R42, R120, R122, R123, R168) -/

section
variable (b : Bay) (s : State)

theorem answer_ranges (k : RequestKind) (status : Byte) (payload : State → List Byte) :
    KeepsRanges s (answer k status payload s) :=
  SameCoefficients.ranges (by constructor <;> rfl)

theorem writeSetting_ranges (x : Setting) : KeepsRanges s (writeSetting b x s) where
  tables hs := by
    rw [writeSetting_written]
    exact hs
  accumulators hs := hs.of_rows fun c => writeSetting_row b c x s

theorem clearRow_ranges : KeepsRanges s (clearRow b s) := by
  refine ⟨id, fun hs => hs.of_rows fun c => ?_⟩
  by_cases hc : b = c
  · exact .inr fun src => by rw [clearRow_accAt, if_pos hc]
  · exact .inl ⟨rfl, fun src => by rw [clearRow_accAt, if_neg hc]⟩

theorem enableRequest_ranges (w : SettingFields) : KeepsRanges s (enableRequest b w s) := by
  have hstart (u : State) : KeepsSetup u (startStream b u) := .ite (putStream_keeps b u _) (.refl u)
  exact .ite (answer_ranges ..) (((writeSetting_ranges b s _).trans (hstart _).ranges).trans
    (answer_ranges ..))

theorem disableRequest_ranges (w : SettingFields) : KeepsRanges s (disableRequest b w s) :=
  .ite (answer_ranges ..) (((writeSetting_ranges b s _).trans
    ((haltStream_keeps b _).trans (readRevisions_keeps _)).ranges).trans (answer_ranges ..))

theorem hubWriteRequest_ranges (divisor : BitVec 16) (code : Byte) :
    KeepsRanges s (hubWriteRequest divisor code s) := by
  have hdivisor : KeepsRanges s (writeDivisor (takeDivisor divisor) s) :=
    SameCoefficients.ranges (by constructor <;> rfl)
  have hepoch (u : State) : KeepsRanges u (writeEpochLength (takeEpochLength code) u) :=
    .ite (.refl u) (SameCoefficients.ranges (by constructor <;> rfl))
  exact .ite (answer_ranges ..) ((hdivisor.trans (hepoch _)).trans (answer_ranges ..))

theorem freezeRequest_ranges : KeepsRanges s (freezeRequest s) := by
  have hfrozen : KeepsRanges s (s.setStore { s.store with
      snapshot := zeroDiagonal s.store.active, frozen := true, written := false }) :=
    ⟨fun ⟨hactive, hworking, _⟩ => ⟨hactive, hworking, hactive.zeroDiagonal⟩,
      accumulatorsLawful_of_same rfl rfl⟩
  exact .ite (answer_ranges ..) (hfrozen.trans (answer_ranges ..))

theorem loadSnapshot_ranges : KeepsRanges s (loadSnapshot s) := by
  refine ⟨fun ⟨_, _, hsnapshot⟩ => ⟨hsnapshot.zeroDiagonal, hsnapshot.zeroDiagonal, hsnapshot⟩,
    fun hs => hs.of_rows fun b => .inr fun src => ?_⟩
  show ((Tab.fill 16 (Tab.fill 16 0)).get b).get src = 0
  rw [Tab.get_fill, Tab.get_fill]

theorem thawRequest_ranges : KeepsRanges s (thawRequest s) := by
  have hended : KeepsRanges s (s.setStore { s.store with frozen := false }) :=
    SameCoefficients.ranges (by constructor <;> rfl)
  exact .ite (answer_ranges ..) (.ite ((loadSnapshot_ranges s).trans (answer_ranges ..))
    (hended.trans (answer_ranges ..)))

theorem pokeRequest_ranges (row : Tab 16 (Byte × Byte)) : KeepsRanges s (pokeRequest b row s) := by
  have hpoked : KeepsRanges s (pokeSnapshot b row s) :=
    ⟨fun ⟨hactive, hworking, hsnapshot⟩ => ⟨hactive, hworking, hsnapshot.upd (pokedRow_lawful b row)⟩,
      accumulatorsLawful_of_same rfl rfl⟩
  exact .ite (hpoked.trans (answer_ranges ..)) (answer_ranges ..)

theorem resetBay_ranges : KeepsRanges s (resetBay b s) := by
  have hstopped := ((putLane_keeps b s (resetLane (s.lane b))).trans (freeBay_keeps b _)).trans
    (stopStream_keeps b _)
  have hcleared (u : State) : KeepsRanges u (clearHistory b u) :=
    SameCoefficients.ranges (by constructor <;> rfl)
  exact ((hstopped.ranges.trans (hcleared _)).trans (clearRow_ranges b _)).trans
    (((refreshStream_keeps b _).trans (searchStart_keeps _)).trans (readRevisions_keeps _)).ranges

end

/-! ## Every step -/

theorem receiveFrame_ranges (b : Bay) (kind : Byte) (len : Option Nat) (payload : List Byte)
    {take : State → State} (h : ∀ u, KeepsRanges u (take u)) (s : State) :
    KeepsRanges s (receiveFrame b kind len payload take s) := by
  have hgood : KeepsRanges s (goodFrame b s) := (putLane_keeps b s _).ranges
  have hrefused (why : Reason) := hgood.trans (refuse_keeps b none why kind (goodFrame b s)).ranges
  exact .ite (.refl s) (.ite (hrefused _) (.ite (hgood.trans (h _)) (hrefused _)))

theorem takeEvent_ranges (c : Instr) (s : State) : KeepsRanges s (takeEvent c s) := by
  have hrequest {effect : State → State} (h : KeepsRanges s (effect s)) :
      KeepsRanges s (if s.portTakes then effect s else s) := .ite h (.refl s)
  have hanswer (k : RequestKind) (payload : State → List Byte) :
      KeepsRanges s (if s.portTakes then answer k statusOk payload s else s) :=
    .ite (answer_ranges ..) (.refl s)
  have hread {t : State} (h : KeepsRanges s t) : KeepsRanges s (readRevisions t) :=
    h.trans (readRevisions_keeps t).ranges
  have hgood (b : Bay) : KeepsSetup s (goodFrame b s) := putLane_keeps b s _
  have hpresence (b : Bay) (x : Bool) : KeepsRanges s (setPresence b x s) :=
    SameCoefficients.ranges (by constructor <;> rfl)
  cases c with
  | powerOn => exact hubReset_ranges s _ fun _ => ⟨zeroTable_lawful, zeroTable_lawful, zeroTable_lawful⟩
  | pinReset => exact hubReset_ranges s _ (keptStore_tables s)
  | resetRelease order => exact .ite (releaseReset_ranges s order) (.refl s)
  | sampleBoundary order => exact .ite (.refl s) (takeBoundary_ranges s order)
  | slotStart order => exact .ite (takeBoundary_ranges s order) (.refl s)
  | epochEnd order => exact .ite (takeBoundary_ranges s order) (.refl s)
  | rebuildComplete searchFirst => exact completeRebuild_ranges s searchFirst
  | searchStart => exact (searchStart_keeps s).ranges
  | searchComplete => exact (completeSearch_keeps s).ranges
  | burstComplete b => exact (completeBurst_keeps b s).ranges
  | revisionComplete b record => exact (completeRevision_keeps b record s).ranges
  | drainComplete b => exact (completeDrain_keeps b s).ranges
  | laneTransmit b => exact (transmitHead_keeps b s).ranges
  | presenceRise b =>
    exact .ite (.refl s) (.ite (hpresence b true)
      ((hpresence b true).trans (detectDrive_keeps b _).ranges))
  | presenceFall b =>
    exact .ite (.refl s) (.ite (hpresence b false)
      (hread ((hpresence b false).trans (loseDrive_keeps b _).ranges)))
  | badFrame b why =>
    exact .ite (.ite (putLane_keeps b s _).ranges (hread (faultLane_keeps b s).ranges)) (.refl s)
  | unknownFrame b kind payload =>
    exact .ite (.refl s) (hread ((hgood b).trans (refuse_keeps ..)).ranges)
  | hello b payload => exact .ite (.refl s) (hread ((hgood b).trans (takeHello_keeps ..)).ranges)
  | notice b payload =>
    exact hread (receiveFrame_ranges _ _ _ _ (fun u => (takeNoticeFrame_keeps b u payload).ranges) s)
  | commit b payload =>
    exact hread (receiveFrame_ranges _ _ _ _ (fun u => (takeCommitTag_keeps b u _).ranges) s)
  | abort b payload =>
    exact hread (receiveFrame_ranges _ _ _ _ (fun u => (takeAbortTag_keeps b u _).ranges) s)
  | residual b payload => exact hread (receiveFrame_ranges _ _ _ _ (takeReport_ranges b payload) s)
  | badRequest why =>
    exact hrequest (effect := respond (badResponseKind why) [statusBadRequest])
      (SameCoefficients.ranges (by constructor <;> rfl))
  | settingRead b => exact hanswer ..
  | streamEnable b w => exact hrequest (enableRequest_ranges b s w)
  | streamDisable b w => exact hrequest (disableRequest_ranges b s w)
  | hubRead => exact hanswer ..
  | hubWrite divisor code => exact hrequest (hubWriteRequest_ranges s divisor code)
  | freeze => exact hrequest (freezeRequest_ranges s)
  | thaw => exact hrequest (thawRequest_ranges s)
  | peekRow b => exact hrequest (effect := peekRequest b) (.ite (answer_ranges ..) (answer_ranges ..))
  | pokeRow b row => exact hrequest (pokeRequest_ranges b s row)
  | activeRowRead b => exact hanswer ..
  | bayInspect b page => exact hanswer ..
  | exposureRead b offset count => exact hanswer ..
  | attentionRead => exact hanswer ..
  | attentionClear causes =>
    exact .ite (SameCoefficients.ranges (by constructor <;> rfl)) (.refl s)
  | attentionConfigure mask route =>
    exact .ite (SameCoefficients.ranges (by constructor <;> rfl)) (.refl s)
  | bayReset b => exact .ite ((resetBay_ranges b s).trans (answer_ranges ..)) (.refl s)
  | hubReset => exact .ite (SameCoefficients.ranges (by constructor <;> rfl)) (.refl s)
  | hubResetAtCsnRise =>
    have hdeselected : SameCoefficients s (deselect s) := by constructor <;> rfl
    have hreset : KeepsRanges (deselect s) (hubReset .command (keptStore s.store) (deselect s)) :=
      hubReset_ranges _ _ (keptStore_tables (deselect s))
    exact .ite ((hdeselected.ranges.trans hreset).trans (releaseReset_ranges _ [])) (.refl s)

/-- A step takes the front command off the queue, or lets one period pass. -/
theorem step_ranges {s t : State} (h : step s = .next t) : KeepsRanges s t := by
  unfold step at h
  split at h
  · cases h
    exact countPeriod_ranges s
  · next c rest _ =>
    have htaken : SameCoefficients s (s.setPending rest) := by constructor <;> rfl
    exact htaken.ranges.trans (takeEvent_of_exec h ▸ takeEvent_ranges c _)

/-- Settles O53, over everything a step can do. -/
theorem stepKeepsTablesAndAccumulators : Obligations.StepKeepsTablesAndAccumulators :=
  fun _ _ h => ⟨(step_ranges h).tables, (step_ranges h).accumulators⟩

end Sys2Proof.Machine
end

section
/-! PROOF. FREEZE, POKE ROW and THAW (FreezeCopiesTheActiveTable, PokeRowWritesTheSnapshot,
ThawLoadsAWrittenSnapshot). -/

namespace Sys2Proof.Machine

/-! ## Responses (R165, R166) -/

theorem sequencePayload_eq (s : State) : sequencePayload s
    = [s.store.sequence.extractLsb' 0 8, s.store.sequence.extractLsb' 8 8] := leBytes_two_toNat _

section
variable {s : State} (htakes : s.portTakes = true)
include htakes

/-! ## FREEZE (R120) -/

theorem exec_freeze_frozen (h : s.store.frozen = true) :
    exec .freeze s = .next (s.setPort (s.port.answer 0xA4#8 [0x02#8])) :=
  congrArg Host.Outcome.next ((if_pos htakes).trans (if_pos h))

/-- The active table is copied with its diagonal (0, 0), where a lawful table has it already (R117). -/
theorem exec_freeze_thawed (h : s.store.frozen = false) (hactive : s.store.active.Lawful) :
    exec .freeze s = .next ((s.setStore { s.store with
        snapshot := s.store.active, frozen := true, written := false }).setPort
      (s.port.answer 0xA4#8 (0x00#8 :: sequencePayload s))) := by
  refine congrArg Host.Outcome.next ((if_pos htakes).trans ((if_neg (by simp [h])).trans ?_))
  rw [hactive.zeroDiagonal_eq]
  rfl

/-! ## POKE ROW (R122, R172) -/

theorem exec_pokeRow_thawed (b : Bay) (row : Tab 16 (Byte × Byte)) (h : s.store.frozen = false) :
    exec (.pokeRow b row) s = .next (s.setPort (s.port.answer 0xA7#8 [0x03#8])) :=
  congrArg Host.Outcome.next ((if_pos htakes).trans (if_neg (by simp [h])))

/-- The response carries the row of the snapshot as the write leaves it (R164). -/
theorem exec_pokeRow_frozen (b : Bay) (row : Tab 16 (Byte × Byte)) (h : s.store.frozen = true) :
    exec (.pokeRow b row) s = .next ((pokeSnapshot b row s).setPort
      (s.port.answer 0xA7#8 (0x00#8 :: snapshotPayload b (pokeSnapshot b row s)))) :=
  congrArg Host.Outcome.next ((if_pos htakes).trans (if_pos h))

/-! ## THAW (R123, R124) -/

theorem exec_thaw_thawed (h : s.store.frozen = false) :
    exec .thaw s = .next (s.setPort (s.port.answer 0xA5#8 [0x03#8])) :=
  congrArg Host.Outcome.next ((if_pos htakes).trans (if_pos (by simp [h])))

theorem exec_thaw_unwritten (h : s.store.frozen = true) (hwritten : s.store.written = false) :
    exec .thaw s = .next ((s.setStore { s.store with frozen := false }).setPort
      (s.port.answer 0xA5#8 (0x00#8 :: 0x00#8 :: sequencePayload s))) :=
  congrArg Host.Outcome.next ((if_pos htakes).trans ((if_neg (by simp [h])).trans
    (if_neg (by simp [hwritten]))))

theorem exec_thaw_written (h : s.store.frozen = true) (hwritten : s.store.written = true) :
    exec .thaw s = .next ((loadSnapshot s).setPort
      (s.port.answer 0xA5#8 (0x00#8 :: 0x01#8 :: sequencePayload (loadSnapshot s)))) :=
  congrArg Host.Outcome.next ((if_pos htakes).trans ((if_neg (by simp [h])).trans (if_pos hwritten)))

end

/-- A lawful snapshot is loaded as it stands (R117, R123). -/
theorem loadSnapshot_eq {s : State} (h : s.store.snapshot.Lawful) : loadSnapshot s
    = ((s.setStore { s.store with
        active := s.store.snapshot, working := s.store.snapshot, frozen := false, written := false
        sequence := s.store.sequence + 1 }).setAcc (Tab.fill 16 (Tab.fill 16 0))).setRebuild
        (some s.now) := by
  rw [loadSnapshot, h.zeroDiagonal_eq]

/-! ## The written row (R122) -/

section
variable (b : Bay) (row : Tab 16 (Byte × Byte)) (s : State)

theorem pokeSnapshot_row_self : (pokeSnapshot b row s).store.snapshot.get b = pokedRow b row :=
  Tab.get_upd_self ..

theorem pokeSnapshot_row_ne {c : Bay} (h : c ≠ b) :
    (pokeSnapshot b row s).store.snapshot.get c = s.store.snapshot.get c :=
  Tab.get_upd_ne _ _ h.symm

/-- The written row has (0, 0) at its own bay, so that it is read back as it stands (R117). -/
theorem pokedRow_read (src : Bay) :
    (if src = b then (⟨0, 0⟩ : Coeff) else (pokedRow b row).get src) = (pokedRow b row).get src := by
  rw [pokedRow_get]
  split <;> rfl

end

/-! ## The obligations -/

/-- Settles O44, by whether the store is frozen. -/
theorem freezeCopiesTheActiveTable : Obligations.FreezeCopiesTheActiveTable := by
  refine fun s htakes => ⟨fun h ⟨hactive, _, _⟩ => ?_, exec_freeze_frozen htakes⟩
  rw [exec_freeze_thawed htakes h hactive, sequencePayload_eq]

/-- Settles O45: the row as it is written, and its bytes as PEEK ROW reads them. -/
theorem pokeRowWritesTheSnapshot : Obligations.PokeRowWritesTheSnapshot := by
  refine fun s b row htakes => ⟨exec_pokeRow_thawed htakes b row, fun h => ?_⟩
  obtain ⟨hlength, hbytes⟩ := rowBytes_readRow (pokeSnapshot b row s).store.snapshot b
  rw [pokeSnapshot_row_self] at hbytes
  refine ⟨_, _, exec_pokeRow_frozen htakes b row h, rfl, fun c hc => pokeSnapshot_row_ne b row s hc, hlength,
    fun src => ⟨?_, ?_⟩⟩
  · refine (congrArg (Tab.get · src) (pokeSnapshot_row_self b row s)).trans ((pokedRow_get ..).trans ?_)
    rw [takeEntry, clamp_zero]
  · have hrow := hbytes src
    rw [pokedRow_read, ← pokeSnapshot_row_self b row s] at hrow
    exact hrow

/-- Settles O46, by whether the store is frozen and its snapshot written. -/
theorem thawLoadsAWrittenSnapshot : Obligations.ThawLoadsAWrittenSnapshot := by
  refine fun s htakes => ⟨exec_thaw_thawed htakes, fun h hwritten => ?_,
    fun h hwritten ⟨_, _, hsnapshot⟩ => ?_⟩
  · rw [exec_thaw_unwritten htakes h hwritten, sequencePayload_eq]
  · rw [exec_thaw_written htakes h hwritten, sequencePayload_eq, loadSnapshot_eq hsnapshot]
    rfl

end Sys2Proof.Machine
end

section
/-! PROOF. A RESIDUAL report as the Adaptation Unit takes it (R134, R135): its values with their samples, the
four conditions of use, what they can change, and the reports that change nothing
(UnusedResidualChangesNothing). -/

namespace Sys2Proof.Machine

/-! ## The values of a report (R134) -/

/-- The values of a report whose first sample is `m`, with their samples. -/
def reportedFrom (m : Sample) (values : List Byte) : List (Sample × Int) :=
  values.mapIdx fun i v => (m + BitVec.ofNat 32 i, v.toInt)

theorem reportedFrom_cons (m : Sample) (v : Byte) (values : List Byte) :
    reportedFrom m (v :: values) = (m, v.toInt) :: reportedFrom (m + 1) values := by
  simp only [reportedFrom, List.mapIdx_cons, BitVec.ofNat_eq_ofNat, BitVec.add_zero]
  refine congrArg (List.cons _) (congrArg (List.mapIdx · values) (funext fun i => funext fun x => ?_))
  rw [BitVec.add_assoc, add_comm i 1, BitVec.ofNat_add]

theorem mem_reportedFrom {m : Sample} {values : List Byte} {x : Sample × Int} :
    x ∈ reportedFrom m values
      ↔ ∃ (i : Nat) (v : Byte), values[i]? = some v ∧ x = (m + BitVec.ofNat 32 i, v.toInt) := by
  simp only [reportedFrom, List.mem_iff_getElem?, List.getElem?_mapIdx, Option.map_eq_some_iff,
    eq_comm (a := x)]

section
variable {f0 f1 f2 f3 count : Byte} {values : List Byte}

theorem residualMalformed_iff : residualMalformed ([f0, f1, f2, f3, count] ++ values) = true
    ↔ count = 0 ∨ 8 < count.toNat ∨ values.length ≠ count.toNat := by
  have hzero : count = 0 ↔ count.toNat = 0 := by rw [← BitVec.toNat_inj]; rfl
  have hcount : byteAt ([f0, f1, f2, f3, count] ++ values) 4 = count := rfl
  simp only [residualMalformed, hcount, hzero, List.length_append, List.length_cons, List.length_nil,
    Bool.or_eq_true, decide_eq_true_eq]
  omega

theorem residualMalformed_of_short {payload : List Byte} (h : payload.length < 5) :
    residualMalformed payload = true := by
  simp [residualMalformed, h]

theorem residualValues_eq (h : values.length = count.toNat) :
    residualValues ([f0, f1, f2, f3, count] ++ values) = reportedFrom (f3 ++ f2 ++ f1 ++ f0) values := by
  have hcount : byteAt ([f0, f1, f2, f3, count] ++ values) 4 = count := rfl
  have hfirst : BitVec.ofNat 32 (fieldAt ([f0, f1, f2, f3, count] ++ values) 0 4) = f3 ++ f2 ++ f1 ++ f0 :=
    leNat_four f0 f1 f2 f3
  refine List.ext_getElem (by rw [residualValues, hcount]; simp [reportedFrom, h]) fun i hi hi' => ?_
  have hlt : i < values.length := by simpa [reportedFrom] using hi'
  have hbyte : byteAt ([f0, f1, f2, f3, count] ++ values) (5 + i) = values[i] := by
    rw [byteAt, List.getD_append_right _ _ _ _ (by simp)]
    simp [hlt]
  simp only [residualValues, reportedFrom, List.getElem_map, List.getElem_range, List.getElem_mapIdx, hfirst,
    hbyte]

end

/-! ## When a value is used (R135) -/

/-- The age condition by the difference of the two samples, read as signed. -/
theorem recentSample_iff {now m : Sample} :
    recentSample now m = true ↔ 1 ≤ (now - m).toInt ∧ (now - m).toInt ≤ 64 := by
  have hback : now - 64 - m = now - m - 64 := by bv_omega
  rw [recentSample, earlier, earlier, hback]
  generalize now - m = age
  have hlt := age.isLt
  have hsub : (age - 64).toNat = (2 ^ 32 - 64 + age.toNat) % 2 ^ 32 := BitVec.toNat_sub ..
  simp only [BitVec.toInt_eq_toNat_cond, hsub, Bool.and_eq_true, Bool.not_eq_true', decide_eq_false_iff_not,
    decide_eq_true_eq]
  split <;> split <;> omega

theorem covers_iff {c : Coverage} {m : Sample} :
    c.covers m = true ↔ (c.first - m).toInt ≤ 0 ∧ (m - c.last).toInt ≤ 0 := by
  simp [Coverage.covers, earlier]

theorem usesResidual_iff {s : State} {b : Bay} {m : Sample} {r : Int} : s.usesResidual b m r = true
    ↔ (1 ≤ (s.now - m).toInt ∧ (s.now - m).toInt ≤ 64)
      ∧ (∃ c, (s.stream b).coverage = some c ∧ (c.first - m).toInt ≤ 0 ∧ (m - c.last).toInt ≤ 0)
      ∧ (s.setting b).rate ≠ .off ∧ (s.setting b).deadband < r.natAbs := by
  simp only [State.usesResidual, Bool.and_eq_true, recentSample_iff, Option.any_eq_true, covers_iff,
    bne_iff_ne, decide_eq_true_eq, and_assoc]

theorem takeResidual_of_unused {s : State} {b : Bay} {x : Sample × Int}
    (h : s.usesResidual b x.1 x.2 = false) : takeResidual b s x = s :=
  if_neg (by rw [h]; exact Bool.false_ne_true)

/-! ## What the Adaptation Unit changes -/

/-- `s` with the accumulators, the working coefficients and the Attention Unit of `t`. -/
def State.learnedFrom (s t : State) : State :=
  ((s.setAcc t.acc).setStore { s.store with working := t.store.working }).setAttention t.attention

/-- `t` differs from `s` at most in what the Adaptation Unit changes. -/
def Learns (s t : State) : Prop :=
  t = s.learnedFrom t

section
variable {s t u : State}

theorem Learns.refl (s : State) : Learns s s := rfl

theorem Learns.trans (h : Learns s t) (k : Learns t u) : Learns s u :=
  have hsame : t.learnedFrom u = (s.learnedFrom t).learnedFrom u := congrArg (State.learnedFrom · u) h
  Eq.trans k hsame

theorem Learns.ite {p : Prop} [Decidable p] (h : Learns s t) (k : Learns s u) :
    Learns s (if p then t else u) := by
  split <;> assumption

theorem Learns.foldl {α : Type} {f : State → α → State} (h : ∀ s x, Learns s (f s x)) (xs : List α)
    (s : State) : Learns s (xs.foldl f s) := by
  induction xs generalizing s with
  | nil => exact .refl s
  | cons x xs ih => exact (h s x).trans (ih _)

theorem Learns.lane (h : Learns s t) (c : Bay) : t.lane c = s.lane c := by rw [h]; rfl

theorem Learns.setting (h : Learns s t) (c : Bay) : t.setting c = s.setting c := by rw [h]; rfl

theorem Learns.streams (h : Learns s t) : t.streams = s.streams := by rw [h]; rfl

theorem Learns.sourceTorque (h : Learns s t) (b src : Bay) (m : Sample) :
    t.sourceTorque b src m = s.sourceTorque b src m := by rw [h]; rfl

theorem moveAcc_learns (b src : Bay) (v : Int) (s : State) : Learns s (moveAcc b src v s) := by
  have hstep (dir : Int) : Learns s (stepWorking b src dir s) := .ite rfl rfl
  unfold moveAcc
  split
  · exact .refl s
  · exact .ite (hstep 1) (.ite (hstep (-1)) rfl)

theorem countSource_learns (b : Bay) (m : Sample) (r : Int) (s : State) (src : Bay) :
    Learns s (countSource b m r s src) := .ite (.refl s) (moveAcc_learns ..)

theorem takeResidual_learns (b : Bay) (s : State) (x : Sample × Int) : Learns s (takeResidual b s x) :=
  .ite (.foldl (countSource_learns b x.1 x.2) _ s) (.refl s)

end

/-! ## What a READY lane does with a RESIDUAL (R134, R152) -/

section
variable {s : State} {b : Bay}

theorem exec_residual_of_ready (h : (s.lane b).state = .ready) (payload : List Byte) :
    exec (.residual b payload) s = .next (readRevisions (takeReport b payload (goodFrame b s))) := by
  show Host.Outcome.next (readRevisions (receiveFrame ..)) = _
  rw [receiveFrame_of_ready h kindResidual rfl]

theorem exec_residual_malformed {payload : List Byte} (h : (s.lane b).state = .ready)
    (hread : RevisionsRead s) (hroom : s.hasRoom b 1) (hbad : residualMalformed payload = true) :
    exec (.residual b payload) s = .next (s.putLane b { s.lane b with
      bad := 0, queue := (s.lane b).queue ++ [.refuse none .malformed 0x05#8] }) := by
  rw [exec_residual_of_ready h, takeReport, if_pos hbad, refuse, sendFrame, handThen_goodFrame hroom]
  exact congrArg _ (readRevisions_of_streams (s := s) hread rfl)

theorem takeReport_of_wellFormed {f0 f1 f2 f3 count : Byte} {values : List Byte} (hlo : 1 ≤ count.toNat)
    (hhi : count.toNat ≤ 8) (hlength : values.length = count.toNat) :
    takeReport b ([f0, f1, f2, f3, count] ++ values) s
      = (reportedFrom (f3 ++ f2 ++ f1 ++ f0) values).foldl (takeResidual b) s := by
  have hgood : ¬residualMalformed ([f0, f1, f2, f3, count] ++ values) = true := by
    rw [residualMalformed_iff]
    rintro (rfl | hlong | hne)
    · exact absurd hlo (by decide)
    · omega
    · exact hne hlength
  rw [takeReport, if_neg hgood, residualValues_eq hlength]

/-- A report that is taken leaves the lane's count cleared and its values applied in turn. -/
theorem exec_residual_report {f0 f1 f2 f3 count : Byte} {values : List Byte}
    (hready : (s.lane b).state = .ready) (hread : RevisionsRead s) (hlo : 1 ≤ count.toNat)
    (hhi : count.toNat ≤ 8) (hlength : values.length = count.toNat) :
    exec (.residual b ([f0, f1, f2, f3, count] ++ values)) s
      = .next ((reportedFrom (f3 ++ f2 ++ f1 ++ f0) values).foldl (takeResidual b) (goodFrame b s)) := by
  rw [exec_residual_of_ready hready, takeReport_of_wellFormed hlo hhi hlength]
  exact congrArg _ (readRevisions_of_streams hread
    (Learns.foldl (takeResidual_learns b) _ (goodFrame b s)).streams)

theorem exec_residual_single {f0 f1 f2 f3 : Byte} (v : Byte) (hready : (s.lane b).state = .ready)
    (hread : RevisionsRead s) : exec (.residual b [f0, f1, f2, f3, 1, v]) s
      = .next (takeResidual b (goodFrame b s) (f3 ++ f2 ++ f1 ++ f0, v.toInt)) := by
  have hreport := exec_residual_report (f0 := f0) (f1 := f1) (f2 := f2) (f3 := f3) (count := 1)
    (values := [v]) hready hread (by decide) (by decide) rfl
  rwa [reportedFrom_cons] at hreport

end

/-- Settles O39: a report is malformed by its length or count, or its values fail the conditions one by
one. -/
theorem unusedResidualChangesNothing : Obligations.UnusedResidualChangesNothing := by
  intro s b f0 f1 f2 f3 count values m payload refused hready hread
  refine ⟨fun hbad hroom => ?_, fun short hshort hroom => ?_, fun hlo hhi hlength hunused => ?_⟩
  · exact exec_residual_malformed hready hread hroom (residualMalformed_iff.mpr hbad)
  · exact exec_residual_malformed hready hread hroom (residualMalformed_of_short hshort)
  · have hvalue : ∀ x ∈ reportedFrom m values, takeResidual b (goodFrame b s) x = goodFrame b s := by
      rintro x hx
      obtain ⟨i, v, hv, rfl⟩ := mem_reportedFrom.mp hx
      refine takeResidual_of_unused (Bool.eq_false_iff.mpr fun hused => ?_)
      obtain ⟨⟨hfrom, hto⟩, ⟨c, hc, hfirst, hlast⟩, hrate, hdeadband⟩ := usesResidual_iff.mp hused
      simp only [goodFrame, State.putLane_now, State.putLane_stream, State.putLane_setting]
        at hfrom hto hc hfirst hlast hrate hdeadband
      obtain h | h | h | h | h | ⟨d, hd, h⟩ := hunused i v hv
      · omega
      · omega
      · exact hrate h
      · omega
      · exact nomatch hc.symm.trans h
      · obtain rfl := Option.some.inj (hc.symm.trans hd)
        omega
    rw [exec_residual_report hready hread hlo hhi hlength]
    exact congrArg _ (List.foldlRecOn (motive := (· = goodFrame b s)) _ _ rfl
      fun u hu x hx => hu ▸ hvalue x hx)

end Sys2Proof.Machine
end

section
/-! PROOF. What a used value does to the accumulators, the working coefficients and COEFF_LIMIT (R136 to R140):
UsedResidualCounts. -/

namespace Sys2Proof.Machine

/-! ## One pair's entries -/

section
variable (s : State) (b src : Bay)

theorem putAcc_same : s.putAcc b src (s.accAt b src) = s := by
  rw [State.putAcc, State.accAt, Tab.upd_get, Tab.upd_get]
  rfl

theorem putWorking_same : s.putWorking b src (s.workingAt b src).c = s := by
  show s.setStore { s.store with
    working := s.store.working.upd b ((s.store.working.get b).upd src ((s.store.working.get b).get src)) } = s
  rw [Tab.upd_get, Tab.upd_get]
  rfl

theorem workingAt_putWorking (c d : Bay) (x : Int) : (s.putWorking c d x).workingAt b src
    = if c = b ∧ d = src then { s.workingAt b src with c := x } else s.workingAt b src := by
  show ((s.store.working.upd c
    ((s.store.working.get c).upd d { s.workingAt c d with c := x })).get b).get src = _
  rw [Tab.get_upd]
  by_cases hc : c = b
  · subst hc
    rw [if_pos rfl, Tab.get_upd]
    by_cases hd : d = src
    · subst hd
      simp
    · simp [hd, State.workingAt]
  · simp [hc, State.workingAt]

end

/-! ## The count of one pair (R138, R139, R140) -/

/-- What a count leaves of a pair: its accumulator and its working C, and whether a step was refused. -/
structure PairCount where
  acc : Int
  c : Int
  refused : Bool

/-- A pair whose accumulator has moved to `a`, at threshold `n` and working coefficient `c`. -/
def PairCount.moved (n : Nat) (a c : Int) : PairCount :=
  if a.natAbs < n then ⟨a, c, false⟩
  else if -128 ≤ c + a.sign ∧ c + a.sign ≤ 127 then ⟨0, c + a.sign, false⟩
  else ⟨0, c, true⟩

/-- What a used value `r` at sample `m` leaves of the pair `(b, src)`, at threshold `n`. -/
def State.pairCount (s : State) (n : Nat) (b : Bay) (m : Sample) (r : Int) (src : Bay) : PairCount :=
  if src = b ∨ s.sourceTorque b src m = 0 then ⟨s.accAt b src, (s.workingAt b src).c, false⟩
  else .moved n (s.accAt b src + r.sign * (s.sourceTorque b src m).sign) (s.workingAt b src).c

/-- A pair with what a count leaves of it, and COEFF_LIMIT where the step was refused. -/
def putCount (b src : Bay) (x : PairCount) (s : State) : State :=
  let u := (s.putAcc b src x.acc).putWorking b src x.c
  if x.refused then raiseCause .coeffLimit b u else u

section
variable (n : Nat) {a c : Int}

theorem PairCount.moved_below (h : a.natAbs < n) : PairCount.moved n a c = ⟨a, c, false⟩ := if_pos h

theorem PairCount.moved_step (h : n ≤ a.natAbs) (hlo : -128 ≤ c + a.sign) (hhi : c + a.sign ≤ 127) :
    PairCount.moved n a c = ⟨0, c + a.sign, false⟩ :=
  (if_neg (by omega)).trans (if_pos ⟨hlo, hhi⟩)

theorem PairCount.moved_refused (h : n ≤ a.natAbs) (hout : c + a.sign < -128 ∨ 127 < c + a.sign) :
    PairCount.moved n a c = ⟨0, c, true⟩ :=
  (if_neg (by omega)).trans (if_neg (by omega))

end

section
variable {s : State} {n : Nat} {b : Bay}

theorem stepWorking_eq (src : Bay) (dir : Int) : stepWorking b src dir s
    = putCount b src (if -128 ≤ (s.workingAt b src).c + dir ∧ (s.workingAt b src).c + dir ≤ 127
        then ⟨0, (s.workingAt b src).c + dir, false⟩ else ⟨0, (s.workingAt b src).c, true⟩) s := by
  have hkept : (s.putAcc b src 0).putWorking b src (s.workingAt b src).c = s.putAcc b src 0 :=
    putWorking_same (s.putAcc b src 0) b src
  unfold stepWorking
  dsimp only
  split
  · rfl
  · exact congrArg (raiseCause .coeffLimit b) hkept.symm

theorem moveAcc_eq (hn : (s.setting b).rate.threshold = some n) (hpos : 0 < n) (src : Bay) (v : Int) :
    moveAcc b src v s = putCount b src (.moved n (s.accAt b src + v) (s.workingAt b src).c) s := by
  unfold moveAcc
  simp only [hn]
  generalize s.accAt b src + v = a
  unfold PairCount.moved
  split
  · next hup =>
    rw [stepWorking_eq, Int.sign_eq_one_of_pos (a := a) (by omega),
      if_neg (c := a.natAbs < n) (by omega)]
  · split
    · next hdown =>
      rw [stepWorking_eq, Int.sign_eq_neg_one_of_neg (a := a) (by omega),
        if_neg (c := a.natAbs < n) (by omega)]
    · have hkept : (s.putAcc b src a).putWorking b src (s.workingAt b src).c = s.putAcc b src a :=
        putWorking_same (s.putAcc b src a) b src
      rw [if_pos (by omega)]
      exact hkept.symm

theorem countSource_eq (hn : (s.setting b).rate.threshold = some n) (hpos : 0 < n) (m : Sample) (r : Int)
    (src : Bay) : countSource b m r s src = putCount b src (s.pairCount n b m r src) s := by
  unfold countSource State.pairCount
  split
  · have hkept : (s.putAcc b src (s.accAt b src)).putWorking b src (s.workingAt b src).c = s := by
      rw [putAcc_same, putWorking_same]
    exact hkept.symm
  · exact moveAcc_eq hn hpos src _

end

/-! ## The counts of one value (R136, R138) -/

section
variable (s : State) (b c d src : Bay) (x : PairCount)

theorem putCount_accAt : (putCount b src x s).accAt c d
    = if b = c ∧ src = d then x.acc else s.accAt c d := by
  rw [← State.accAt_putAcc]
  unfold putCount
  split <;> rfl

theorem putCount_workingAt : (putCount b src x s).workingAt c d
    = if b = c ∧ src = d then { s.workingAt c d with c := x.c } else s.workingAt c d := by
  have hput := workingAt_putWorking (s.putAcc b src x.acc) c d b src x.c
  rw [State.putAcc_workingAt] at hput
  rw [← hput]
  unfold putCount
  split <;> rfl

theorem putCount_attention : (putCount b src x s).attention
    = if x.refused then (raiseCause .coeffLimit b s).attention else s.attention := by
  unfold putCount
  split <;> rfl

end

section
variable {s t : State} {b : Bay}

theorem raiseCause_coeffLimit_congr (h : t.attention = s.attention) :
    (raiseCause .coeffLimit b t).attention = (raiseCause .coeffLimit b s).attention := by
  rw [raiseCause_attention (by decide), raiseCause_attention (by decide), h]

/-- Raised again, COEFF_LIMIT is pending for the bay as before. -/
theorem raiseCause_coeffLimit_again (h : t.attention = (raiseCause .coeffLimit b s).attention) :
    (raiseCause .coeffLimit b t).attention = (raiseCause .coeffLimit b s).attention := by
  rw [raiseCause_coeffLimit_congr h, raiseCause_attention (by decide), raiseCause_attention (by decide)]
  have hset := Tab.upd_get (s.attention.sets.upd Cause.coeffLimit.bit
    (s.attention.sets.get Cause.coeffLimit.bit ||| BitVec.twoPow 16 b.val)) Cause.coeffLimit.bit
  rw [Tab.get_upd_self] at hset
  simp only [Tab.get_upd_self, BitVec.or_assoc, BitVec.or_self, hset]

end

/-- `t` has of each pair of row `b` with a source among `srcs` what the count of `r` at `m` leaves of it in
`s`, and COEFF_LIMIT where one of the steps was refused. -/
structure Counted (s : State) (n : Nat) (b : Bay) (m : Sample) (r : Int) (srcs : List Bay) (t : State) :
    Prop where
  learns : Learns s t
  accAt (c src : Bay) :
    t.accAt c src = if b = c ∧ src ∈ srcs then (s.pairCount n b m r src).acc else s.accAt c src
  workingAt (c src : Bay) : t.workingAt c src = if b = c ∧ src ∈ srcs then
    { s.workingAt c src with c := (s.pairCount n b m r src).c } else s.workingAt c src
  attention : t.attention = if ∃ src ∈ srcs, (s.pairCount n b m r src).refused = true then
    (raiseCause .coeffLimit b s).attention else s.attention

section
variable {s t : State} {n : Nat} {b : Bay} {m : Sample} {r : Int}

/-- The count of a source reads its own pair alone, so it is not moved by the counts of other sources. -/
theorem Counted.pairCount {srcs : List Bay} (h : Counted s n b m r srcs t) {src : Bay} (hsrc : src ∉ srcs) :
    t.pairCount n b m r src = s.pairCount n b m r src := by
  have hacc : t.accAt b src = s.accAt b src := (h.accAt b src).trans (if_neg fun hs => hsrc hs.2)
  have hworking : t.workingAt b src = s.workingAt b src :=
    (h.workingAt b src).trans (if_neg fun hs => hsrc hs.2)
  rw [State.pairCount, State.pairCount, h.learns.sourceTorque, hacc, hworking]

theorem counted_nil : Counted s n b m r [] s :=
  ⟨.refl s, by simp, by simp, by simp⟩

/-- One more source is counted. -/
theorem Counted.concat {srcs : List Bay} (hn : (s.setting b).rate.threshold = some n) (hpos : 0 < n)
    (h : Counted s n b m r srcs t) {src : Bay} (hsrc : src ∉ srcs) :
    Counted s n b m r (srcs ++ [src]) (countSource b m r t src) := by
  have hcount : countSource b m r t src = putCount b src (s.pairCount n b m r src) t := by
    rw [countSource_eq (by rwa [h.learns.setting]) hpos, h.pairCount hsrc]
  refine ⟨h.learns.trans (countSource_learns ..), fun c d => ?_, fun c d => ?_, ?_⟩
  · rw [hcount, putCount_accAt, h.accAt]
    obtain rfl | hd := eq_or_ne src d
    · simp [hsrc]
    · simp [hd, Ne.symm hd]
  · rw [hcount, putCount_workingAt, h.workingAt]
    obtain rfl | hd := eq_or_ne src d
    · simp [hsrc]
    · simp [hd, Ne.symm hd]
  · have hmore : (∃ d ∈ srcs ++ [src], (s.pairCount n b m r d).refused = true)
        ↔ (∃ d ∈ srcs, (s.pairCount n b m r d).refused = true) ∨ (s.pairCount n b m r src).refused = true := by
      simp [or_and_right, exists_or]
    have hattention := h.attention
    simp only [hcount, putCount_attention, hmore]
    by_cases hbefore : ∃ d ∈ srcs, (s.pairCount n b m r d).refused = true
    · rw [if_pos hbefore] at hattention
      rw [raiseCause_coeffLimit_again hattention, hattention, ite_self, if_pos (Or.inl hbefore)]
    · rw [if_neg hbefore] at hattention
      rw [raiseCause_coeffLimit_congr hattention, hattention]
      simp only [hbefore, false_or]

theorem foldl_countSource (hn : (s.setting b).rate.threshold = some n) (hpos : 0 < n) {srcs : List Bay}
    (hnodup : srcs.Nodup) : Counted s n b m r srcs (srcs.foldl (countSource b m r) s) := by
  induction srcs using List.reverseRecOn with
  | nil => exact counted_nil
  | append_singleton srcs src ih =>
    obtain ⟨hsrcs, -, hdisjoint⟩ := List.nodup_append.mp hnodup
    rw [List.foldl_append]
    exact (ih hsrcs).concat hn hpos fun hmem => hdisjoint src hmem src (by simp) rfl

/-- A used value is counted against every source. -/
theorem takeResidual_counted (hn : (s.setting b).rate.threshold = some n) (hpos : 0 < n)
    (hused : s.usesResidual b m r = true) : Counted s n b m r bays (takeResidual b s (m, r)) := by
  rw [takeResidual, if_pos hused]
  exact foldl_countSource hn hpos (List.nodup_finRange 16)

end

/-! ## COEFF_LIMIT among the causes (R140, R176) -/

section
variable (s : State) (b : Bay)

/-- A raised COEFF_LIMIT moves no other cause. -/
theorem raiseCause_coeffLimit_cause_ne {c : Cause} (h : c ≠ .coeffLimit) :
    (raiseCause .coeffLimit b s).attention.pending.getLsbD c.bit.val = s.attention.pending.getLsbD c.bit.val
      ∧ (raiseCause .coeffLimit b s).attention.sets.get c.bit = s.attention.sets.get c.bit := by
  have hbit : Cause.coeffLimit.bit ≠ c.bit := by cases c <;> simp_all [Cause.bit]
  refine ⟨by rw [raiseCause_pending, decide_eq_false (Ne.symm h), Bool.or_false], ?_⟩
  rw [raiseCause_attention (by decide)]
  exact Tab.get_upd_ne _ _ hbit

/-- A raised COEFF_LIMIT adds no other bay to its set. -/
theorem raiseCause_coeffLimit_bay_ne {c : Bay} (h : c ≠ b) :
    ((raiseCause .coeffLimit b s).attention.sets.get Cause.coeffLimit.bit).getLsbD c.val
      = (s.attention.sets.get Cause.coeffLimit.bit).getLsbD c.val := by
  rw [raiseCause_attention (by decide), Tab.get_upd_self, BitVec.getLsbD_or, BitVec.getLsbD_twoPow]
  simp [Fin.val_ne_of_ne (Ne.symm h)]

end

/-! ## The torque a count is held against (R36, R138) -/

section
variable {s : State} {b src : Bay} {m : Sample}

theorem toNat_of_recent (hlo : 1 ≤ (s.now - m).toInt) (hhi : (s.now - m).toInt ≤ 64) :
    1 ≤ (s.now - m).toNat ∧ (s.now - m).toNat ≤ 64 := by
  have := toInt_of_pos (x := s.now - m) (by omega)
  omega

/-- The source sample of a recent sample lies in the histories. -/
theorem sourceTorque_of_cell (hlo : 1 ≤ (s.now - m).toInt) (hhi : (s.now - m).toInt ≤ 64)
    (hd : (s.coeff b src).d ≤ 7) {T : Int}
    (hT : (s.history.get src).cells[(s.now - m).toNat + (s.coeff b src).d]? = some T) :
    s.sourceTorque b src m = T := by
  obtain ⟨hfrom, hto⟩ := toNat_of_recent hlo hhi
  obtain ⟨hlt, hcell⟩ := List.getElem?_eq_some_iff.mp hT
  rw [State.sourceTorque]
  generalize (s.coeff b src).d = d at *
  have hage : (s.now - (m - BitVec.ofNat 32 d)).toNat = (s.now - m).toNat + d := by
    have hback : s.now - (m - BitVec.ofNat 32 d) = (s.now - m) + BitVec.ofNat 32 d := by bv_omega
    rw [hback, BitVec.toNat_add, BitVec.toNat_ofNat]
    omega
  refine (torque_history (i := ⟨(s.now - m).toNat + d, by omega⟩)
    (Nat.le_add_right_of_le hfrom) ?_).trans hcell
  have hsmall : 2 * (s.now - (m - BitVec.ofNat 32 d)).toNat < 2 ^ 32 := by
    rw [hage]
    omega
  rw [BitVec.toInt_eq_toNat_of_lt hsmall, hage]

theorem exists_cell {k : Nat} (h : k < 72) : ∃ T, (s.history.get src).cells[k]? = some T :=
  ⟨_, List.getElem?_eq_getElem ((s.history.get src).size.symm ▸ h)⟩

end

/-! ## The four outcomes of a count (R138, R139, R140) -/

section
variable {s : State} {n : Nat} {b src : Bay} {m : Sample} {r : Int}

theorem pairCount_of_uncounted (h : src = b ∨ s.sourceTorque b src m = 0) :
    s.pairCount n b m r src = ⟨s.accAt b src, (s.workingAt b src).c, false⟩ := if_pos h

theorem pairCount_of_counted (hne : src ≠ b) (h : s.sourceTorque b src m ≠ 0) : s.pairCount n b m r src
    = .moved n (s.accAt b src + r.sign * (s.sourceTorque b src m).sign) (s.workingAt b src).c :=
  if_neg (not_or.mpr ⟨hne, h⟩)

/-- A count moves by one at most, so it does not pass a threshold (R137). -/
theorem natAbs_count_le (hs : AccumulatorsLawful s) (hn : (s.setting b).rate.threshold = some n) (T : Int) :
    (s.accAt b src + r.sign * T.sign).natAbs ≤ n := by
  have hrange := (hs b src).1
  rw [hn] at hrange
  have hstep : (r * T).sign = -1 ∨ (r * T).sign = 0 ∨ (r * T).sign = 1 := by
    obtain h | h | h := lt_trichotomy (r * T) 0
    · exact .inl (Int.sign_eq_neg_one_of_neg h)
    · exact .inr (.inl (by rw [h]; rfl))
    · exact .inr (.inr (Int.sign_eq_one_of_pos h))
  rw [← Int.sign_mul]
  omega

/-- No step is refused that stays in the range. -/
theorem pairCount_not_refused (hs : AccumulatorsLawful s) (hn : (s.setting b).rate.threshold = some n)
    (h : src ≠ b → s.sourceTorque b src m ≠ 0 →
      let a := s.accAt b src + r.sign * (s.sourceTorque b src m).sign
      a.natAbs = n → -128 ≤ (s.workingAt b src).c + a.sign ∧ (s.workingAt b src).c + a.sign ≤ 127) :
    (s.pairCount n b m r src).refused = false := by
  by_cases hcounted : src = b ∨ s.sourceTorque b src m = 0
  · rw [pairCount_of_uncounted hcounted]
  · obtain ⟨hne, hT⟩ := not_or.mp hcounted
    rw [pairCount_of_counted hne hT]
    obtain hlt | heq := (natAbs_count_le (src := src) (r := r) hs hn (s.sourceTorque b src m)).lt_or_eq
    · rw [PairCount.moved_below n hlt]
    · obtain ⟨hlo, hhi⟩ := h hne hT heq
      rw [PairCount.moved_step n heq.ge hlo hhi]

end

/-! ## The causes after a used value (R140) -/

section
variable {s t : State} {n : Nat} {b : Bay} {m : Sample} {r : Int} (h : Counted s n b m r bays t)
include h

theorem Counted.attention_cases :
    t.attention = s.attention ∨ t.attention = (raiseCause .coeffLimit b s).attention := by
  rw [h.attention]
  split
  · exact .inr rfl
  · exact .inl rfl

theorem Counted.attention_of_none (hnone : ∀ src, (s.pairCount n b m r src).refused = false) :
    t.attention = s.attention := by
  rw [h.attention, if_neg]
  rintro ⟨src, -, hrefused⟩
  exact absurd hrefused (by simp [hnone src])

theorem Counted.attention_of_refused {src : Bay} (hrefused : (s.pairCount n b m r src).refused = true) :
    t.attention = (raiseCause .coeffLimit b s).attention := by
  rw [h.attention, if_pos ⟨src, mem_bays src, hrefused⟩]

theorem Counted.mask_route :
    t.attention.mask = s.attention.mask ∧ t.attention.route = s.attention.route := by
  obtain hsame | hraised := h.attention_cases
  · rw [hsame]
    exact ⟨rfl, rfl⟩
  · rw [hraised]
    exact ⟨rfl, rfl⟩

theorem Counted.cause_ne {c : Cause} (hc : c ≠ .coeffLimit) :
    t.attention.pending.getLsbD c.bit.val = s.attention.pending.getLsbD c.bit.val
      ∧ t.attention.sets.get c.bit = s.attention.sets.get c.bit := by
  obtain hsame | hraised := h.attention_cases
  · rw [hsame]
    exact ⟨rfl, rfl⟩
  · rw [hraised]
    exact raiseCause_coeffLimit_cause_ne s b hc

theorem Counted.bay_ne {c : Bay} (hc : c ≠ b) :
    (t.attention.sets.get Cause.coeffLimit.bit).getLsbD c.val
      = (s.attention.sets.get Cause.coeffLimit.bit).getLsbD c.val := by
  obtain hsame | hraised := h.attention_cases
  · rw [hsame]
  · rw [hraised]
    exact raiseCause_coeffLimit_bay_ne s b hc

/-! ## The pairs after a used value (R137, R138) -/

theorem Counted.row_ne {c : Bay} (hc : c ≠ b) (src : Bay) :
    t.accAt c src = s.accAt c src ∧ t.workingAt c src = s.workingAt c src :=
  ⟨(h.accAt c src).trans (if_neg fun hb => hc hb.1.symm),
    (h.workingAt c src).trans (if_neg fun hb => hc hb.1.symm)⟩

theorem Counted.pair {src : Bay} {x : PairCount} (hx : s.pairCount n b m r src = x) :
    t.accAt b src = x.acc ∧ t.workingAt b src = { s.workingAt b src with c := x.c } := by
  rw [h.accAt, h.workingAt, if_pos ⟨rfl, mem_bays src⟩, if_pos ⟨rfl, mem_bays src⟩, hx]
  exact ⟨rfl, rfl⟩

theorem Counted.pair_of_uncounted {src : Bay} (hsrc : src = b ∨ s.sourceTorque b src m = 0) :
    t.accAt b src = s.accAt b src ∧ t.workingAt b src = s.workingAt b src :=
  h.pair (pairCount_of_uncounted hsrc)

end

/-! ## A report of several values (R134, R136) -/

theorem extractLsb'_bytes (x : Sample) :
    x.extractLsb' 24 8 ++ x.extractLsb' 16 8 ++ x.extractLsb' 8 8 ++ x.extractLsb' 0 8 = x := by
  rw [← leNat_four, ← leBytes_four_toNat]
  refine BitVec.eq_of_toNat_eq ?_
  have := x.isLt
  simp only [leBytes, leNat, BitVec.toNat_ofNat]
  omega

/-- The second part of UsedResidualCounts: a report of several values is its first, then the others. -/
theorem residual_cons (s : State) (b : Bay) (f0 f1 f2 f3 v : Byte) (rest : List Byte) :
    let m : Sample := f3 ++ f2 ++ f1 ++ f0
    (s.lane b).state = .ready → RevisionsRead s → 1 ≤ rest.length → rest.length ≤ 7 →
    ∃ t, exec (.residual b [f0, f1, f2, f3, 1, v]) s = .next t
      ∧ exec (.residual b ([f0, f1, f2, f3, BitVec.ofNat 8 (rest.length + 1), v] ++ rest)) s
        = exec (.residual b ([(m + 1).extractLsb' 0 8, (m + 1).extractLsb' 8 8,
            (m + 1).extractLsb' 16 8, (m + 1).extractLsb' 24 8, BitVec.ofNat 8 rest.length] ++ rest)) t := by
  intro m hready hread hlo hhi
  have hcount (k : Nat) (hk : k ≤ 8) : (BitVec.ofNat 8 k).toNat = k := by
    rw [BitVec.toNat_ofNat]
    omega
  have hlearns := takeResidual_learns b (goodFrame b s) (m, v.toInt)
  generalize hfirst : takeResidual b (goodFrame b s) (m, v.toInt) = t at hlearns
  have hlane : t.lane b = { s.lane b with bad := 0 } :=
    (hlearns.lane b).trans (State.lane_putLane_self ..)
  have hgood : goodFrame b t = t := by
    have hcleared : { t.lane b with bad := 0 } = t.lane b := by rw [hlane]
    rw [goodFrame, hcleared, putLane_same]
  have hreadt : RevisionsRead t := fun c => by
    rw [State.stream, hlearns.streams]
    exact hread c
  have hwhole := exec_residual_report (s := s) (b := b) (f0 := f0) (f1 := f1) (f2 := f2) (f3 := f3)
    (values := v :: rest) hready hread (by rw [hcount _ (by omega)]; omega)
    (by rw [hcount _ (by omega)]; omega) (hcount (rest.length + 1) (by omega)).symm
  have hothers := exec_residual_report (s := t) (b := b) (f0 := (m + 1).extractLsb' 0 8)
    (f1 := (m + 1).extractLsb' 8 8) (f2 := (m + 1).extractLsb' 16 8) (f3 := (m + 1).extractLsb' 24 8)
    (values := rest) (by rw [hlane]; exact hready) hreadt (by rwa [hcount _ (by omega)])
    (by rw [hcount _ (by omega)]; omega) (hcount rest.length (by omega)).symm
  rw [reportedFrom_cons, List.foldl_cons, hfirst] at hwhole
  rw [extractLsb'_bytes, hgood] at hothers
  exact ⟨t, (exec_residual_single v hready hread).trans (congrArg _ hfirst), hwhole.trans hothers.symm⟩

/-! ## The obligation -/

theorem toInt_sub_nonpos {x y : Sample} (h : 0 ≤ (x - y).toInt) : (y - x).toInt ≤ 0 := by
  have hback : y - x = -(x - y) := by bv_omega
  rw [hback]
  generalize x - y = d at *
  have hneg := BitVec.toNat_neg d
  rw [BitVec.toInt_eq_toNat_cond] at *
  have := d.isLt
  split at h <;> split <;> omega

theorem AdaptRate.threshold_eq {x : AdaptRate} (h : x ≠ .off) :
    x.threshold = some (if x = .slow then 512 else if x = .medium then 128 else 32) := by
  cases x with
  | off => exact absurd rfl h
  | slow | medium | fast => rfl

/-- Settles O38: one used value by the count of each pair, a longer report by its values in turn. -/
theorem usedResidualCounts : Obligations.UsedResidualCounts := by
  refine ⟨?used, residual_cons⟩
  case used =>
    intro s b f0 f1 f2 f3 v cov n m hready hread ⟨hactive, _, _⟩ haccs hlo hhi hcov hfirst hlast hrate
      hdeadband hn
    have hthreshold : (s.setting b).rate.threshold = some n := hn ▸ AdaptRate.threshold_eq hrate
    have hpos : 0 < n := by
      rw [hn]
      split_ifs <;> decide
    have hdelay (src : Bay) : (s.coeff b src).d ≤ 7 := by
      obtain ⟨-, -, hd⟩ := (hactive b src).1
      exact hd
    have htorque {src : Bay} {T : Int}
        (hT : (s.history.get src).cells[(s.now - m).toNat + (s.coeff b src).d]? = some T) :
        (goodFrame b s).sourceTorque b src m = T :=
      sourceTorque_of_cell (s := goodFrame b s) hlo hhi (hdelay src) hT
    have hused : (goodFrame b s).usesResidual b m v.toInt = true :=
      usesResidual_iff.mpr ⟨⟨hlo, hhi⟩, ⟨cov, hcov, toInt_sub_nonpos hfirst, toInt_sub_nonpos hlast⟩,
        hrate, hdeadband⟩
    have hcounts := takeResidual_counted (s := goodFrame b s) hthreshold hpos hused
    refine ⟨_, exec_residual_single v hready hread, hcounts.learns, fun c src hc => hcounts.row_ne hc src,
      hcounts.pair_of_uncounted (.inl rfl), hcounts.mask_route, fun c hc => hcounts.cause_ne hc,
      fun c hc => hcounts.bay_ne hc,
      ?inside, ?pairs⟩
    case inside =>
      refine fun hinside => hcounts.attention_of_none fun src =>
        pairCount_not_refused (s := goodFrame b s) haccs hthreshold fun hne hnonzero => ?_
      have hage : (s.now - m).toNat + (s.coeff b src).d < 72 := by
        obtain ⟨-, hto⟩ := toNat_of_recent hlo hhi
        have := hdelay src
        omega
      obtain ⟨T, hT⟩ := exists_cell (s := s) (src := src) hage
      rw [htorque hT] at hnonzero ⊢
      exact hinside src T hne hT hnonzero
    case pairs =>
      intro src T hne hT a up
      have hcounted (hnonzero : T ≠ 0) : (goodFrame b s).pairCount n b m v.toInt src
          = .moved n a (s.workingAt b src).c := by
        rw [pairCount_of_counted hne (by rwa [htorque hT]), htorque hT]
        rfl
      refine ⟨fun hzero => hcounts.pair_of_uncounted (.inr ((htorque hT).trans hzero)),
        fun hnonzero hlt => ?below, fun hnonzero heq hup hdown => ?step, fun hnonzero heq hout => ?refused⟩
      case below => exact hcounts.pair ((hcounted hnonzero).trans (PairCount.moved_below n hlt))
      case step => exact hcounts.pair ((hcounted hnonzero).trans (PairCount.moved_step n heq.ge hup hdown))
      case refused =>
        have hmoved := (hcounted hnonzero).trans (PairCount.moved_refused n heq.ge hout)
        obtain ⟨hacc, hworking⟩ := hcounts.pair hmoved
        refine ⟨hacc, hworking, ?_⟩
        rw [hcounts.attention_of_refused (src := src) (by rw [hmoved])]
        exact raiseCause_raised (c := .coeffLimit) (by decide) b _

end Sys2Proof.Machine
end

section
/-! PROOF. The transmitter, the bytes of the frames the part sends, presence rising and the judging of a
received frame: TransmitTakesTheHead, PresenceRiseDetects and FramesAreJudgedInOrder. -/

namespace Sys2Proof.Machine

/-! ## The frames the part sends (R148, R149, R150) -/

theorem sampleBytes_eq (m : Sample) : sampleBytes m
    = [m.extractLsb' 0 8, m.extractLsb' 8 8, m.extractLsb' 16 8, m.extractLsb' 24 8] :=
  leBytes_four_toNat m

theorem grant_flags (o d a : Bool) : bitAt 0 o ||| bitAt 1 d ||| bitAt 2 a
    = (if o then 1 else 0) + (if d then 2 else 0) + (if a then 4 else 0) := by
  cases o <;> cases d <;> cases a <;> rfl

/-- Settles O25: the head of the queue by the queue's shape, the payload of a frame by its kind. -/
theorem transmitTakesTheHead : Obligations.TransmitTakesTheHead := by
  refine ⟨fun s b => ⟨fun hempty => ?_, fun f rest hqueue => ?_⟩,
    fun f => ⟨f.kind, f.payload, rfl, ?layout⟩, by decide +kernel⟩
  · show Host.Outcome.next (transmitHead b s) = _
    rw [transmitHead, hempty]
  · show Host.Outcome.next (transmitHead b s) = _
    rw [transmitHead, hqueue]
  case layout =>
    cases f with
    | welcome b d m n lead =>
      refine ⟨rfl, ?_⟩
      rw [Frame.payload, leBytes_two, sampleBytes_eq]
    | grant tag l span o d a =>
      refine ⟨rfl, ?_⟩
      rw [Frame.payload, sampleBytes_eq, grant_flags]
      rfl
    | refuse tag why refused => cases tag <;> cases why <;> exact ⟨rfl, rfl⟩
    | confirm tag l => exact ⟨rfl, congrArg _ (sampleBytes_eq l)⟩
    | expire tag l => exact ⟨rfl, congrArg _ (sampleBytes_eq l)⟩
    | tardy tag => exact ⟨rfl, rfl⟩
    | correct m values => exact ⟨rfl, congrArg (· ++ values.map signedByte) (sampleBytes_eq m)⟩
    | revise m values => exact ⟨rfl, congrArg (· ++ values.map signedByte) (sampleBytes_eq m)⟩
    | halt last =>
      cases last with
      | none => exact ⟨rfl, rfl⟩
      | some m => exact ⟨rfl, congrArg _ (sampleBytes_eq m)⟩
    | mark m => exact ⟨rfl, sampleBytes_eq m⟩

/-! ## Presence rising (R151, R159) -/

section
variable {s : State} {b : Bay}

theorem exec_presenceRise_of_present (h : s.pins.present.get b = true) :
    exec (.presenceRise b) s = .next s :=
  congrArg _ (if_pos h)

theorem exec_presenceRise_of_held (h : s.pins.present.get b = false) (hheld : s.pins.resetHeld = true) :
    exec (.presenceRise b) s = .next (setPresence b true s) := by
  show Host.Outcome.next (if _ then _ else if _ then _ else _) = _
  rw [if_neg (by simp [h]), if_pos hheld]

theorem exec_presenceRise_of_empty (h : s.pins.present.get b = false) (hheld : s.pins.resetHeld = false) :
    exec (.presenceRise b) s = .next (detectDrive b (setPresence b true s)) := by
  show Host.Outcome.next (if _ then _ else if _ then _ else _) = _
  rw [if_neg (by simp [h]), if_neg (by simp [hheld])]

theorem detectDrive_of_absent (h : (s.lane b).state = .absent) : detectDrive b s
    = (s.putLane b (movedLane (s.lane b) .detected)).setAttention
        { s.attention with
          pending := s.attention.pending ||| BitVec.twoPow 8 Cause.arrive.bit.val
          sets := s.attention.sets.upd Cause.arrive.bit
            (s.attention.sets.get Cause.arrive.bit ||| BitVec.twoPow 16 b.val) } := by
  rw [detectDrive, if_pos h, raiseCause_eq, raiseCause_attention (by decide)]
  rfl

end

/-- Settles O26, by the line's level and the reset. -/
theorem presenceRiseDetects : Obligations.PresenceRiseDetects := by
  intro s b seated
  refine ⟨exec_presenceRise_of_present, exec_presenceRise_of_held, fun h hheld habsent => ?_⟩
  have habsent' : ((setPresence b true s).lane b).state = .absent := habsent
  rw [exec_presenceRise_of_empty h hheld, detectDrive_of_absent habsent']
  rfl

/-! ## The judging of a received frame (R151, R152, R154) -/

section
variable {s : State} {b : Bay} {kind : Byte} {payload : List Byte} {len : Option Nat} {take : State → State}

theorem receiveFrame_of_absent (h : (s.lane b).state = .absent) :
    receiveFrame b kind len payload take s = s :=
  if_pos h

theorem receiveFrame_of_wrongLength {n : Nat} (h : (s.lane b).state ≠ .absent)
    (hlen : payload.length ≠ n) : receiveFrame b kind (some n) payload take s
      = refuse b none .malformed kind (goodFrame b s) := by
  rw [receiveFrame, if_neg h, if_pos (by simpa using hlen)]

theorem receiveFrame_of_notReady (h : (s.lane b).state ≠ .absent) (hready : (s.lane b).state ≠ .ready)
    (hlen : len.all (payload.length = ·)) : receiveFrame b kind len payload take s
      = refuse b none .notReady kind (goodFrame b s) := by
  have hfits : ¬(len.any fun n => payload.length != n) = true := by
    cases len <;> simp_all
  rw [receiveFrame, if_neg h, if_neg hfits, if_neg (mt isReady_iff.mp hready)]

theorem exec_hello_of_present (h : (s.lane b).state ≠ .absent) :
    exec (.hello b payload) s = .next (readRevisions (takeHello b payload (goodFrame b s))) :=
  congrArg _ (if_neg h)

/-- A HELLO of a wrong length or of another protocol level is refused (R152, R154). -/
theorem takeHello_malformed (h : payload.length ≠ 7 ∨ payload.head? ≠ some 0x01#8) :
    takeHello b payload s = refuse b none .malformed kindHello s := by
  refine if_pos (h.imp_right fun hlevel hbyte => ?_)
  cases payload with
  | nil => exact absurd hbyte (by decide)
  | cons x rest => exact hlevel (congrArg some hbyte)

/-- A refusal with room answers a good frame and leaves no revision to read (R109, R152, R158). -/
theorem readRevisions_refuse_goodFrame (hroom : s.hasRoom b 1) (hread : RevisionsRead s) (why : Reason)
    (k : Byte) : readRevisions (refuse b none why k (goodFrame b s))
      = s.putLane b { s.lane b with
          bad := 0, queue := (s.lane b).queue ++ [.refuse none why k] } := by
  rw [refuse, sendFrame, handThen_goodFrame hroom]
  exact readRevisions_of_streams (s := s) hread rfl

end

/-- An ABSENT lane takes no frame (R151). -/
theorem exec_frame_of_absent {s : State} {b : Bay} {kind : Byte} {payload : List Byte}
    (h : (s.lane b).state = .absent) (hread : RevisionsRead s) :
    ∀ c ∈ [Instr.unknownFrame b kind payload, .hello b payload, .notice b payload,
      .commit b payload, .abort b payload, .residual b payload], exec c s = .next s := by
  have hframe (k : Byte) (len : Option Nat) (take : State → State) :
      Host.Outcome.next (φ := Fault) (ρ := Refusal)
        (readRevisions (receiveFrame b k len payload take s)) = .next s := by
    rw [receiveFrame_of_absent h, readRevisions_of_read hread]
  simp only [List.forall_mem_cons]
  exact ⟨congrArg _ (if_pos h), congrArg _ (if_pos h), hframe .., hframe .., hframe .., hframe ..,
    List.forall_mem_nil _⟩

/-- Settles O29: each refusal is of a good frame, and the judgement is of the lane's state, the length and
READY in turn. -/
theorem framesAreJudgedInOrder : Obligations.FramesAreJudgedInOrder := by
  refine fun s b kind payload => ⟨exec_frame_of_absent, fun hpresent hroom hread => ?_⟩
  intro refused
  have hrefused (why : Reason) (k : Byte) {u : State} (hu : u = refuse b none why k (goodFrame b s)) :
      Host.Outcome.next (φ := Fault) (ρ := Refusal) (readRevisions u)
        = .next (refused why k) := by
    rw [hu, readRevisions_refuse_goodFrame hroom hread]
  have hhello (h : payload.length ≠ 7 ∨ payload.head? ≠ some 0x01#8) :
      exec (.hello b payload) s = .next (refused .malformed 0x01#8) :=
    (exec_hello_of_present hpresent).trans (hrefused _ _ (takeHello_malformed h))
  refine ⟨(exec_unknownFrame_of_present hpresent kind payload).trans (hrefused _ _ rfl),
    fun h => hhello (.inl h), fun h => hhello (.inr h),
    fun h => hrefused _ _ (receiveFrame_of_wrongLength hpresent h),
    fun h => hrefused _ _ (receiveFrame_of_wrongLength hpresent h), fun hready => ?_⟩
  exact ⟨hrefused _ _ (receiveFrame_of_notReady hpresent hready rfl),
    fun h => hrefused _ _ (receiveFrame_of_notReady hpresent hready (by simpa using h)),
    fun h => hrefused _ _ (receiveFrame_of_notReady hpresent hready (by simpa using h)),
    hrefused _ _ (receiveFrame_of_notReady hpresent hready rfl)⟩

end Sys2Proof.Machine
end

section
/-! PROOF. What the bytes of lane frames and of requests spell (R148, R149, R150, R164, R166): the check as its
register, a frame or request framed with its check, with another, and cut short. -/

namespace Sys2Proof.Machine

/-! ## The check (R148) -/

theorem crcStep_eq (r : Byte) : crcStep r = if r.getLsbD 7 then (r <<< 1) ^^^ 0x07#8 else r <<< 1 := by
  rw [crcStep, BitVec.msb_eq_getLsbD_last]

theorem foldl_crcStep {α : Type} (l : List α) (r : Byte) :
    l.foldl (fun r _ => if r.getLsbD 7 then (r <<< 1) ^^^ 0x07#8 else r <<< 1) r = crcSteps l.length r := by
  induction l generalizing r with
  | nil => rfl
  | cons a l ih => rw [List.foldl_cons, ih, ← crcStep_eq, List.length_cons, crcSteps]

/-- A further byte takes the register eight steps on. -/
theorem crc8_concat (bytes : List Byte) (x : Byte) : crc8 (bytes ++ [x]) = crcSteps 8 (crc8 bytes ^^^ x) := by
  rw [crc8, List.foldl_concat]
  rfl

/-! ## A frame that is not at its end (R148) -/

/-- The bytes of a frame with no length byte above 40 and no check byte yet. -/
def Unfinished : List Byte → Prop
  | _ :: len :: rest => len.toNat ≤ 40 ∧ rest.length ≤ len.toNat
  | _ => True

section
variable {bytes : List Byte}

theorem Unfinished.of_append {rest : List Byte} (h : Unfinished (bytes ++ rest)) : Unfinished bytes := by
  match bytes, h with
  | [], _ => trivial
  | [_], _ => trivial
  | _ :: len :: more, ⟨hlen, (hrest : (more ++ rest).length ≤ _)⟩ =>
    have hmore : (more ++ rest).length = more.length + rest.length := List.length_append
    exact ⟨hlen, by omega⟩

theorem Unfinished.laneFrame_cutShort (h : Unfinished bytes) (b : Bay) :
    laneFrameCommand b bytes = .badFrame b .cutShort := by
  match bytes, h with
  | [], _ => rfl
  | [_], _ => rfl
  | _ :: len :: rest, ⟨hlen, hrest⟩ => rw [laneFrameCommand, if_neg (by omega), if_pos hrest]

theorem Unfinished.request_none (h : Unfinished bytes) : requestCommand bytes = none := by
  match bytes, h with
  | [], _ => rfl
  | [_], _ => rfl
  | _ :: len :: rest, ⟨hlen, hrest⟩ => rw [requestCommand, if_neg (by omega), if_pos hrest]

theorem Unfinished.not_overlong (h : Unfinished bytes) : frameOverlong bytes = false := by
  match bytes, h with
  | [], _ => rfl
  | [_], _ => rfl
  | _ :: len :: rest, ⟨hlen, _⟩ => exact decide_eq_false (by omega)

theorem Unfinished.not_whole (h : Unfinished bytes) : frameWhole bytes = false := by
  match bytes, h with
  | [], _ => rfl
  | [_], _ => rfl
  | _ :: len :: rest, ⟨_, hrest⟩ => exact decide_eq_false (by omega)

end

/-! ## A frame with its check byte (R148) -/

/-- Kind, length and payload of a frame: the bytes that its check is taken over. -/
def frameBody (kind : Byte) (payload : List Byte) : List Byte :=
  kind :: BitVec.ofNat 8 payload.length :: payload

theorem framed_eq (kind : Byte) (payload : List Byte) :
    framed kind payload = frameBody kind payload ++ [crc8 (frameBody kind payload)] :=
  rfl

theorem byteAt_concat (payload : List Byte) (check : Byte) :
    byteAt (payload ++ [check]) payload.length = check := by
  simp [byteAt]

section
variable {payload : List Byte} (hfits : payload.length ≤ 40) (kind check : Byte)
include hfits

theorem toNat_lengthByte : (BitVec.ofNat 8 payload.length).toNat = payload.length := by
  rw [BitVec.toNat_ofNat]
  exact Nat.mod_eq_of_lt (by omega)

theorem unfinished_frameBody : Unfinished (frameBody kind payload) := by
  rw [frameBody, Unfinished, toNat_lengthByte hfits]
  exact ⟨hfits, le_rfl⟩

/-- A frame cut anywhere is not at its end. -/
theorem unfinished_take_framed {n : Nat} (hn : n < (framed kind payload).length) :
    Unfinished ((framed kind payload).take n) := by
  rw [framed_eq, List.length_append, List.length_singleton] at hn
  rw [framed_eq, List.take_append_of_le_length (by omega)]
  have hbody := unfinished_frameBody hfits kind
  rw [← List.take_append_drop n (frameBody kind payload)] at hbody
  exact hbody.of_append

theorem frameWhole_frameBody_concat : frameWhole (frameBody kind payload ++ [check]) = true := by
  refine decide_eq_true ?_
  rw [toNat_lengthByte hfits]
  exact List.length_append

theorem frameOverlong_frameBody_concat : frameOverlong (frameBody kind payload ++ [check]) = false :=
  decide_eq_false (by rw [toNat_lengthByte hfits]; omega)

theorem laneFrameCommand_frameBody_concat (b : Bay) : laneFrameCommand b (frameBody kind payload ++ [check])
    = if crc8 (frameBody kind payload) = check then goodFrameCommand b kind payload
      else .badFrame b .checkMismatch := by
  have hlength := toNat_lengthByte hfits
  show laneFrameCommand b (kind :: BitVec.ofNat 8 payload.length :: (payload ++ [check])) = _
  rw [laneFrameCommand, hlength, if_neg (by omega), if_neg (by simp)]
  rw [List.take_left, byteAt_concat]
  rfl

theorem requestCommand_frameBody_concat : requestCommand (frameBody kind payload ++ [check])
    = some (if crc8 (frameBody kind payload) = check then checkedRequest kind payload
      else .badRequest .checkMismatch) := by
  have hlength := toNat_lengthByte hfits
  show requestCommand (kind :: BitVec.ofNat 8 payload.length :: (payload ++ [check])) = _
  rw [requestCommand, hlength, if_neg (by omega), if_neg (by simp), apply_ite some]
  rw [List.take_left, byteAt_concat]
  rfl

theorem laneFrameCommand_framed (b : Bay) :
    laneFrameCommand b (framed kind payload) = goodFrameCommand b kind payload := by
  rw [framed_eq, laneFrameCommand_frameBody_concat hfits, if_pos rfl]

theorem requestCommand_framed :
    requestCommand (framed kind payload) = some (checkedRequest kind payload) := by
  rw [framed_eq, requestCommand_frameBody_concat hfits, if_pos rfl]

end

/-- A kind that is none of the drive's five is unknown (R150, R152). -/
theorem goodFrameCommand_unknown {kind : Byte} (h : kind = 0 ∨ 5 < kind.toNat) (b : Bay)
    (payload : List Byte) : goodFrameCommand b kind payload = .unknownFrame b kind payload := by
  have hne {k : Byte} (hk : 1 ≤ k.toNat ∧ k.toNat ≤ 5) : kind ≠ k := by
    rintro rfl
    obtain rfl | h := h
    · exact absurd hk (by decide)
    · omega
  rw [goodFrameCommand, if_neg (hne (by decide)), if_neg (hne (by decide)), if_neg (hne (by decide)),
    if_neg (hne (by decide)), if_neg (hne (by decide))]

/-! ## The kind, the length and the bay of a request (R164, R166) -/

theorem requestKindOf_code (k : RequestKind) : requestKindOf k.code = some k := by
  cases k <;> rfl

theorem code_range (k : RequestKind) : 0x20 ≤ k.code.toNat ∧ k.code.toNat ≤ 0x2F := by
  cases k <;> decide

theorem payloadLength_le (k : RequestKind) : k.payloadLength ≤ 40 := by
  cases k <;> decide

theorem requestKindOf_unlisted {kind : Byte} (h : kind.toNat < 0x20 ∨ 0x2F < kind.toNat) :
    requestKindOf kind = none := by
  refine List.find?_eq_none.mpr fun k _ hcode => ?_
  have hrange := code_range k
  rw [eq_of_beq hcode] at hrange
  omega

theorem bayOf_ofNat (b : Bay) : bayOf (BitVec.ofNat 8 b.val) = some b := by
  have hbay : (BitVec.ofNat 8 b.val).toNat = b.val := by
    rw [BitVec.toNat_ofNat]
    omega
  simp [bayOf, hbay]

theorem bayOf_eq_none {x : Byte} (h : 16 ≤ x.toNat) : bayOf x = none :=
  dif_neg (by omega)

section
variable {k : RequestKind} {payload : List Byte}

theorem checkedRequest_code : checkedRequest k.code payload
    = if payload.length = k.payloadLength then
        if k.namesBay then
          (bayOf (byteAt payload 0)).elim (.badRequest (.badBay k)) (requestFor k · payload)
        else requestFor k 0 payload
      else .badRequest (.wrongLength k) := by
  rw [checkedRequest, requestKindOf_code]
  cases bayOf (byteAt payload 0) <;> rfl

theorem byteAt_of_head? {x : Byte} (h : payload.head? = some x) : byteAt payload 0 = x := by
  cases payload with
  | nil => exact nomatch h
  | cons y rest => exact Option.some.inj h

theorem requestCommand_bay (hlength : payload.length = k.payloadLength) (hbay : k.namesBay = true) {b : Bay}
    (hhead : payload.head? = some (BitVec.ofNat 8 b.val)) :
    requestCommand (framed k.code payload) = some (requestFor k b payload) := by
  rw [requestCommand_framed (hlength.trans_le (payloadLength_le k)), checkedRequest_code, if_pos hlength,
    if_pos hbay, byteAt_of_head? hhead, bayOf_ofNat]
  rfl

theorem requestCommand_badBay (hlength : payload.length = k.payloadLength) (hbay : k.namesBay = true)
    {x : Byte} (hhead : payload.head? = some x) (hx : 16 ≤ x.toNat) :
    requestCommand (framed k.code payload) = some (.badRequest (.badBay k)) := by
  rw [requestCommand_framed (hlength.trans_le (payloadLength_le k)), checkedRequest_code, if_pos hlength,
    if_pos hbay, byteAt_of_head? hhead, bayOf_eq_none hx]
  rfl

theorem requestCommand_noBay (hlength : payload.length = k.payloadLength) (hbay : k.namesBay = false) :
    requestCommand (framed k.code payload) = some (requestFor k 0 payload) := by
  rw [requestCommand_framed (hlength.trans_le (payloadLength_le k)), checkedRequest_code, if_pos hlength,
    if_neg (by simp [hbay])]

theorem requestCommand_wrongLength (hfits : payload.length ≤ 40)
    (hlength : payload.length ≠ k.payloadLength) :
    requestCommand (framed k.code payload) = some (.badRequest (.wrongLength k)) := by
  rw [requestCommand_framed hfits, checkedRequest_code, if_neg hlength]

theorem requestCommand_unknownKind (hfits : payload.length ≤ 40) {kind : Byte}
    (h : kind.toNat < 0x20 ∨ 0x2F < kind.toNat) :
    requestCommand (framed kind payload) = some (.badRequest .unknownKind) := by
  rw [requestCommand_framed hfits, checkedRequest, requestKindOf_unlisted h]

end

/-! ## The fields of a request (R149, R166) -/

theorem ofNat_leNat_two (lo hi : Byte) : BitVec.ofNat 16 (leNat [lo, hi]) = hi ++ lo := by
  refine BitVec.eq_of_toNat_eq ?_
  have := lo.isLt
  have := hi.isLt
  rw [BitVec.toNat_append, ← Nat.shiftLeft_add_eq_or_of_lt lo.isLt, Nat.shiftLeft_eq]
  simp only [leNat, BitVec.toNat_ofNat]
  omega

theorem settingFieldsOf_eq (n x burst lead gain lo hi shift rate deadband dither : Byte) :
    settingFieldsOf [n, x, burst, lead, gain, lo, hi, shift, rate, deadband, dither]
      = { burst := burst, lead := lead, gain := gain, limit := hi ++ lo, shift := shift, rate := rate
          deadband := deadband, dither := dither } := by
  rw [← ofNat_leNat_two]
  rfl

theorem pokedRowOf_get (x : Byte) {bytes : List Byte} (h : bytes.length = 32) (src : Bay) :
    bytes[2 * src.val]? = some ((pokedRowOf (x :: bytes)).get src).1
      ∧ bytes[2 * src.val + 1]? = some ((pokedRowOf (x :: bytes)).get src).2 := by
  have hbyte {i : Nat} (hi : i < 32) : bytes[i]? = some (byteAt (x :: bytes) (i + 1)) := by
    simp [byteAt, h, hi]
  rw [pokedRowOf, Tab.get_gen, Nat.add_comm 1, Nat.add_comm 2]
  exact ⟨hbyte (by omega), hbyte (by omega)⟩

end Sys2Proof.Machine
end

section
/-! PROOF. What a lane's receiver brings of the characters of a frame (R147, R148, R151), and
FramesAndRequestsReadBack. -/

namespace Sys2Proof.Machine

/-! ## The bits of a character (R147) -/

/-- The bits of a byte below `n`, set one by one. -/
theorem foldl_setBit_getLsbD (x : Byte) (n j : Nat) :
    ((List.range n).foldl (fun a i => if x.getLsbD i then a ||| BitVec.twoPow 8 i else a) 0#8).getLsbD j
      = (decide (j < n) && x.getLsbD j) := by
  induction n with
  | zero => simp
  | succ n ih =>
    rw [List.range_succ, List.foldl_concat]
    by_cases hjn : j = n
    · subst hjn
      cases hbit : x.getLsbD j with
      | false => simp [ih, hbit]
      | true => simp [BitVec.lt_of_getLsbD hbit]
    · have hlt : j < n + 1 ↔ j < n := by omega
      split <;> simp [ih, BitVec.getLsbD_twoPow, hlt, Ne.symm hjn]

theorem readCharacter_characterBits (x : Byte) : readCharacter (characterBits x) = .data x true := by
  have hbyte : (List.range 8).foldl
      (fun a i => if x.getLsbD i then a ||| BitVec.twoPow 8 i else a) 0#8 = x := by
    refine BitVec.eq_of_getLsbD_eq fun j hj => ?_
    rw [foldl_setBit_getLsbD, decide_eq_true hj, Bool.true_and]
  exact congrArg (LineChar.data · true) hbyte

/-! ## A byte at the receiver (R147, R148) -/

/-- A receiver that has heard these bytes of a frame since its start. -/
def receiverAt : List Byte → Receiver
  | [] => .waiting
  | x :: more => .inFrame (x :: more) 0

section
variable {b : Bay} {heard : List Byte} {x : LaneState}

theorem receiverAt_concat (heard : List Byte) (y : Byte) :
    receiverAt (heard ++ [y]) = .inFrame (heard ++ [y]) 0 := by
  cases heard <;> rfl

theorem receiveChar_receiverAt (hx : x ≠ .absent) (y : Byte) (m : Bool) :
    receiveChar b x (receiverAt heard) (.data y m) = receiveByte b (heard ++ [y]) m := by
  cases heard <;> exact if_neg hx

theorem receiveByte_unfinished {y : Byte} (h : Unfinished (heard ++ [y])) :
    receiveByte b (heard ++ [y]) true = (receiverAt (heard ++ [y]), []) := by
  rw [receiveByte, h.not_overlong, h.not_whole, receiverAt_concat]
  rfl

theorem receiveByte_framed {kind : Byte} {payload : List Byte} (hfits : payload.length ≤ 40) :
    receiveByte b (framed kind payload) true
      = (.settling 0, [laneFrameCommand b (framed kind payload)]) := by
  rw [receiveByte, framed_eq, frameOverlong_frameBody_concat hfits, frameWhole_frameBody_concat hfits]
  rfl

theorem receiveByte_overlong {kind len : Byte} (h : 40 < len.toNat) :
    receiveByte b [kind, len] true = (.settling 0, [.badFrame b .lengthOver40]) := by
  have hlong : frameOverlong [kind, len] = true := decide_eq_true h
  rw [receiveByte, hlong]
  rfl

end

/-! ## A run of characters at the receiver (R147, R148, R151) -/

/-- Characters with good stop bits, each with the lane's state at it. -/
def goodChars (l : List (LaneState × Byte)) : List (LaneState × LineChar) :=
  l.map fun z => (z.1, .data z.2 true)

section
variable {b : Bay} {heard : List Byte} {l : List (LaneState × Byte)}

theorem receiveLine_settling_goodChars (b : Bay) (l : List (LaneState × Byte)) :
    receiveLine b (.settling 0) (goodChars l) = [] := by
  have h := receiveLine_settling b 0 (l.map fun z => (z.1, z.2, true))
  rwa [List.map_map] at h

/-- Within a frame characters are gathered, and bring nothing yet. -/
theorem receiveLine_unfinished (hpresent : ∀ z ∈ l, z.1 ≠ .absent)
    (h : Unfinished (heard ++ l.map Prod.snd)) (rest : List (LaneState × LineChar)) :
    receiveLine b (receiverAt heard) (goodChars l ++ rest)
      = receiveLine b (receiverAt (heard ++ l.map Prod.snd)) rest := by
  induction l generalizing heard with
  | nil => rw [List.map_nil, List.append_nil]; rfl
  | cons z l ih =>
    obtain ⟨hz, hl⟩ := List.forall_mem_cons.mp hpresent
    rw [List.map_cons, List.append_cons] at h ⊢
    have hbyte : Unfinished (heard ++ [z.2]) := h.of_append
    rw [← ih hl h, goodChars, List.map_cons, List.cons_append, receiveLine, receiveChar_receiverAt hz,
      receiveByte_unfinished hbyte]
    rfl

/-- The character that ends a frame, good or bad, brings its command, and what follows it without idle
times brings nothing. -/
theorem receiveLine_ended (hpresent : ∀ z ∈ l, z.1 ≠ .absent) (h : Unfinished (l.map Prod.snd))
    {x : LaneState} (hx : x ≠ .absent) {y : Byte} {m : Bool} {c : Instr}
    (hbyte : receiveByte b (l.map Prod.snd ++ [y]) m = (.settling 0, [c])) (tail : List (LaneState × Byte)) :
    receiveLine b .waiting (goodChars l ++ (x, .data y m) :: goodChars tail) = [c] := by
  have hgathered := receiveLine_unfinished (b := b) (heard := []) hpresent h ((x, .data y m) :: goodChars tail)
  rw [List.nil_append] at hgathered
  refine hgathered.trans ?_
  rw [receiveLine, receiveChar_receiverAt hx, hbyte, receiveLine_settling_goodChars]
  rfl

/-- Two idle times within a frame cut it short. -/
theorem receiveLine_cutShort (hpresent : ∀ z ∈ l, z.1 ≠ .absent) (h : Unfinished (l.map Prod.snd))
    (hne : l ≠ []) {x : LaneState} (hx : x ≠ .absent) :
    receiveLine b .waiting (goodChars l ++ [(x, .idle), (x, .idle)]) = [.badFrame b .cutShort] := by
  have hgathered := receiveLine_unfinished (b := b) (heard := []) hpresent h [(x, .idle), (x, .idle)]
  refine hgathered.trans ?_
  obtain ⟨z, more, rfl⟩ := List.exists_cons_of_ne_nil hne
  simp [receiverAt, receiveLine, receiveChar, hx]

/-- A character of the frame on an ABSENT lane spoils the frame. -/
theorem receiveLine_absent (habsent : ∃ z ∈ l, z.1 = .absent)
    (h : Unfinished (heard ++ l.map Prod.snd).dropLast) :
    receiveLine b (receiverAt heard) (goodChars l) = [] := by
  induction l generalizing heard with
  | nil => exact absurd habsent (by simp)
  | cons z l ih =>
    rw [goodChars, List.map_cons, receiveLine]
    by_cases hz : z.1 = .absent
    · rw [hz, receiveChar_absent, discardChar_data]
      exact receiveLine_settling_goodChars b l
    · have hl : ∃ z ∈ l, z.1 = .absent := by simpa [hz] using habsent
      have hne : l.map Prod.snd ≠ [] := by
        rintro hnil
        simp [List.map_eq_nil_iff.mp hnil] at hl
      rw [List.map_cons, List.append_cons] at h
      have hbyte : Unfinished (heard ++ [z.2]) := by
        rw [List.dropLast_append_of_ne_nil hne] at h
        exact h.of_append
      rw [receiveChar_receiverAt hz, receiveByte_unfinished hbyte]
      exact ih hl h

end

/-! ## The characters of a frame (R147, R148, R151) -/

section
variable {b : Bay} {kind : Byte} {payload : List Byte} (hfits : payload.length ≤ 40)
include hfits

theorem receiveLine_framed {l : List (LaneState × Byte)} (hpresent : ∀ z ∈ l, z.1 ≠ .absent)
    (hbytes : l.map Prod.snd = framed kind payload) (tail : List (LaneState × Byte)) :
    receiveLine b .waiting (goodChars l ++ goodChars tail) = [laneFrameCommand b (framed kind payload)] := by
  rw [framed_eq] at hbytes
  obtain ⟨body, last, rfl, hbody, hlast⟩ := List.map_eq_append_iff.mp hbytes
  obtain ⟨z, rfl, hz⟩ := List.map_eq_singleton_iff.mp hlast
  have hbyte : receiveByte b (body.map Prod.snd ++ [z.2]) true
      = (.settling 0, [laneFrameCommand b (framed kind payload)]) := by
    rw [hbody, hz]
    exact receiveByte_framed hfits
  have hended := receiveLine_ended (fun z hz => hpresent z (List.mem_append_left _ hz))
    (hbody ▸ unfinished_frameBody hfits kind) (hpresent z (by simp)) hbyte tail
  rwa [goodChars, List.map_append, List.append_assoc]

/-- A frame's characters bring its command, unless the lane is ABSENT at one of them. -/
theorem receiveLine_framed_states {states : List LaneState}
    (hstates : states.length = (framed kind payload).length) :
    receiveLine b .waiting (states.zip ((framed kind payload).map fun x => .data x true))
      = if .absent ∈ states then [] else [laneFrameCommand b (framed kind payload)] := by
  have hfst : (states.zip (framed kind payload)).map Prod.fst = states := List.map_fst_zip hstates.le
  have hsnd : (states.zip (framed kind payload)).map Prod.snd = framed kind payload :=
    List.map_snd_zip hstates.ge
  rw [List.zip_map_right]
  split
  · next habsent =>
    rw [← hfst] at habsent
    obtain ⟨z, hz, hzabsent⟩ := List.mem_map.mp habsent
    refine receiveLine_absent (heard := []) ⟨z, hz, hzabsent⟩ ?_
    rw [List.nil_append, hsnd, framed_eq, List.dropLast_concat]
    exact unfinished_frameBody hfits kind
  · next hpresent =>
    have hready := receiveLine_framed (b := b) hfits
      (fun z hz habsent => hpresent (habsent ▸ List.of_mem_zip hz |>.1)) hsnd []
    rwa [goodChars, goodChars, List.map_nil, List.append_nil] at hready

end

/-! ## On a lane that keeps its state -/

/-- The characters of bytes, with good stop bits. -/
def cleanChars (bytes : List Byte) : List LineChar :=
  bytes.map fun z => .data z true

section
variable {b : Bay} {x : LaneState} (bytes : List Byte)

theorem map_cleanChars :
    ((cleanChars bytes).map fun ch => (x, ch)) = goodChars (bytes.map fun z => (x, z)) := by
  rw [cleanChars, goodChars, List.map_map, List.map_map]
  rfl

theorem map_snd_steady : (bytes.map fun z => (x, z)).map Prod.snd = bytes := by
  rw [List.map_map]
  exact List.map_id _

variable (hx : x ≠ .absent)
include hx

theorem steady_present : ∀ z ∈ bytes.map fun z => (x, z), z.1 ≠ .absent := by
  rintro z hz
  obtain ⟨y, -, rfl⟩ := List.mem_map.mp hz
  exact hx

theorem receiveLine_steady_framed {kind : Byte} {payload : List Byte} (hfits : payload.length ≤ 40)
    (more : List Byte) :
    receiveLine b .waiting ((cleanChars (framed kind payload ++ more)).map fun ch => (x, ch))
      = [laneFrameCommand b (framed kind payload)] := by
  rw [map_cleanChars, List.map_append, goodChars, List.map_append]
  exact receiveLine_framed hfits (steady_present (framed kind payload) hx) (map_snd_steady _) _

variable {bytes} (h : Unfinished bytes)
include h

theorem receiveLine_steady_ended {y : Byte} {m : Bool} {c : Instr}
    (hbyte : receiveByte b (bytes ++ [y]) m = (.settling 0, [c])) (more : List Byte) :
    receiveLine b .waiting ((cleanChars bytes ++ .data y m :: cleanChars more).map fun ch => (x, ch))
      = [c] := by
  rw [List.map_append, List.map_cons, map_cleanChars, map_cleanChars]
  refine receiveLine_ended (steady_present bytes hx) ?_ hx ?_ _ <;> rwa [map_snd_steady]

theorem receiveLine_steady_cutShort (hne : bytes ≠ []) :
    receiveLine b .waiting ((cleanChars bytes ++ [LineChar.idle, .idle]).map fun ch => (x, ch))
      = [.badFrame b .cutShort] := by
  rw [List.map_append, map_cleanChars]
  refine receiveLine_cutShort (steady_present bytes hx) ?_ (by simpa using hne) hx
  rwa [map_snd_steady]

end

/-! ## The obligation -/

/-- Settles O51: a frame cut is unfinished, a frame framed with its check is its kind's command, and the
receiver gathers a frame's bytes until one ends it. -/
theorem framesAndRequestsReadBack : Obligations.FramesAndRequestsReadBack := by
  refine ⟨fun b kind payload hfits => ?frame, ⟨rfl, fun bytes x => ?check⟩,
    fun b x y burst lead gain lo hi shift rate deadband dither bytes => ?fields,
    fun k kind payload hfits => ?request⟩
  case frame =>
    have hgood (code : Byte) := laneFrameCommand_framed hfits code b
    have hcut {n : Nat} (hn : n < (framed kind payload).length) := unfinished_take_framed hfits kind hn
    refine ⟨hgood _, hgood _, hgood _, hgood _, hgood _,
      fun h => (hgood kind).trans (goodFrameCommand_unknown h b payload),
      fun check hcheck => (laneFrameCommand_frameBody_concat hfits kind check b).trans (if_neg hcheck.symm),
      fun n hn => (hcut hn).laneFrame_cutShort b, fun states => receiveLine_framed_states hfits,
      readCharacter_characterBits kind, fun x len y more hx => ?_⟩
    refine ⟨receiveLine_steady_framed hx hfits more, fun hlen => ⟨if_pos hlen, ?_⟩,
      fun n hn => ⟨receiveLine_steady_ended hx (hcut hn) rfl more, fun hpos => ?_⟩⟩
    · exact receiveLine_steady_ended hx (bytes := [kind]) trivial (receiveByte_overlong hlen) more
    · refine receiveLine_steady_cutShort hx (hcut hn) (List.length_pos_iff.mp ?_)
      rw [List.length_take]
      omega
  case check =>
    rw [crc8_concat, foldl_crcStep, List.length_range]
  case fields =>
    intro n w
    have hhead (rest : List Byte) : (n :: rest).head? = some (BitVec.ofNat 8 b.val) := rfl
    refine ⟨requestCommand_bay (k := .settingRead) rfl rfl (hhead _), ?setting,
      requestCommand_noBay (k := .hubRead) rfl rfl, ?divisor,
      requestCommand_noBay (k := .freeze) rfl rfl, requestCommand_noBay (k := .thaw) rfl rfl,
      requestCommand_bay (k := .peekRow) rfl rfl (hhead _),
      fun h => ⟨_, requestCommand_bay (k := .pokeRow) (congrArg (· + 1) h) rfl (hhead _),
        pokedRowOf_get n h⟩,
      requestCommand_bay (k := .activeRowRead) rfl rfl (hhead _),
      requestCommand_bay (k := .bayInspect) rfl rfl (hhead _),
      requestCommand_bay (k := .exposureRead) rfl rfl (hhead _),
      requestCommand_noBay (k := .attentionRead) rfl rfl,
      requestCommand_noBay (k := .attentionClear) rfl rfl,
      requestCommand_noBay (k := .attentionConfigure) rfl rfl,
      requestCommand_bay (k := .bayReset) rfl rfl (hhead _),
      requestCommand_noBay (k := .hubReset) rfl rfl⟩
    case setting =>
      have hw : settingFieldsOf [n, x, burst, lead, gain, lo, hi, shift, rate, deadband, dither] = w :=
        settingFieldsOf_eq ..
      rw [← hw]
      exact requestCommand_bay (k := .settingWrite) rfl rfl (hhead _)
    case divisor =>
      rw [← ofNat_leNat_two]
      exact requestCommand_noBay (k := .hubWrite) rfl rfl
  case request =>
    exact ⟨fun hlength hbay b => requestCommand_bay hlength hbay, requestCommand_noBay,
      fun hlength hbay x => requestCommand_badBay hlength hbay, requestCommand_wrongLength hfits,
      requestCommand_unknownKind hfits,
      fun check hcheck => (requestCommand_frameBody_concat hfits kind check).trans
        (congrArg some (if_neg hcheck.symm)),
      fun n hn => (unfinished_take_framed hfits kind hn).request_none⟩

end Sys2Proof.Machine
end
